-- ==== Sys2Proof/Word.lean ====
section
/-!
DEFINITION. The word types of the controller (spec/00 R12, spec/00 "Registers": all registers are
32 bits wide) and their plainest arithmetic. Everything a test could show wrong lives elsewhere.
-/

namespace Sys2Proof

/-- A register or an engine value register: 32 bits. -/
abbrev Word := BitVec 32

/-- One byte of a memory, a frame or a record. -/
abbrev Byte := BitVec 8

/-- A 64-bit accumulator or a 64-bit engine instruction word. -/
abbrev DWord := BitVec 64

/-- Twelve portals, portal engines and portal slots (R2). -/
abbrev Slot := Fin 12
/-- Sixteen servo axes (R2). -/
abbrev Sax := Fin 16
/-- Twelve step axes (R2). -/
abbrev Stx := Fin 12
/-- Twenty-eight encoder channels: 0 to 15 servo, 16 to 27 step (R2). -/
abbrev Enc := Fin 28
/-- Twenty-eight profile generators: 0 to 15 servo axes, 16 to 27 step axes (R22). -/
abbrev Axis := Fin 28
/-- Forty-eight protected high-side switches (R2). -/
abbrev Ch := Fin 48
/-- Ninety-six digital inputs (R2). -/
abbrev Din := Fin 96
/-- Twenty-four sensitive-edge inputs (R2). -/
abbrev Edge := Fin 24

end Sys2Proof
end

