-- ==== Sys2Proof/Machine/Mem.lean ====
section
/-!
DEFINITION. Sparse storage: a list of (address, value) pairs in one canonical form (addresses
strictly rising, no entry equal to what an unlisted address reads as). It holds the register file,
where an unlisted address reads as the register's reset value, and the addressed memories (table
memory, engine data memories, trace RAM, bundle slots), where it reads as zero (R350, R396 WIPE).
-/

namespace Sys2Proof.Machine

/-- A sparse store of `w`-bit cells. -/
abbrev Cells (w : Nat) := List (Nat × BitVec w)

/-- What address `a` reads as, `dflt` saying what an unlisted address holds. -/
def Cells.read {w : Nat} (dflt : Nat → BitVec w) : Cells w → Nat → BitVec w
  | [], a => dflt a
  | (b, v) :: m, a => if b = a then v else Cells.read dflt m a

/-- The store without address `a`. -/
def Cells.erase {w : Nat} (m : Cells w) (a : Nat) : Cells w := m.filter (fun p => p.1 != a)

/-- Insert in address order, replacing an entry of the same address. -/
def Cells.insert {w : Nat} : Cells w → Nat → BitVec w → Cells w
  | [], a, v => [(a, v)]
  | (b, u) :: m, a, v =>
    if a < b then (a, v) :: (b, u) :: m
    else if a = b then (a, v) :: m
    else (b, u) :: Cells.insert m a v

/-- Write `v` at `a`, keeping the canonical form. -/
def Cells.write {w : Nat} (dflt : Nat → BitVec w) (m : Cells w) (a : Nat) (v : BitVec w) : Cells w :=
  if v = dflt a then m.erase a else m.insert a v

/-- The addresses rise strictly. -/
def Cells.sorted {w : Nat} : Cells w → Bool
  | [] => true
  | [_] => true
  | (a, _) :: (b, v) :: m => decide (a < b) && Cells.sorted ((b, v) :: m)

/-- The canonical form: strictly rising addresses, no entry equal to its default. -/
def Cells.wf {w : Nat} (dflt : Nat → BitVec w) (m : Cells w) : Bool :=
  m.sorted && m.all (fun p => p.2 != dflt p.1)

/-- What an unlisted cell of a zeroed memory reads as. -/
def zeroCell {w : Nat} : Nat → BitVec w := fun _ => 0

/-- Write a run of values at consecutive addresses `step` apart. -/
def Cells.writeRun {w : Nat} (dflt : Nat → BitVec w) (step : Nat) :
    Cells w → Nat → List (BitVec w) → Cells w
  | m, _, [] => m
  | m, a, v :: vs => Cells.writeRun dflt step (Cells.write dflt m a v) (a + step) vs

/-- Read `n` values from consecutive addresses `step` apart. -/
def Cells.readRun {w : Nat} (dflt : Nat → BitVec w) (step : Nat) (m : Cells w) : Nat → Nat → List (BitVec w)
  | _, 0 => []
  | a, n + 1 => Cells.read dflt m a :: Cells.readRun dflt step m (a + step) n

end Sys2Proof.Machine
end

