-- ==== Sys2Proof/Machine/Types.lean ====
section
/-!
DEFINITION. The pieces of the controller's state that no register holds: sequencers, queues, timers
and latches that the spec's rules name. Registers themselves live in the register file (RegMap).
All times are counted in 5 ns units from the arrival of VFLD; `Option Nat` times are start instants
of a timer that runs, `none` while it does not.
-/

namespace Sys2Proof.Machine

/-! ### Records (spec/13) -/

/-- KIND of a record (R302). -/
inductive RecKind where
  | cycle | event | snapshot | tally | seal
  deriving DecidableEq, Repr

/-- A record request (R303, R307): what the recorder holds in a FIFO or a cycle slot. `body` is bytes
24 and up of the record; the header fields are those filled in at the request. -/
structure Req where
  kind : RecKind
  sev : Nat
  src : Nat
  pwr : Nat := 0
  opTime : Nat := 0
  tick : Nat := 0
  order : Nat := 0          -- the command that brought the request: which of two cycle records is older (R310)
  portal : Nat := 0xFF      -- car-level portal of a cycle record (R64 byte 24)
  cycleNo : Nat := 0        -- CYCLE_NO of a cycle record
  body : List Byte
  deriving DecidableEq, Repr

/-- A record in the buffer or the store: its SEQ and its request (R302, R303). -/
structure Rec where
  seq : Nat
  req : Req
  deriving DecidableEq, Repr

/-- An operand that asks the recorder for a record (R304, R307): an event, or a portal's cycle record with
the bytes 24 and up of its body. -/
inductive RecordAsk where
  | event (src : Fin 64) (sev : Fin 5) (flag inst : Byte) (data : List Word)
  | cycle (slot : Slot) (sev : Fin 5) (body : List Byte)
  deriving DecidableEq, Repr

/-- REASON of a tally record (R306). -/
inductive TallyReason where
  | intakeFull | priorityFull | safetySaturated | recorderOffline | storeFull | mbxExcess
  deriving DecidableEq, Repr

/-- A pending tally count (R306, R310). -/
structure Tally where
  src : Nat
  reason : TallyReason
  sevMask : Nat
  sevMax : Nat
  count : Nat
  first : Nat
  last : Nat
  deriving DecidableEq, Repr

/-- A record as written in NAND: its page and the page trailer's ORIGIN and PFLAGS (R322). -/
structure Stored where
  item : Rec
  origin : Nat
  adopted : Bool
  reclaimCopy : Bool
  returned : Bool
  block : Nat
  page : Nat
  chain : Nat          -- the region's chain value after this record
  deriving DecidableEq, Repr

/-- A record mirrored by another member (R311): the port it came in on, its sender and its own-area
offset at the sender; `marked` once a FLUSH_MARK covers it (R313). -/
structure Mirrored where
  item : Rec
  origin : Nat
  west : Bool
  ofs : Nat
  marked : Bool
  deriving DecidableEq, Repr

/-! ### Motion (spec/04) -/

/-- What the entries after a COORD entry contribute to a phase in which they are superposed on it (R110): displacement,
velocity, acceleration and jerk. -/
structure Over where
  x : Rat
  v : Rat
  a : Rat
  j : Rat
  deriving DecidableEq, Repr

/-- One constant-jerk phase of a plan (R97): start values, jerk and duration in seconds and counts;
`ent` counts queue entries from the running one, `phase` is the number MSTAT.PHASE shows, and `fol` is the part of the
values that belongs to the entries after the running one. -/
structure Seg where
  x : Rat
  v : Rat
  a : Rat
  j : Rat
  dur : Rat
  ent : Nat
  phase : Nat
  fol : Option Over
  deriving DecidableEq, Repr

/-- A queue entry (R102): target in 1/256 count, SPEED, BLEND, COORD and the swing target;
`vcap` is the speed of a homing move (R116), `clamp` that the governor lowered the cruise when it was planned (R100). -/
structure Entry where
  tgt : Int
  speed : Nat
  blend : Bool
  coord : Bool
  tgt2 : Int
  vcap : Option Nat := none
  clamp : Bool := false
  deriving DecidableEq, Repr

/-- An MCMD write as taken (R102, R121): the code and the move registers at the write. -/
structure McmdWrite where
  code : Nat
  tgt : Int
  attr : Word
  tgt2 : Int
  fromEngine : Bool
  deriving DecidableEq, Repr

/-- HOME_STEP of MSTAT (R95, R116). -/
inductive HomeStep where
  | idle | seek | seekStop | backOff | approach | approachStop | park
  deriving DecidableEq, Repr

/-- A debounced edge awaiting its latch (R114): the stamp of its onset and the strobe instant of the
snapshot in which the change first appeared. -/
structure LatchPend where
  stamp : Nat
  made : Bool                  -- the new level after LATCH_CFG.INV
  seenAt : Option Nat := none
  deriving DecidableEq, Repr

/-- The generator of one axis beside its motion page. Plans run in counts and seconds; `segs` of a slaved
swing axis are the swing's part of the slide's queue (R109). -/
structure MotAxis where
  sp : Int := 0                 -- S_k, 1/256 count
  spPrev : Int := 0             -- S_(k-1)
  spPrev2 : Int := 0
  x : Rat := 0                  -- planned position, velocity, acceleration at the end of the issued period
  v : Rat := 0
  a : Rat := 0
  segs : List Seg := []         -- the plan from here on; `ent` 15 marks a run-down
  clk : Rat := 0                -- time into the first of `segs`
  queue : List Entry := []
  lastTgt : Int := 0            -- target of the last entry queued, or the rest position
  running : Bool := false       -- from the start of a plan until PROFILE_END (R92)
  quick : Bool := false         -- the run-down in progress uses STOP_A and STOP_J
  above : Bool := false          -- faster than a bound that a commit lowered (R101)
  slaveOf : Option Nat := none  -- slide axis whose queue drives this axis (R108)
  silenced : Bool := false      -- frozen until enable or REALIGN (R119)
  alignDue : Bool := false      -- enabled: the next set-point is the axis position (R93)
  replan : Bool := false        -- limits changed by a commit (R101)
  vKeO : Rat := 0               -- governor speeds, 0 = no governor (R100)
  vKeC : Rat := 0
  mcmds : List McmdWrite := []  -- writes waiting for their tick, oldest first (R121)
  mcmdCnt : Nat := 0            -- writes taken this position period
  hist : List (Nat × Int) := [] -- strobe time and position, newest first (R114)
  cmpArm : List Nat := []       -- arming writes taking effect at the next strobe (R111)
  cmpLive : List Nat := []      -- compares that the front end holds armed since a strobe (R34, R111)
  cmpWait : List Nat := []      -- of those, the ones that wait on the far side (R111)
  latch : List LatchPend := []
  home : HomeStep := .idle
  refDue : Bool := false        -- a reference close awaits its latch on this axis (R57)
  deriving DecidableEq, Repr

/-! ### Encoder channels (spec/05) -/

/-- The two wires of a pair in one sample (R123). -/
structure Wires where
  p : Bool
  n : Bool
  deriving DecidableEq, Repr

/-- One sample of a channel's pairs, every 10 ns (R123). -/
structure EncSample where
  a : Wires
  b : Wires
  z : Wires
  deriving DecidableEq, Repr

/-- What the front end of a channel takes at a sample: its wires, or the look for an index event (R131). -/
inductive EncEvt where
  | sample (t : Nat) (s : EncSample)
  | index (t : Nat)
  deriving DecidableEq, Repr

/-- The decoder's speed measurement and the index and cross-read memory of one channel (R129, R131, R132,
R137). Stamps are 5 ns units. -/
structure EncCh where
  restart : Bool := true
  cRef : Int := 0
  tRef : Nat := 0
  cLast : Int := 0
  tLast : Nat := 0
  lastDir : Int := 0
  newEdge : Bool := false
  per : Rat := 0                -- PERIOD, 5 ns units
  latchKnown : Bool := false    -- INDEX_LATCH was taken since enable, DRIFT_CLR or a clear (R132)
  hallB : Nat := 0              -- sector boundary of the last HALL_LATCH: between hallB - 1 and hallB (R150)
  zArmed : Bool := true         -- Z has been inactive since the last index event (R131)
  uncPend : Bool := false       -- sets POS_UNCERTAIN at the next position tick (R127, R132)
  aligned : Bool := false       -- a first copy has set ALIGN (R137)
  xreadBad : Bool := false      -- the last copy differed by more than 2
  lvl : List Bool := [false, false, false]  -- levels of the lines A, B and Z (R123)
  run : List Nat := [4, 4, 4]   -- consecutive samples at that level, up to 4 (R124)
  sampAt : Nat := 0             -- time of the last sample
  held : List EncEvt := []      -- samples on or after the awaited strobe instant, oldest first (R128)
  recent : List (Nat × Int) := []  -- count from the given sample on, newest first, for the last 1 µs (R134)
  illAt : Option Nat := none    -- sample of the last illegal transition (R132)
  winAt : Nat := 0              -- count of position ticks at which the illegal window started (R127)
  uncReq : Bool := false        -- UNC_CLR awaits its strobe (R136)
  deriving DecidableEq, Repr

/-! ### Interlock (spec/03) -/

/-- A pair state, as reported in ILK.STATUS (R70). -/
inductive PairSt where
  | absent | present | transit | discrepant
  deriving DecidableEq, Repr

/-- One slot of the interlock map (R83): bytes as PRTn.INPUT_MAP. -/
structure IlkSlot where
  en : Bool
  right : Bool
  isoExcl : Bool
  closed1 : Nat
  closed2 : Nat
  locked1 : Nat
  locked2 : Nat
  stepRet : Nat
  isolate : Nat
  deriving DecidableEq, Repr

/-- The interlock map of a bundle (R83): TL_DEB ms, TL_DISC 10 ms, KILL_CONFIRM 0.1 ms, SAMPLE 10 µs,
DIN_DEB µs, the class code of HS40 to HS47, twelve slots, and the digest of the section. -/
structure IlkMap where
  tlDeb : Nat
  tlDisc : Nat
  killConfirm : Nat
  sample : Nat
  dinDeb : Nat
  lockClass : List Nat
  slots : List IlkSlot
  digest : Nat
  deriving DecidableEq, Repr

/-- The interlock beside the ILK registers. -/
structure Ilk where
  tlLvl : List Bool := List.replicate 9 false    -- debounced level, order of ILK.TL_RAW
  tlQual : List Bool := List.replicate 9 false
  pairs : List PairSt := List.replicate 4 .absent  -- release left, right, zero velocity, close
  discAt : List (Option Nat) := List.replicate 4 none
  map : Option IlkMap := none                    -- the locked map
  stale : List Nat := []                         -- map inputs counted not made (R76)
  rb : Bool := false                             -- filtered DLP_RB
  kill : Bool := false
  killAt : Option Nat := none                    -- confirm interval of R77
  openAt : Option Nat := none                    -- confirm interval of R78
  permOff : List (Option Nat) := [some 0, some 0]     -- PERM_L, PERM_R false since (R73)
  mismatch : Bool := false                       -- a resent map differed; posture holds until RST_N (R85)
  ovrdSeen : Bool := false
  counts : List Nat := List.replicate 12 0       -- occurrences of each flag, saturating (R88)
  told : List Nat := List.replicate 12 0         -- of those, recorded
  limA : Bool := false                           -- DLP_A or DLP_B cut off by its current limit (R435)
  deriving DecidableEq, Repr

/-! ### Timebase (spec/01, spec/19) -/

/-- The timebase beside the TBS registers. -/
structure TimeSt where
  now : Nat := 0                 -- 5 ns units since VFLD arrived
  tc0 : Option Nat := none       -- origin of the time counter (R27)
  frozenTc : Nat := 0            -- time counter while it is held
  rstN : Bool := false           -- RST_N is high
  pllLock : Bool := false
  xtalOk : Bool := true
  nextK : Nat := 0               -- index k of the next valley (R29)
  nextValley : Nat := 0          -- its time
  lastStrobe : Nat := 0
  posTicks : Nat := 0            -- position ticks issued (PSEQ of R279)
  posRun : Nat := 0              -- position ticks seen, which no SYNC frame sets (R127)
  periodStart : Nat := 0         -- time of the last position tick
  timeHi : Word := 0             -- high half latched by a TIME_LO read (R422)
  slowest : Nat := 0             -- slowest replica of the period so far, 1/256 ns (R224)
  minNom : Option Int := none    -- smallest MARGIN_NOM and MARGIN reported in the period so far (R224)
  minCur : Option Int := none
  replErr : Bool := false        -- a REPLICA_ERR tick in the period
  holdAt : Option Nat := none    -- RETURN_HOLD since (R226)
  shadowClosed : Bool := false   -- the shadow registers have closed for this period (R31)
  goAt : Nat := 0                -- time of the pending COMMIT.GO (R402)
  deriving DecidableEq, Repr

/-! ### Field inputs, edges and switches (spec/11) -/

/-- One digital input (R255, R257): whether a first level has been accepted, whether and since when the quality is
invalid, and the foreign-voltage condition. -/
structure DinCh where
  accepted : Bool := false
  inv : Bool := true
  invAt : Nat := 0
  causeEnd : Nat := 0        -- samples count only after this instant (R257)
  foreign : Bool := false
  deriving DecidableEq, Repr

/-- A reading of a digital input's comparator (R254, R257): a level, or a voltage above the foreign-voltage level. -/
inductive DinSample where
  | level (v : Bool) | foreign
  deriving DecidableEq, Repr

/-- One sensitive edge (R177, R258): the last band measured and the foreign condition. -/
structure EdgeCh where
  cand : Nat := 7
  foreign : Bool := false
  marginAt : Option Nat := none   -- LOW or HIGH since (R178)
  deriving DecidableEq, Repr

/-- States of a switch channel (R263), codes of HSn_STATUS.STATE. -/
inductive HsSt where
  | off | on | limit | retryWait | latchedOff | thermal | sagOff
  deriving DecidableEq, Repr

/-- One switch channel beside its registers (R262 to R268). -/
structure HsCh where
  req : Bool := false          -- request bit (R262 step 1)
  held : Bool := false         -- request in force at posture entry, for hold-last
  st : HsSt := .off
  spent : Nat := 0
  limAt : Option Nat := none   -- LIMIT since
  retryAt : Option Nat := none -- RETRY_WAIT since
  onAt : Option Nat := none    -- ON without LIMIT since
  sagRetry : Bool := false     -- was in RETRY_WAIT at sag entry (R268)
  ext : Bool := false          -- an external voltage is read
  lastDiag : Nat := 0          -- result of the last off-state windows: 0 clean, 1 OPEN_LOAD, 3 external
  diagCnt : Nat := 0           -- consecutive windows that agree
  turnOn : Option Nat := none  -- time the output last turned on (R265 BACKFEED)
  diag : Nat := 0              -- result reported, codes of HSn_STATUS.DIAG
  tested : Bool := false       -- some test has been able to run since reset
  deriving DecidableEq, Repr

/-- What a write asks of a request bit: a value, or the opposite of the one it finds (R113 TOGGLE). -/
inductive ReqAct where
  | put (v : Bool) | toggle
  deriving DecidableEq, Repr

/-- A write to a channel's request bit: its rank (0 host, 1 program, 2 + i compare i), the upstream spine frame that
carries it, and the bit before the first write of that frame (R113, R262). -/
structure FrameReq where
  chan : Nat
  rank : Nat
  frame : Nat
  first : Bool
  act : ReqAct
  deriving DecidableEq, Repr

/-- Field inputs, edges, switches, sense and sag beside their registers. -/
structure FieldIO where
  dins : Vector DinCh 96 := Vector.replicate 96 {}
  edges : Vector EdgeCh 24 := Vector.replicate 24 {}
  hs : Vector HsCh 48 := Vector.replicate 48 {}
  sag : Bool := false
  sagEnd : Nat := 0            -- end of the last sag state, for the group restarts
  posture : Bool := true
  lost : List Nat := []        -- inputs that lost quality since the last QUAL_BACK
  selPin : Option Nat := none  -- candidate level of SNS_SEL (R269)
  reqSnap : List Bool := List.replicate 48 false  -- request bits at the last strobe instant (R250)
  frame : List FrameReq := []  -- request writes since the last upstream frame, in the order they apply (R262)
  image : Option (Cells 32) := none  -- the last good downstream image while bad frames stand (R24)
  badDn : Bool := false        -- the last downstream, upstream frame failed its CRC (R25)
  badUp : Bool := false
  failsDn : List Nat := []     -- times of failed frames within the last 1 ms
  failsUp : List Nat := []
  tripDn : Bool := false       -- spine tripped at the control-die end, the field-die end
  tripUp : Bool := false
  silent : Bool := false       -- no good upstream frame since a silence or a trip (R26)
  reqDue : List (Ch × Bool) := []  -- requests sent while the last upstream frame was bad, oldest first (R24)
  upImage : Option (Cells 32) := none  -- the settings of the last good upstream image while bad frames stand (R24)
  grpPast : List (List (Nat × Word)) := List.replicate 12 []  -- per input group: settings of GRP_CFG no longer in force, newest
                                                              -- first, each with the instant at which it ended (R255)
  lostAt : Nat := 0            -- instant and command of the last QUAL_LOST, and the inputs it counts (R257)
  lostOrder : Nat := 0
  lostNow : List Nat := []
  deriving DecidableEq, Repr

/-! ### Portals (spec/02, spec/07) -/

/-- Accumulators of the cycle in progress (R64). Durations in 5 ns units are turned into whole
milliseconds between housekeeping ticks when the record is laid out. -/
structure Acc where
  flags : Nat := 0
  tUnlock : Nat := 0
  tLock : Nat := 0
  tOpen : Nat := 0
  tDwell : Nat := 0
  tClose : Nat := 0
  tStepExt : Nat := 0
  tStepRet : Nat := 0
  iPeak : Rat := 0
  fRes : Rat := 0
  edgeActs : Nat := 0
  curtActs : Nat := 0
  reversals : Nat := 0
  tempPeak : Int := -128
  energy : Rat := 0
  closeLatch : Word := 0
  openSrc : Nat := 0
  closeSrc : Nat := 0
  rule7 : Bool := false        -- the cycle went by rule 7 (RESULT 03h)
  deriving DecidableEq, Repr

/-- The door program's variables of one portal that no register holds. -/
structure Portal where
  evaluated : Bool := false          -- first housekeeping evaluation done (R43)
  enteredAt : Nat := 0               -- time PSTATE was entered
  lastHk : Nat := 0                  -- time of the last housekeeping task
  cmd : Option Nat := none           -- pending PRTn.CMD code (R51)
  cmdGate : Bool := false            -- it came as a gated write with the ISOLATE right (R346)
  closeLatch : Bool := false         -- accepted close request (R48)
  closeNew : Bool := false           -- a close that counts as new in OBSTRUCTED (R184)
  tlPrev : Bool := false             -- train-line close at the last housekeeping tick
  relPrev : Bool := false            -- release at the last housekeeping tick
  isoHost : Bool := false
  isoIn : Bool := false
  warnAt : Option Nat := none        -- pre-close warning since (R52)
  curtAt : Option Nat := none        -- curtain blocked toward CURTAIN_MAX since
  paused : Nat := 0                  -- pause time of this CLOSING, not counted in CLOSE_MAX
  lockAt : Option Nat := none        -- LOCK_REL_MAX or LOCK_ENG_MAX timer
  quals : List (Option Nat) := List.replicate 14 none  -- each mapped input, edges A and B last: invalid since (R56)
  stepAt : Option Nat := none        -- step move started
  waitAt : Option Nat := none        -- reversal wait since (R182)
  revMove : Bool := false            -- reverse move in progress
  revLive : Bool := false            -- the leaves have started toward open (R175)
  edgeBroke : Bool := false          -- FAULT EDGE_BROKEN at the end of the reverse move (R56)
  stallMark : Bool := false          -- step task marked the step for STALLED (R203)
  engExc : Bool := false             -- exception on this portal's engine
  engTaken : Bool := false           -- and another member takes the portal over (R230)
  lockReq : Bool := false            -- this portal requests its lock channel (R41)
  holdNs : Bool := false             -- NOT_STARTED held for the other candidate (R401)
  offDue : Bool := false             -- bridges to go off when the axes are at rest (R53)
  preFault : Nat := 0                -- cause to enter FAULT with, from an obstacle task
  cycOn : Bool := false              -- a door cycle is in progress (R62)
  acc : Acc := {}
  powerLoss : Bool := false          -- flushed mid-cycle (R66)
  newStroke : Bool := false          -- entered CLOSING or OPENING since the last obstacle tick
  bandA : Nat := 0                   -- last valid bands
  bandB : Nat := 0
  edgeSeen : Nat := 0                -- bands that acted already, bit per edge
  curtSeen : Bool := false
  thermPrev : Bool := false
  heatOn : Nat := 0                  -- heater on-time, 5 ns units
  clean : Bool := false              -- the stroke in progress is clean so far (R187)
  sums : List (Rat × Nat) := List.replicate 8 (0, 0)   -- live samples per zone in this stroke
  fresh : List Bool := List.replicate 16 true          -- drift mean to be restarted: open 0 to 7, close 8 to 15
  openTgt : Int := 0                 -- slide target of the move in progress, 1/256 count
  blockDue : Bool := false           -- rule 9: the leaves run down before OPEN with OPEN_BLOCKED
  autoDue : Bool := false            -- release has arrived, for auto-open (R48 rank 10)
  closeBy : Nat := 0                 -- source code of the latched close of highest rank
  closedPrev : List Bool := [false, false]  -- CLOSED inputs at the last housekeeping tick
  confirms : List Nat := [0, 0]      -- confirmation counts of slide and swing axis (R175)
  deriving DecidableEq, Repr

/-! ### Servo axes (spec/06) -/

/-- The standard servo program's variables and the front end's latches of one axis. Words are binary32. -/
structure Servo where
  intX : Word := 0
  intV : Word := 0
  intD : Word := 0
  intQ : Word := 0
  eX : Word := 0
  eV : Word := 0
  eD : Word := 0
  eQ : Word := 0
  vc : Word := 0               -- velocity correction v_c
  vref : Word := 0             -- v_set + v_c of the last speed task
  iff : Word := 0
  ffFric : Word := 0           -- F_f
  fCog : Word := 0
  iqRef : Word := 0
  iqs : List Word := []        -- recent i_q, newest first (R170)
  act : List Nat := [0, 0, 0]  -- active duties U, V, W, Q0.16
  actPrev : List Nat := [0, 0, 0] -- those of the period before (R147)
  angSet : Bool := false       -- ANG_OFS has been set since enable (R150)
  silenced : Bool := false     -- stays silenced until EN 0 then 1 (R162)
  zeroed : Bool := false       -- EN has been written 0 since the silencing
  enReqs : List Bool := []     -- writes of CTRL.EN that the next strobe makes visible, oldest first (R34)
  dsmLatch : Bool := false     -- stuck bitstream latched with DSM_TRIP = 1 (R161)
  pub : List Word := List.replicate 15 0    -- publication slots, nodes 09h to 17h
  pubPrev : List Word := List.replicate 15 0 -- as they stood at the last strobe (R164)
  partner : Option (Bool × Word × Bool × Word) := none -- SEALED and CRC of A and B in the last STATE copy
  fMean : Rat := 0
  swapReq : Option (Bool × Bool) := none -- BANK_CTRL.REQ waiting for the next strobe: bank, gated (R159)
  deriving DecidableEq, Repr

/-! ### Step axes (spec/08) -/

/-- Phase of a coil's chopper cycle (R197). -/
inductive ChopPhase where
  | off | blank | on | fast | slow
  deriving DecidableEq, Repr

/-- One coil's chopper. `plus` is the drive sign of the on phase, present or last; `shorts` counts on phases with the
comparator high at the end of blanking (R198); `hi` and `lo` are the times with +VBUS and −VBUS on the coil since the
last strobe instant, up to `mark` (R200). -/
structure Coil where
  phase : ChopPhase := .off
  plus : Bool := true
  shorts : Nat := 0
  onAt : Nat := 0                -- start of the on phase
  offAt : Nat := 0               -- start of the off-time
  mark : Nat := 0
  hi : Nat := 0
  lo : Nat := 0
  deriving DecidableEq, Repr

/-- One step axis beside its registers. -/
structure StepDrv where
  coilA : Coil := {}
  coilB : Coil := {}
  silenced : Bool := false
  zeroed : Bool := false         -- EN has been written 0 since the causes were acknowledged (R198)
  enReqs : List Bool := []       -- writes of CTRL.EN that the next strobe makes visible, oldest first (R34)
  dsmLatch : Bool := false       -- stuck bitstream latched with DSM_TRIP = 1 (R198)
  issuedSnap : Int := 0          -- issued count at the last strobe instant (R33)
  issued : Int := 0              -- issued count m: axis position less POS_OFFSET (R194)
  seqFrom : Int := 0             -- issued count at the strobe that started the current period (R195)
  seqBy : Int := 0               -- microsteps of the current period, signed
  seqDone : Nat := 0             -- of those, issued
  seqT0 : Nat := 0               -- that strobe's time
  origin : Int := 0              -- issued count at the ledger origin
  encOrigin : Int := 0           -- encoder count at the ledger origin (R201)
  standAt : Nat := 0             -- time of the last microstep (R199)
  stood : Bool := false          -- the standstill timer has reached HOLD_DLY since (R199)
  joinAt : Option Nat := none    -- time at which an entry last joined the queue (R206)
  laCnt : Nat := 0               -- confirmation of the EMF criterion (R202)
  lostSet : Bool := false        -- SRC_LOST set in this move
  hist : List (Word × Word × Word × Word) := []  -- i_A, i_B, VDUTY_A, VDUTY_B, newest first
  issuedHist : List Int := []    -- issued count at recent strobe instants, newest first (R200)
  deriving DecidableEq, Repr

/-! ### The trace unit (spec/06) -/

/-- States of the trace unit, codes of TRC.STATUS.STATE. -/
inductive TrcSt where
  | idle | preTrig | armed | post | done
  deriving DecidableEq, Repr

/-- The trace unit: settings taken at arming, ring write pointer, counters and the port. -/
structure TraceSt where
  st : TrcSt := .idle
  mode : Nat := 0
  div : Nat := 1
  sel : List Word := List.replicate 8 0x1D
  trig : Word := 0
  divCnt : Nat := 0
  taken : Nat := 0             -- samples since arming
  postCnt : Nat := 0           -- samples since the trigger
  manual : Bool := false
  last : Option Word := none   -- last sample of the trigger channel
  pstPrev : Nat := 0xF         -- PSTATE of the trigger portal at the last sample
  ram : Cells 32 := []         -- word c * 8192 + i
  seq : Nat := 0               -- port frames sent, modulo 256
  frame : List (BitVec 4) := []  -- nibbles of the last port frame
  deriving DecidableEq, Repr

/-! ### Portal engines (spec/09, spec/10) -/

/-- CLASS of a task descriptor (R217). -/
inductive TaskClass where
  | mandatory | optional | selfCheck | reserved
  deriving DecidableEq, Repr

/-- A task descriptor (R217). -/
structure TaskDesc where
  cls : TaskClass
  id : Nat
  nsel : Nat          -- number of dispatch entries minus 1
  selAddr : Nat
  dispAddr : Nat      -- offset of the dispatch table from 20_0000h, 8-byte units
  wcet : Nat
  spare : Nat := 0    -- the reserved bits 51:44
  deriving DecidableEq, Repr

/-- An itinerary row (R217): its header's fields, `spare` the header's remaining bits, and its descriptors. -/
structure ItinRow where
  mask : Nat
  ntask : Nat
  rowWords : Nat
  spare : Nat := 0
  tasks : List TaskDesc
  deriving DecidableEq, Repr

/-- The standard task that a TASK_ID of an image stands for (R30, R141, log 49). -/
inductive StdTask where
  | position | speed | current | step | obstacle | housekeeping | other
  deriving DecidableEq, Repr

/-- A table descriptor (R244): FIXED with a window, BANK with a role and an array, or a reserved value. -/
inductive TblDesc where
  | fixed (wrap : Bool) (base limit : Nat)
  | bank (wrap : Bool) (swing : Bool) (array : Nat)
  | reserved
  deriving DecidableEq, Repr

/-- An engine image of a bundle (R215, R221, R244, R281): program words, initial data memory, dispatch
and constant tables, the shared constant tables (R247, log 147), the words of the two itineraries (R217) with their layout identifiers, the certificate (mask,
nominal words, slow-corner words), the words of the table descriptors (R244), the state map (word, PIN, binary32), the digest, and the
standard task that each TASK_ID stands for (log 49). -/
structure EngImage where
  prog : List DWord
  init : List (Nat × Word)
  dispatch : List (BitVec 16)
  consts : List Byte
  itinN : List DWord
  itinS : List DWord
  layoutN : Nat
  layoutS : Nat
  cert : List (Nat × Nat × Nat)
  descW : List DWord
  stateMap : List (Nat × Bool × Bool)
  digest : Nat
  std : List (Nat × StdTask)
  shared : List Byte := []
  deriving DecidableEq, Repr

/-- A table descriptor from its 64-bit word (R244); `reserved` where a field of it is. -/
def TblDesc.ofWord (w : DWord) : TblDesc :=
  let f := fun hi lo => w.toNat / 2 ^ lo % 2 ^ (hi + 1 - lo)
  let wrap := f 61 61 == 1
  if f 60 52 ≠ 0 ∨ f 31 20 ≠ 0 then .reserved
  else match f 63 62 with
    | 0 => .fixed wrap (f 51 32) (f 19 0)
    | 1 => if f 33 32 ≤ 1 ∧ f 35 34 ≤ 2 ∧ f 51 36 = 0 ∧ f 19 0 = 0 then .bank wrap (f 33 32 == 1) (f 35 34) else .reserved
    | _ => .reserved

/-- The table descriptors of an image. -/
def EngImage.descs (i : EngImage) : List TblDesc := i.descW.map TblDesc.ofWord

/-- A table pointer (R237, R244): the descriptor bound to it and its cursor. -/
structure TPtr where
  desc : Option Nat := none
  cur : Word := 0
  deriving DecidableEq, Repr

/-- What the error-correcting code reports on a word read (R212, R229). -/
inductive Ecc where
  | good | corrected | bad
  deriving DecidableEq, Repr

/-- One portal engine (R212, R237): image, data memory, registers, program address, word counts, the
tasks of the row still to start, and the instants of recent exceptions (R232). -/
structure Engine where
  img : Option EngImage := none
  data : Cells 32 := []
  v : Vector Word 32 := Vector.replicate 32 0
  w : Vector DWord 4 := Vector.replicate 4 0
  p : Vector Bool 8 := Vector.replicate 8 false
  t : Vector TPtr 4 := Vector.replicate 4 {}
  pc : Nat := 0
  task : Option TaskDesc := none
  rest : List TaskDesc := []
  words : Nat := 0           -- words of the running task (R223)
  tickWords : Nat := 0
  excs : List Nat := []
  excSinceInstall : Bool := false
  surrReq : Bool := false    -- SURR_REQ stored; takes effect at the next strobe (R288)
  stepping : Bool := false   -- the words of the present tick are executed one by one, as commands
  excDue : Bool := false     -- the FAULT state and record of R230 are due at the next housekeeping tick
  reloadDone : Bool := false -- reload and verification complete (R232)
  startDue : Bool := false   -- starts at the next position tick (R232)
  rowBound : Nat := 0        -- budgets of the tasks of the row in progress (R223, R233)
  held : Bool := false       -- restarted and not yet reinstalled from a copy (R232)
  locked : Bool := false     -- a third exception within 10 minutes (R232)
  deriving DecidableEq, Repr

/-- What the program memory holds where a word executes, beside what its row builds: the row's own word; that word with
a reserved format, 10b or 11b; or, for a LIMM word, that word with a reserved IMOP, 2h to Fh (R235, R236, R252). Only a
corruption that the error-correcting code did not report gives the last two. -/
inductive WordCode where
  | asRow
  | format (f : Fin 2)
  | imop (k : Fin 14)
  deriving DecidableEq, Repr

/-- What surrounds an executed instruction word: the engine, the outcome of the code check of the fetched
word and of the word that its memory slot reads, the time at which the word completes, and, for a word that ends a
task, the outcomes of the selector and dispatch entry reads that start the next one. -/
structure WordEnv where
  eng : Slot
  fetch : Ecc
  read : Ecc
  t : Nat
  sel : Ecc := .good
  entry : Ecc := .good
  code : WordCode := .asRow
  deriving DecidableEq, Repr

/-- A read of the engine sequencer at a strobe instant whose code check found an error (R212, R229): the itinerary
store, or the selector or dispatch entry of the row's k-th task. -/
inductive SeqRead where
  | row | selector (k : Nat) | entry (k : Nat)
  deriving DecidableEq, Repr

/-- Such a read of an engine, and its outcome. -/
structure SeqEcc where
  eng : Slot
  what : SeqRead
  out : Ecc
  deriving DecidableEq, Repr

/-- The two other slots of a BASIC word, beside one ALU slot (R235). -/
structure WithAlu0 where
  alu1 : BitVec 21
  mem : BitVec 20
  deriving DecidableEq, Repr

/-- The two ALU slots of a BASIC word, beside its MEM slot (R235). -/
structure WithMem where
  alu0 : BitVec 21
  alu1 : BitVec 21
  deriving DecidableEq, Repr

/-! ### Caravan (spec/12) -/

/-- The integrators of a servo axis: FOLLOW words of the engine state region of the standard program (R281, R282). -/
structure ServoInts where
  intX : Word := 0
  intV : Word := 0
  intD : Word := 0
  intQ : Word := 0
  deriving DecidableEq, Repr

/-- What a block carries of a step axis beside its registers (R281): the issued count and the ledger origins behind
STEPS_ISSUED, the standstill timer, and the stall counts. -/
structure StepCopy where
  issued : Int := 0
  origin : Int := 0
  encOrigin : Int := 0
  standAt : Nat := 0
  stood : Bool := false
  laCnt : Nat := 0
  lostSet : Bool := false
  deriving DecidableEq, Repr

/-- The state block of a portal (R281): the registers of its portal page and axes by address on the
sender, the hidden state of portal and generators, the integrators and the step counts (by local axis number), the latched
counts by channel, the request bits, the epoch and the engine words (word, value, PIN, binary32). -/
structure StateBlock where
  slot : Nat
  regs : List (Nat × Word)
  portal : Portal
  mots : List (Nat × MotAxis)
  servos : List (Nat × ServoInts)
  steps : List (Nat × StepCopy)
  counts : List (Nat × Int)
  reqs : List (Nat × Bool)
  epoch : Word
  words : List (Nat × Word × Bool × Bool)
  deriving DecidableEq, Repr

/-! ### The configuration journal and the recorder (spec/13) -/

/-- What an IMAGE journal entry keeps of a portal: its state block with PRTn.CYCLE_ACC (R66, R318, R320). -/
structure PortalImage where
  slot : Nat
  block : StateBlock
  deriving DecidableEq, Repr

/-- Payload of a journal entry (R330). A COMMIT or TALLY_STATE that one entry cannot hold goes on in the next: `more`
(log 134). -/
inductive JPayload where
  | commit (fields : List (Nat × Word)) (more : Bool := false)
  | bankData (axis bank ofs : Nat) (data : List Byte)
  | bankSeal (axis bank : Nat) (crc : Word)
  | bankSwap (axis bank : Nat)
  | pwrStart (cycles opTime : Nat)
  | tallyState (ts : List Tally) (more : Bool := false)
  | image (i : PortalImage)
  | imageEnd
  | imageConsumed
  | snapBegin
  | snapEnd (last : Nat)
  deriving DecidableEq, Repr

/-- A journal entry: its JSEQ, its payload, and whether its CRC-32C is good (R330, R331); and where it stands once it is
programmed: the page of its half, the offset on that page, and the append on that page that wrote it (R321). -/
structure JEntry where
  jseq : Nat
  body : JPayload
  good : Bool
  page : Nat := 0
  ofs : Nat := 0
  app : Nat := 0
  deriving DecidableEq, Repr

/-- The configuration journal (R330 to R332): entries waiting for a flush, the two halves as
programmed, and a compaction in progress. -/
structure Journal where
  pending : List JEntry := []
  half0 : List JEntry := []
  half1 : List JEntry := []
  active1 : Bool := false
  compacting : Bool := false
  abandoned : Bool := false      -- a PFI abandoned a compaction (R332)
  jobs : List JEntry := []       -- entries of the flush in progress
  next : Nat := 1                -- JSEQ of the next entry
  snap : List JEntry := []       -- the snapshot a compaction is writing
  snapLast : Nat := 0            -- last JSEQ that snapshot includes
  deriving DecidableEq, Repr

/-- The power-fail flush (R318, R319). -/
inductive PfPhase where
  | idle | accepted | captured | done
  deriving DecidableEq, Repr

/-- A snapshot trigger that fired: trigger number, FLAG and INST of the firing record and its
severity (R305, R307). -/
structure SnapFire where
  at' : Nat
  trig : Nat
  flag : Byte
  inst : Byte
  sev : Nat
  src : Nat
  body : Option (List Byte) := none  -- the record's body, read at the first strobe instant after the trigger
  deriving DecidableEq, Repr

/-- An erase block of the general store or the safety reserve (R321, R324). -/
inductive BlockSt where
  | erased | used | erasing | bad
  deriving DecidableEq, Repr

/-- What the record window shows (R327, R329). -/
inductive WinShow where
  | nothing
  | empty
  | record (r : Rec)
  deriving DecidableEq, Repr

/-- A seal record being signed (R323): SFLAGS, the region (the safety reserve or the general store), the block that it
closes, the chain value and the last SEQ it covers. -/
structure SealDue where
  flags : Nat
  saf : Bool
  block : Option Nat
  chain : Nat
  seq : Nat
  deriving DecidableEq, Repr

/-- The recorder beside its registers (R307 to R327). -/
structure Recorder where
  prio : List Req := []
  intake : List Req := []
  cyc : List (List Req) := List.replicate 12 []
  lastCyc : List Nat := List.replicate 48 0      -- last CYCLE_NO seen per car-level portal, 0 = none
  tallies : List Tally := []
  ownOfs : Nat := 0                              -- next own-area offset
  unfl : List (Nat × Rec) := []                  -- unflushed own records with their offsets
  mirror : List Mirrored := []
  adoptDue : List Nat := []                      -- origins adopted, to be written at the next flush
  job : List Rec := []                           -- records the flush in progress has yet to program
  jobAdopt : List Mirrored := []
  flushAgain : Bool := false
  lastFlush : Nat := 0
  severeAt : Option Nat := none                  -- a severity 3 or 4 record entered at this time
  store : List Stored := []
  genOpen : Option (Nat × Nat × Nat) := none     -- open page of the general store: block, page, bytes
  safOpen : Option (Nat × Nat × Nat) := none
  blocks : List (Nat × BlockSt) := []            -- blocks that are not erased
  eraseCnt : List (Nat × Nat) := []
  spareUsed : Nat := 0
  fails : Nat := 0                               -- consecutive program failures (R321)
  chainGen : Nat := 0
  chainSaf : Nat := 0
  sealPrevGen : Nat := 0
  sealPrevSaf : Nat := 0
  sealDue : List SealDue := []                   -- seal records being signed, oldest first
  sealWait : Bool := false                       -- the flush in progress ends with a seal, once its records are programmed
  returnDue : List Nat := []                     -- origins to which adopted records are to be returned
  seqHold : Bool := false
  retEndFrom : List Nat := []
  curKey : Nat := 0                              -- cursor of the window load in progress
  win : WinShow := .nothing
  loading : Bool := false
  skipped : Bool := false
  pf : PfPhase := .idle
  pfi : Bool := false
  pfAt : Nat := 0
  lastImages : List PortalImage := []
  trickleSeal : Nat := 0
  fired : List Nat := []                         -- triggers fired in this position period
  snapDue : List SnapFire := []
  mbx : List (Cells 32) := List.replicate 12 []
  mbxCnt : List Nat := List.replicate 12 0
  opBase : Nat := 0                              -- OP_TIME at the release of the control die, ms
  released : Nat := 0                            -- time of that release
  pwrCycles : Nat := 0
  hiLatch : List Nat := [0, 0, 0]                -- high halves latched by reads of the SEQ registers (R422)
  deriving DecidableEq, Repr

/-! ### Caravan, members and leases (spec/12) -/

/-- A HEALTH frame's payload (R280, R379): the port it came in on, health word, DRIVE and MIRAGES, MAP_ID, first
bytes of the bundle digest, debounced DIN levels, ILK.TL_RAW[8:0], and the event summary. -/
structure HealthMsg where
  west : Bool
  word : Word
  drive : BitVec 16
  mirages : BitVec 16
  mapId : Word
  tag : Word
  dins : List Word
  tlRaw : BitVec 16
  summary : Word
  deriving DecidableEq, Repr

/-- Payload of a caravan frame (R280, R291, R313). `none` is a RECMIRROR frame without record bytes. -/
inductive CvPayload where
  | state (b : StateBlock)
  | health (h : HealthMsg)
  | lease (op ofs : Nat) (epoch : Word) (duties : List (List Nat))
  | mirror (ofs : Nat) (r : Option Rec)
  | sync (cfg : Word) (idx : BitVec 8) (pseq : BitVec 16) (joint : BitVec 2)
  | fwd (axis : Nat) (c : McmdWrite) (pseq : Nat)
  deriving DecidableEq, Repr

/-- A caravan frame before its LEN and CRC (R279): KIND, SUB, PSEQ, SRC, SLOT and payload, and the ports that reach its
recipients, `true` for CVB. -/
structure CvFrame where
  kind : Nat
  sub : Nat
  pseq : Nat
  src : Nat
  slot : Nat
  payload : CvPayload
  ports : List Bool
  deriving DecidableEq, Repr

/-- A forwarded MCMD write (R280 FWD): local axis, write and the position period that executes it. -/
structure FwdWrite where
  axis : Nat
  cmd : McmdWrite
  pseq : Nat
  deriving DecidableEq, Repr

/-- A holder's own values at a position tick, `at'` its time (R282): state words, the servo programs' variables, and the
counts latched at the tick (R137). -/
structure OwnCopy where
  at' : Nat
  words : List (Nat × Word)
  servos : List (Nat × ServoInts)
  counts : List (Nat × Int)
  deriving DecidableEq, Repr

/-- What a member keeps of a slot whose mirage it may hold (R282, R283). -/
structure Mirage where
  installed : Option Nat := none
  block : Option (StateBlock × Nat) := none   -- received block and its capture tick's time
  own : List OwnCopy := []                    -- own values at the last two position ticks, newest first
  fwd : List FwdWrite := []
  lateFwd : Bool := false
  unlocked : Bool := false                    -- lost SYNC lock since the install
  stale : Bool := false
  seen : Bool := false                        -- a STATE frame has arrived since reset
  atRest : Bool := false                      -- the driver last reported the portal at rest for home return (R297)
  deriving DecidableEq, Repr

/-- Lease timers of a slot (R294). -/
structure LeaseT where
  sent : Option Nat := none       -- last RENEW sent
  answered : Option Nat := none   -- send time of the last RENEW that was answered
  rcvd : Option Nat := none       -- receipt of the last RENEW
  free : Bool := false            -- SURRENDER or RELEASE seen for the current epoch
  deriving DecidableEq, Repr

/-- A takeover, transfer or claim waiting for its valley (R290 to R292, R297). -/
structure HandOver where
  slot : Nat
  valley : Nat
  gapped : Bool
  toUs : Bool
  adopt : Bool       -- OWNER becomes 10b
  clocks : Bool := false            -- the driver has surrendered: this member's clocks run already (R276, R290)
  duties : List (List Nat) := []    -- duties in force at the old driver, by servo axis (R291)
  deriving DecidableEq, Repr

/-- An EXTEST, a maintenance session and the rest live with their blocks; this is the caravan's state. -/
structure Caravan where
  role : Nat := 0
  mirages : Vector Mirage 12 := Vector.replicate 12 {}
  leases : Vector LeaseT 12 := Vector.replicate 12 {}
  hand : List HandOver := []
  healthAt : List (Option Nat) := [none, none]   -- last HEALTH on CVB, CVA
  peerMap : List Word := [0, 0]
  peerTag : List Word := [0, 0]
  peerMir : List Nat := [0, 0]   -- MIRAGES of the members on CVB and CVA
  peerDins : List (List Word) := [[], []]
  surrGo : Bool := false         -- CVN.SURRENDER.GO written; takes effect at the next strobe
  surrendered : Bool := false
  ready : Bool := false          -- has been an eligible holder or a driver (R277)
  surrIn : Bool := true
  surrLow : Nat := 0             -- time at which SURR_N went low, while it is (R284)
  surrTold : Bool := false       -- a conclusion has been drawn from the present low level (R277)
  pulled : Bool := true          -- this member pulled SURR_N at the last strobe (R277)
  crcAt : List (List Nat) := [[], [], [], []]   -- times of recent frames with a bad CRC, by lane (R279)
  upAt : List Nat := [0, 0]      -- time at which CVB and CVA came UP (R285)
  pulses : Bool := false         -- a SYNC pulse has come since reset (R278)
  syncDue : Option (Word × Nat × Nat) := none   -- SYNC frame to adopt: TICK_CFG, tick index, PSEQ (R278)
  syncArm : Bool := false        -- its pulse has come: adopt at the next strobe
  syncSet : Bool := false        -- a SYNC frame has been adopted under the present leader
  lockCnt : Nat := 0
  missCnt : Nat := 0
  silent : Nat := 0              -- position periods without pulses
  wasLocked : Bool := false
  eligSince : Option Nat := none
  paceTrip : Bool := false
  xreadAt : Option Nat := none   -- last cross-read disagreement
  xdiff : List (List (Option Nat)) := [[], []]   -- per port and DIN: since when its report differs (R287)
  spineOk : Bool := true
  spineFails : Nat := 0
  bistOk : Bool := true
  selfOk : Bool := true
  bistPos : Nat := 0
  retReq : List Nat := []        -- RETURN_REQ pending, by slot
  outbox : List CvFrame := []    -- frames sent in the last step, in the order sent
  startAt : Nat := 0             -- completion of start-up
  deriving DecidableEq, Repr

/-! ### Power and the supervisor (spec/16) -/

/-- Power states of R380, codes of PWR.STATUS. -/
inductive PwrSt where
  | run | hold | stable | dormant
  deriving DecidableEq, Repr

/-- The power sequencer and the supervisor beside the PWR registers. -/
structure PowerSt where
  st : PwrSt := .run
  own : PwrSt := .run
  joint : Option PwrSt := none
  since : List (Option Nat) := [none, none, none]  -- conditions of HOLD, STABLE, DORMANT unbroken since
  enteredAt : Nat := 0
  exiting : Bool := false
  wakeLow : Bool := false        -- WAKE_N is low
  inState : List Nat := [0, 0, 0, 0]  -- 5 ns units in each state since reset
  lastAcc : Nat := 0
  oor : List Bool := [false, false, false, false]  -- VCORE, VDDIO33, VDDA, VDDIO18 out of range
  counts : List Nat := [0, 0, 0, 0]   -- occurrences held through a reset (R375)
  told : List Nat := [0, 0, 0, 0]
  xtalLost : Bool := false       -- a crystal loss to report at start-up
  tempHot : Bool := false        -- at or above WARN, until WARN − HYST
  wakePulse : Bool := false      -- a wake pulse is being driven on SYNC_OUT
  causeAt : Option (Nat × Nat) := none  -- instant and code of the last wake cause (R385)
  exitAt : Nat := 0              -- instant at which the exit in progress ends at the earliest (R387)
  deriving DecidableEq, Repr

/-! ### Security and life cycle (spec/14) -/

/-- One section of a bundle's section table (R338). -/
structure Section where
  typ : Nat
  idx : Nat
  enc : Bool
  ofs : Nat
  len : Nat
  digest : Nat
  deriving DecidableEq, Repr

/-- A bundle's BANKS section (R338): registers and table bytes of bank A, and of bank B if carried. -/
structure BankImage where
  regsA : List Word
  tblA : List Byte
  regsB : List Word
  tblB : List Byte
  hasB : Bool
  deriving DecidableEq, Repr

/-- A bundle's CONFIG section (R338): CONF, RING_SIZE, POSTURE of every channel, every ST and ST/LK value. -/
structure ConfigImage where
  conf : Nat
  ringSize : Nat
  posture : List Nat
  values : List (Nat × Word)
  deriving DecidableEq, Repr

/-- One-time-programmable memory (spec/14, OTP contents): owner keys as (hash, state), the counted
fuses, the life-cycle log, the certificate and the erase a transition left pending (R350). -/
structure Otp where
  vendorRoot : Nat := 0
  owner : List (Nat × Nat) := List.replicate 4 (0, 0)
  svn : Nat := 0
  log : List Nat := []
  sgen : Nat := 0
  killed : Bool := false
  cert : List Byte := []
  wipePending : Bool := false
  deriving DecidableEq, Repr

/-- A key order in the message buffer (R337): the slot it fills with a hash or, with `none`, revokes, the slot
of the key that signs it, the bytes signed and the signature. -/
structure KeyOrder where
  slot : Nat
  fill : Option Nat
  signer : Nat
  signed : List Byte
  sig : List Byte
  deriving DecidableEq, Repr

/-- A life-cycle order (R349): target state, LOG_INDEX, owner key hashes with their slots, the signing public
key, the bytes signed and the signature. -/
structure LifeOrder where
  device : List Byte
  target : Nat
  logIndex : Nat
  keys : List (Nat × Nat)
  pubkey : List Byte
  signed : List Byte
  sig : List Byte
  deriving DecidableEq, Repr

/-- An instruction loaded into the JTAG register (R351). -/
inductive JtagIns where
  | idcode | bypass | sample | extest | vendorTest
  deriving DecidableEq, Repr

/-- A content key re-wrapped under the storage key of a generation: what that key, and no other, opens (R343). -/
structure Rewrap where
  gen : Nat
  key : Nat
  deriving DecidableEq, Repr

/-- A bundle slot in NAND (R339 to R341). `bytes` as programmed, `written` the ranges written, `wrapped` the content key
where KEYWRAP has been re-wrapped under the storage key (R343). -/
structure BSlot where
  bytes : Cells 8 := []
  len : Nat := 0
  written : List (Nat × Nat) := []
  valid : Bool := false
  svn : Nat := 0
  wrapped : Option Rewrap := none
  deriving DecidableEq, Repr

/-- A maintenance session (R345 to R347). -/
structure Session where
  rights : Word
  key : Nat            -- session key K
  keySlot : Nat
  endsAt : Nat         -- operating time, ms
  ctr : Nat
  fails : Nat
  deriving DecidableEq, Repr

/-- A job of the security sequencer on the message buffer (R344, R345). -/
inductive SecJob where
  | attest | challenge | token
  deriving DecidableEq, Repr

/-- The security sequencer beside its registers. -/
structure Security where
  otp : Otp := {}
  slotA : BSlot := {}
  slotB : BSlot := {}
  inForceB : Bool := false
  taken : Bool := false          -- a bundle was taken at the last start-up
  pending : Nat := 0             -- 0 none, 1 A, 2 B
  fallback : Bool := false
  loading : Bool := false
  verifying : Bool := false
  session : Option Session := none
  chal : Option (List Byte × Nat × Nat) := none  -- nonce, ephemeral key, operating time drawn
  chalDue : Bool := false
  job : Option SecJob := none
  tokenAt : Nat := 0             -- operating time at which the token came (R345)
  ir : JtagIns := .idcode        -- the JTAG instruction register (R351, log 149)
  extest : Bool := false
  needReset : Bool := false      -- a Solo controller after EXTEST (R352)
  programming : Bool := false    -- a part of a bundle is being programmed (R339)
  attNonce : List Byte := []     -- nonce of the report being signed
  order : Option LifeOrder := none  -- accepted transition waiting for its flush (R350)
  wiped : List Nat := []         -- regions with a WIPED marker: slots A and B, journal, general store, reserve
  pubkey : Nat := 0              -- identity of the device: SHA-256 of its public key
  deriving DecidableEq, Repr

/-! ### Start-up and reset (spec/17) -/

/-- The start-up sequence (R396, R397). -/
inductive BootSt where
  | reset | wipe | keys | nand | verify | load | config | replay | recorder | engines | done
  | running | stopped
  deriving DecidableEq, Repr

/-- Reset and start-up bookkeeping. `relDue` is set while a release condition of R392 is awaited. -/
structure Boot where
  st : BootSt := .reset
  cause : Nat := 1
  since : Nat := 0               -- start of the reset, or its cause's end
  resetDue : Option (Nat × Nat) := none  -- a reset of this cause after a flush, requested at this time
  tripAt : Nat := 0              -- when the cause of the present reset arose (R392)
  spineAt : List Nat := []       -- times of resets of code 05h
  supHold : Bool := false        -- third spine reset: held until RST_N (R392)
  pfStop : Bool := false         -- PFI before DONE (R399)
  doneAt : Nat := 0
  images : List PortalImage := [] -- unconsumed images found (R320)
  imageEnd : Bool := false       -- a complete IMAGE_END, not yet consumed, was found (R320)
  newBundle : Bool := false      -- the bundle taken was not in force before (R331)
  peerSeen : List Bool := List.replicate 12 false -- HEALTH or STATE of the other candidate (R401)
  deriving DecidableEq, Repr

/-! ### The host port (spec/15) -/

/-- A posted write in the buffer (R364): address, data words, cost, tag, and CTR and MAC of a WRITE_G. -/
structure HostWrite where
  addr : Nat
  data : List Word
  cost : Nat
  tag : Nat
  gated : Option (Nat × List Byte)
  deriving DecidableEq, Repr

/-- The target phase of the last frame (R357, R362): read data and the trailer's fields. -/
structure Reply where
  data : List Byte
  tag : Nat
  result : Nat
  taken : Nat
  ret : Nat
  doneTag : Nat
  errTag : Nat
  errCode : Nat
  errCnt : Nat
  flags : Nat
  deriving DecidableEq, Repr

/-- The host port's counters and write buffer (R362 to R366). `queue` is oldest first. -/
structure HostPort where
  tag : Nat := 0
  taken : Nat := 0
  ret : Nat := 0
  doneTag : Nat := 0
  errTag : Nat := 0
  errCode : Nat := 0
  errCnt : Nat := 0
  queue : List HostWrite := []
  width : Nat := 0
  lastGood : Nat := 0            -- time of the last frame with a good HCRC
  gone : Bool := false
  jhold : Bool := false
  reply : Option Reply := none
  deriving DecidableEq, Repr

/-! ### What a strobe takes from the plant -/

/-- What the plant and the die bring to a strobe instant (R145, R193, R224): the bitstreams of SXn_IU and SXn_IV per
servo axis and of STn_IA and STn_IB per step axis, each the samples up to the valley, newest first, and the times of
the four replica paths in 1/256 ns. Missing bits read 0. `byWord` names the engines whose words of this tick come as
commands of their own (log 49), and `ecc` the sequencer reads that met an error. -/
structure TickIn where
  iu : List (List Bool)
  iv : List (List Bool)
  ia : List (List Bool)
  ib : List (List Bool)
  replicas : List Nat
  byWord : List Slot := []
  ecc : List SeqEcc := []
  deriving DecidableEq, Repr

end Sys2Proof.Machine
end

