-- ==== Sys2Proof/Syntax.lean ====
section
/-!
DEFINITION. The commands that the block takes: one constructor per row of the opcode table, with the row's
operands. The table gives no row any bits, so a command is its constructor and nothing else spells it. `t` is
the time of the event in 5 ns units since VFLD arrived (log 6); `gate` says that the write came as a gated
write whose tag was good (R368).
-/

namespace Sys2Proof

open Machine

/-- A command (spec/opcode_table.json): an event that reaches the controller, a host write of a register with
its effect, a word that an engine executes, a frame on the host port or the caravan, or the end of a time
limit. The rule of each row stands beside it. -/
inductive Instr where
  /-- TICK_STROBE (R29): The timebase issues a strobe instant at a carrier valley carrying one or more tick
  kinds, and every per-tick activity of the controller starts from it. -/
  | tickStrobe (i : TickIn)
  /-- SHADOW_CLOSE (R31): The shadow registers close 1 µs before the next carrier valley. -/
  | shadowClose
  /-- OPEN (R49): Host OPEN command to PRTn.CMD, processed at the next housekeeping tick. -/
  | openCmd (p : Slot)
  /-- CLOSE (R48): Host CLOSE command to PRTn.CMD, processed at the next housekeeping tick. -/
  | closeCmd (p : Slot)
  /-- FAULT_CLEAR (R57): Host FAULT_CLEAR command, accepted only in FAULT with no active cause. -/
  | faultClear (p : Slot)
  /-- ISOLATE (R54): Host ISOLATE command, needing a maintenance session. -/
  | isolate (p : Slot) (gate : Bool)
  /-- RESTORE (R54): Host RESTORE command ending a host isolation, needing a maintenance session. -/
  | restore (p : Slot) (gate : Bool)
  /-- WARN_ELAPSED (R52): The pre-close warning time WARN expires. -/
  | warnElapsed (p : Slot)
  /-- DWELL_CLOSE_EXPIRY (R48): The portal has been OPEN for DWELL_CLOSE and a dwell close request arises.
  -/
  | dwellCloseExpiry (p : Slot)
  /-- LOCK_REL_MAX_EXPIRY (R55): LOCK_REL_MAX expires in UNLOCKING, raising LOCK_RELEASE_TIMEOUT when its
  conditions hold. -/
  | lockRelMaxExpiry (p : Slot)
  /-- LOCK_ENG_MAX_EXPIRY (R55): LOCK_ENG_MAX expires in LOCKING, raising LOCK_ENGAGE_TIMEOUT. -/
  | lockEngMaxExpiry (p : Slot)
  /-- OPEN_MAX_EXPIRY (R55): OPENING lasts longer than OPEN_MAX, raising OPEN_TIMEOUT. -/
  | openMaxExpiry (p : Slot)
  /-- CLOSE_MAX_EXPIRY (R55): CLOSING lasts longer than CLOSE_MAX, raising CLOSE_TIMEOUT. -/
  | closeMaxExpiry (p : Slot)
  /-- CURTAIN_MAX_EXPIRY (R46): The curtain stays blocked for CURTAIN_MAX, leading to OBSTRUCTED. -/
  | curtainMaxExpiry (p : Slot)
  /-- QUAL_MAX_EXPIRY (R56): A mapped input stays invalid for QUAL_MAX, raising INPUT_QUALITY. -/
  | qualMaxExpiry (p : Slot)
  /-- STEP_MAX_EXPIRY (R55): A step move lasts longer than STEP_MAX, raising STEP_STALL. -/
  | stepMaxExpiry (p : Slot)
  /-- REVERSAL_WAIT_EXPIRY (R182): The WAIT of REVERSING elapses and rules 16 or 17 apply. -/
  | reversalWaitExpiry (p : Slot)
  /-- TL_CHANNEL_ACCEPT (R69): A train-line channel takes a new debounced level after TL_DEB of agreeing
  samples. `samples` are the channel's samples of every 10 µs up to `t`, newest first. -/
  | tlChannelAccept (t : Nat) (ch : Fin 9) (samples : List Bool)
  /-- TL_DISC_EXPIRY (R70): A pair in TRANSIT reaches TL_DISC and becomes DISCREPANT. -/
  | tlDiscExpiry (i : Fin 4)
  /-- INPUT_STALE (R76): A map input invalid for 20 ms counts as not made and sets INPUT_STALE. -/
  | inputStale (i : Din)
  /-- DLP_RB_CHANGE (R77): The filtered DLP_RB readback changes level, starting or stopping a confirm
  interval. `before` and `lvl` are two consecutive 1 µs samples, `lvl` the newer. -/
  | dlpRbChange (t : Nat) (before lvl : Bool)
  /-- KILL_CONFIRM_EXPIRY (R77): DLP_RB energised with LOOP_OK false for KILL_CONFIRM leads to a cut. -/
  | killConfirmExpiry
  /-- LOOP_OPEN (R78): HOLD and LOOP_OK true with DLP_RB de-energised beyond KILL_CONFIRM sets LOOP_OPEN. -/
  | loopOpen
  /-- LOCK_BACKFEED (R73): Partner back-feed on a lock-class channel with own permission false beyond
  KILL_CONFIRM sets LOCK_BACKFEED. -/
  | lockBackfeed (k : Fin 8)
  /-- PUSH (R102): MCMD PUSH copies the move registers into an entry that joins the queue at the next
  position tick. -/
  | push (a : Axis) (tgt : Word) (attr : Word) (tgt2 : Word)
  /-- RETARGET (R105): MCMD RETARGET replaces every queued entry with one new entry, running down first if
  needed. -/
  | retarget (a : Axis) (tgt : Word) (attr : Word) (tgt2 : Word)
  /-- STOP (R106): MCMD STOP aborts the queue and runs down under the direction's limits. -/
  | stop (a : Axis)
  /-- QSTOP (R106): MCMD QSTOP aborts the queue and runs down under STOP_A and STOP_J. -/
  | qstop (a : Axis)
  /-- HALT (R205): MCMD HALT stops step pulses at the strobe instant, freezes the set-point and flushes the
  queue. -/
  | halt (a : Axis)
  /-- REALIGN (R119): MCMD REALIGN sets the set-point to the axis position and starts a new ledger origin.
  -/
  | realign (a : Axis)
  /-- HOME (R116): MCMD HOME starts the built-in homing of a step axis. -/
  | home (a : Axis)
  /-- HOME_STEP_COMPLETE (R116): A homing step ends on its switch condition or travel and the sequence moves
  to its next step. -/
  | homeStepComplete (a : Axis)
  /-- PROFILE_END (R92): A profile ends at the first position tick at or after its continuous end, with the
  set-point at the target and BUSY clear. -/
  | profileEnd (a : Axis)
  /-- COMPARE_ARM (R111): An arming write to CMPi_CTRL.ARM classifies the compare as live, waiting or missed
  at the next strobe. -/
  | compareArm (a : Axis) (i : Fin 4) (on : Bool)
  /-- LATCH_ARM (R114): A write of LATCH_CFG.ARM arms the closed-position latch. -/
  | latchArm (a : Axis) (on : Bool)
  /-- LATCH_READY (R114): The interpolated latch position is stored in LATCH_POS at the position tick after
  the debounced edge appears. -/
  | latchReady (a : Axis)
  /-- ENCODER_TRANSITION (R126): The decoder sees a change of accepted A and B levels and changes the count.
  `samples` are consecutive samples of the wires, oldest first, 10 ns apart, the first at `t` (R123, R124). -/
  | encoderTransition (c : Enc) (t : Nat) (samples : List EncSample)
  /-- ILL_WINDOW_END (R127): An illegal-transition window of ILL_WIN position periods ends and the count
  restarts. -/
  | illWindowEnd (c : Enc)
  /-- WIRE_FAULT (R123): Two wires of an encoder pair agree for more than 200 ns and a wire fault is
  reported. -/
  | wireFault (t : Nat) (c : Enc) (line : Fin 3)
  /-- WIRE_FAULT_END (R123): The wires are complementary for 1 µs and the live wire fault clears. -/
  | wireFaultEnd (t : Nat) (c : Enc) (line : Fin 3)
  /-- SPD_TIMEOUT_EXPIRY (R129): No edge for SPD_TIMEOUT sets speed to 0 and STILL. -/
  | spdTimeoutExpiry (c : Enc)
  /-- INDEX_EVENT (R131): Z accepted active with AB at ZQUAL latches the count into INDEX_LATCH. -/
  | indexEvent (t : Nat) (c : Enc)
  /-- HALL_SECTOR_CHANGE (R134): A Hall change to an adjacent sector stores HALL_LATCH and sets HALL_EDGE
  and HALL_SYNC. `t0` is the first of the agreeing samples. -/
  | hallSectorChange (t0 : Nat) (c : Enc) (code : BitVec 3)
  /-- UNC_CLR (R136): A write of ENCn.CTRL.UNC_CLR clears POS_UNCERTAIN on a servo axis or is refused. -/
  | uncClr (c : Enc)
  /-- DRIFT_CLR (R138): A write of ENCn.CTRL.DRIFT_CLR zeroes DRIFT_SUM and forgets INDEX_PREV. -/
  | driftClr (c : Enc)
  /-- DSM_STUCK (R146): A bitstream with no transition for 64 modulator clocks sets DSM_STUCK and may
  silence the axis. -/
  | dsmStuck (t : Nat) (a : Axis)
  /-- BRIDGE_FAULT (R161): SXn_FLT_N low for 5 samples silences the axis and sets BRIDGE. -/
  | bridgeFault (t : Nat) (n : Sax)
  /-- OVER_CURRENT (R161): A phase current above OC_LIM silences the axis and sets OC. -/
  | overCurrent (t : Nat) (n : Sax)
  /-- SERVO_EN (R162): A write of SAXn.CTRL.EN enables or disables a servo axis, refused while a cause is
  latched or the bank is unsealed. -/
  | servoEn (n : Sax) (on : Bool)
  /-- FLT_ACK (R161): A write of CTRL.FLT_ACK clears the latched bridge fault while SXn_FLT_N is high. -/
  | fltAck (n : Sax) (high : Bool)
  /-- OC_ACK (R161): A write of CTRL.OC_ACK clears the latched over-current. -/
  | ocAck (n : Sax)
  /-- DSM_ACK (R161): A write of SAXn CTRL.DSM_ACK clears a stuck-bitstream latch once transitions resume.
  -/
  | dsmAck (n : Sax)
  /-- SEAL (R158): A write of BANK_CTRL.SEAL starts computing the CRC-32C of the inactive bank. -/
  | sealBank (n : Sax)
  /-- SEAL_COMPLETE (R158): The bank seal completes, writing the bank CRC and setting SEALED. -/
  | sealComplete (n : Sax)
  /-- BANK_SWAP (R159): A BANK_CTRL.REQ naming the inactive bank is evaluated at the next strobe and the
  bank comes into force or is rejected. -/
  | bankSwap (n : Sax) (bankB : Bool) (gate : Bool)
  /-- BANK_WRITE (R158): A host write to bank registers or the bank table region is applied to the inactive
  bank or ignored. -/
  | bankWrite (addr : Nat) (v : Word)
  /-- TRACE_ARM (R165): A write of TRC.CTRL.ARM starts sampling in the selected mode. -/
  | traceArm
  /-- TRACE_STOP (R165): A write of TRC.CTRL.STOP stops the trace unit. -/
  | traceStop
  /-- MANUAL (R165): A write of TRC.MANUAL fires the manual trigger. -/
  | manual
  /-- BYPASS (R189): A write of OBS_CTRL.BYPASS starts or ends the residual test bypass, needing a session
  to start it. -/
  | bypass (p : Slot) (on : Bool) (gate : Bool)
  /-- OBS_DRIFT_CLR (R190): A write of OBS_CTRL.DRIFT_CLR restarts every drift mean. -/
  | obsDriftClr (p : Slot)
  /-- EDGE_MEASUREMENT (R258): Each edge is measured in its slot every 100 µs and its resistance computed.
  -/
  | edgeMeasurement (t : Nat) (e : Edge) (idle : Nat) (uv : Nat)
  /-- EDGE_MARGINAL (R178): A LOW or HIGH band persisting for 1 s sets EDGE_MARGINAL. -/
  | edgeMarginal (e : Edge)
  /-- BLANKING_END (R197): Blanking ends in an on phase and trip sources are considered. `bits` is the coil's bitstream
  up to then, newest first, and `cx` the level of STn_CX. -/
  | blankingEnd (n : Stx) (coilB : Bool) (bits : List Bool) (cx : Bool)
  /-- CHOP_TRIP (R197): The chop filter or comparator trips and the on phase ends in fast decay. `bits` and `cx` as
  in BLANKING_END. -/
  | chopTrip (t : Nat) (n : Stx) (coilB : Bool) (bits : List Bool) (cx : Bool)
  /-- FAST_DECAY_END (R197): The fast-decay part FD/16 of TOFF ends and slow decay begins. -/
  | fastDecayEnd (n : Stx) (coilB : Bool)
  /-- OFF_TIME_END (R197): TOFF ends and the next on phase starts. -/
  | offTimeEnd (n : Stx) (coilB : Bool)
  /-- STANDSTILL (R199): The standstill timer reaches HOLD_DLY and the references are scaled to HOLD_PCT. -/
  | standstill (n : Stx)
  /-- STEP_EN (R198): A write of STXn.CTRL.EN enables or disables a step axis, refused while a cause is
  latched. -/
  | stepEn (n : Stx) (on : Bool)
  /-- SHORT_ACK (R198): A write of STXn.CTRL.SHORT_ACK acknowledges a short once gone. -/
  | shortAck (n : Stx)
  /-- STEP_DSM_ACK (R198): A write of STXn.CTRL.DSM_ACK acknowledges a stuck bitstream once gone. -/
  | stepDsmAck (n : Stx)
  /-- RESTART (R232): A write of ENGn.CTRL.RESTART reloads and verifies a halted engine, or is refused. -/
  | restart (p : Slot)
  /-- RESTART_COMPLETE (R232): The restarted engine starts at the first position tick after reload and
  verification. -/
  | restartComplete (p : Slot)
  /-- STAT_CLR (R233): A write of ENGn.CTRL.STAT_CLR zeroes DONE_MAX and WORDS_MAX. -/
  | statClr (p : Slot)
  /-- NOP (R242): ALU no operation. -/
  | nopWord (env : WordEnv) (d : BitVec 5) (a : BitVec 5) (b : BitVec 5) (x : WithAlu0)
  /-- MOV (R242): ALU copy of a value register. -/
  | mov (env : WordEnv) (d : BitVec 5) (a : BitVec 5) (b : BitVec 5) (x : WithAlu0)
  /-- ADD (R239): Wrapping 32-bit add. -/
  | add (env : WordEnv) (d : BitVec 5) (a : BitVec 5) (b : BitVec 5) (x : WithAlu0)
  /-- SUB (R239): Wrapping 32-bit subtract. -/
  | sub (env : WordEnv) (d : BitVec 5) (a : BitVec 5) (b : BitVec 5) (x : WithAlu0)
  /-- ADDS (R239): Saturating add. -/
  | adds (env : WordEnv) (d : BitVec 5) (a : BitVec 5) (b : BitVec 5) (x : WithAlu0)
  /-- SUBS (R239): Saturating subtract. -/
  | subs (env : WordEnv) (d : BitVec 5) (a : BitVec 5) (b : BitVec 5) (x : WithAlu0)
  /-- AND (R242): Bitwise AND. -/
  | andWord (env : WordEnv) (d : BitVec 5) (a : BitVec 5) (b : BitVec 5) (x : WithAlu0)
  /-- OR (R242): Bitwise OR. -/
  | orWord (env : WordEnv) (d : BitVec 5) (a : BitVec 5) (b : BitVec 5) (x : WithAlu0)
  /-- XOR (R242): Bitwise XOR. -/
  | xor (env : WordEnv) (d : BitVec 5) (a : BitVec 5) (b : BitVec 5) (x : WithAlu0)
  /-- SHL (R242): Left shift by B[4:0]. -/
  | shl (env : WordEnv) (d : BitVec 5) (a : BitVec 5) (b : BitVec 5) (x : WithAlu0)
  /-- SHR (R242): Logical right shift by B[4:0]. -/
  | shr (env : WordEnv) (d : BitVec 5) (a : BitVec 5) (b : BitVec 5) (x : WithAlu0)
  /-- SAR (R242): Arithmetic right shift by B[4:0]. -/
  | sar (env : WordEnv) (d : BitVec 5) (a : BitVec 5) (b : BitVec 5) (x : WithAlu0)
  /-- MIN (R242): Signed minimum. -/
  | minWord (env : WordEnv) (d : BitVec 5) (a : BitVec 5) (b : BitVec 5) (x : WithAlu0)
  /-- MAX (R242): Signed maximum. -/
  | maxWord (env : WordEnv) (d : BitVec 5) (a : BitVec 5) (b : BitVec 5) (x : WithAlu0)
  /-- ABSS (R239): Saturating absolute value. -/
  | abss (env : WordEnv) (d : BitVec 5) (a : BitVec 5) (b : BitVec 5) (x : WithAlu0)
  /-- NEGS (R239): Saturating negation. -/
  | negs (env : WordEnv) (d : BitVec 5) (a : BitVec 5) (b : BitVec 5) (x : WithAlu0)
  /-- MULQ31 (R239): Rounded, saturating Q1.31 product. -/
  | mulq31 (env : WordEnv) (d : BitVec 5) (a : BitVec 5) (b : BitVec 5) (x : WithAlu0)
  /-- MULQ16 (R239): Rounded, saturating Q16.16 product. -/
  | mulq16 (env : WordEnv) (d : BitVec 5) (a : BitVec 5) (b : BitVec 5) (x : WithAlu0)
  /-- MULL (R239): Low 32 bits of the signed product. -/
  | mull (env : WordEnv) (d : BitVec 5) (a : BitVec 5) (b : BitVec 5) (x : WithAlu0)
  /-- MAC (R239): Add the exact product to an accumulator with 64-bit saturation. -/
  | mac (env : WordEnv) (d : BitVec 5) (a : BitVec 5) (b : BitVec 5) (x : WithAlu0)
  /-- MSU (R239): Subtract the exact product from an accumulator with 64-bit saturation. -/
  | msu (env : WordEnv) (d : BitVec 5) (a : BitVec 5) (b : BitVec 5) (x : WithAlu0)
  /-- WSET (R242): Set an accumulator from two value registers. -/
  | wset (env : WordEnv) (d : BitVec 5) (a : BitVec 5) (b : BitVec 5) (x : WithAlu0)
  /-- WEXT (R242): Extract a rounded, saturated 32-bit value from an accumulator. -/
  | wext (env : WordEnv) (d : BitVec 5) (a : BitVec 5) (b : BitVec 5) (x : WithAlu0)
  /-- CEQ (R242): Predicate from integer equality. -/
  | ceq (env : WordEnv) (d : BitVec 5) (a : BitVec 5) (b : BitVec 5) (x : WithAlu0)
  /-- CLT (R242): Predicate from signed less-than. -/
  | clt (env : WordEnv) (d : BitVec 5) (a : BitVec 5) (b : BitVec 5) (x : WithAlu0)
  /-- CLE (R242): Predicate from signed less-or-equal. -/
  | cle (env : WordEnv) (d : BitVec 5) (a : BitVec 5) (b : BitVec 5) (x : WithAlu0)
  /-- CLTU (R242): Predicate from unsigned less-than. -/
  | cltu (env : WordEnv) (d : BitVec 5) (a : BitVec 5) (b : BitVec 5) (x : WithAlu0)
  /-- PAND (R242): Predicate AND. -/
  | pand (env : WordEnv) (d : BitVec 5) (a : BitVec 5) (b : BitVec 5) (x : WithAlu0)
  /-- POR (R242): Predicate OR. -/
  | por (env : WordEnv) (d : BitVec 5) (a : BitVec 5) (b : BitVec 5) (x : WithAlu0)
  /-- PNOT (R242): Predicate NOT. -/
  | pnot (env : WordEnv) (d : BitVec 5) (a : BitVec 5) (b : BitVec 5) (x : WithAlu0)
  /-- P2V (R242): Copy the predicates into a value register. -/
  | p2v (env : WordEnv) (d : BitVec 5) (a : BitVec 5) (b : BitVec 5) (x : WithAlu0)
  /-- V2P (R242): Set all predicates from a value register. -/
  | v2p (env : WordEnv) (d : BitVec 5) (a : BitVec 5) (b : BitVec 5) (x : WithAlu0)
  /-- TCUR (R242): Set a pointer's cursor. -/
  | tcur (env : WordEnv) (d : BitVec 5) (a : BitVec 5) (b : BitVec 5) (x : WithAlu0)
  /-- TGET (R242): Read a pointer's cursor. -/
  | tget (env : WordEnv) (d : BitVec 5) (a : BitVec 5) (b : BitVec 5) (x : WithAlu0)
  /-- TBIND (R244): Bind a pointer to a table descriptor of the engine image with CUR 0. -/
  | tbind (env : WordEnv) (d : BitVec 5) (a : BitVec 5) (b : BitVec 5) (x : WithAlu0)
  /-- FADD (R240): binary32 add. -/
  | fadd (env : WordEnv) (d : BitVec 5) (a : BitVec 5) (b : BitVec 5) (x : WithAlu0)
  /-- FSUB (R240): binary32 subtract. -/
  | fsub (env : WordEnv) (d : BitVec 5) (a : BitVec 5) (b : BitVec 5) (x : WithAlu0)
  /-- FMUL (R240): binary32 multiply. -/
  | fmul (env : WordEnv) (d : BitVec 5) (a : BitVec 5) (b : BitVec 5) (x : WithAlu0)
  /-- FMA (R240): binary32 fused multiply-add with one rounding. -/
  | fma (env : WordEnv) (d : BitVec 5) (a : BitVec 5) (b : BitVec 5) (x : WithAlu0)
  /-- FMS (R240): binary32 fused multiply-subtract with one rounding. -/
  | fms (env : WordEnv) (d : BitVec 5) (a : BitVec 5) (b : BitVec 5) (x : WithAlu0)
  /-- FMIN (R240): binary32 minimum with NaN rule. -/
  | fmin (env : WordEnv) (d : BitVec 5) (a : BitVec 5) (b : BitVec 5) (x : WithAlu0)
  /-- FMAX (R240): binary32 maximum with NaN rule. -/
  | fmax (env : WordEnv) (d : BitVec 5) (a : BitVec 5) (b : BitVec 5) (x : WithAlu0)
  /-- FCEQ (R240): Predicate from binary32 equality. -/
  | fceq (env : WordEnv) (d : BitVec 5) (a : BitVec 5) (b : BitVec 5) (x : WithAlu0)
  /-- FCLT (R240): Predicate from binary32 less-than. -/
  | fclt (env : WordEnv) (d : BitVec 5) (a : BitVec 5) (b : BitVec 5) (x : WithAlu0)
  /-- FCLE (R240): Predicate from binary32 less-or-equal. -/
  | fcle (env : WordEnv) (d : BitVec 5) (a : BitVec 5) (b : BitVec 5) (x : WithAlu0)
  /-- FRCP (R240): binary32 reciprocal estimate. -/
  | frcp (env : WordEnv) (d : BitVec 5) (a : BitVec 5) (b : BitVec 5) (x : WithAlu0)
  /-- FRSQ (R240): binary32 reciprocal square-root estimate. -/
  | frsq (env : WordEnv) (d : BitVec 5) (a : BitVec 5) (b : BitVec 5) (x : WithAlu0)
  /-- CVTXF (R241): Fixed point with k fraction bits to binary32. -/
  | cvtxf (env : WordEnv) (d : BitVec 5) (a : BitVec 5) (b : BitVec 5) (x : WithAlu0)
  /-- CVTFX (R241): binary32 to fixed point, floor, saturated. -/
  | cvtfx (env : WordEnv) (d : BitVec 5) (a : BitVec 5) (b : BitVec 5) (x : WithAlu0)
  /-- CVTFXR (R241): binary32 to fixed point, nearest, saturated. -/
  | cvtfxr (env : WordEnv) (d : BitVec 5) (a : BitVec 5) (b : BitVec 5) (x : WithAlu0)
  /-- SEL (R242): SEL0 to SEL7 select one of two values by a predicate. -/
  | sel (env : WordEnv) (k : Fin 8) (d : BitVec 5) (a : BitVec 5) (b : BitVec 5) (x : WithAlu0)
  /-- MOVI (R236): LIMM word loading a 32-bit immediate into a value register. -/
  | movi (env : WordEnv) (alu0 : BitVec 21) (imm : Word) (dest : BitVec 5)
  /-- FEED (R236): LIMM word feeding the immediate to the ALU0 B source. -/
  | feed (env : WordEnv) (alu0 : BitVec 21) (imm : Word) (dest : BitVec 5)
  /-- MEM_NOP (R243): Memory slot no operation. -/
  | memNop (env : WordEnv) (reg : BitVec 5) (tp : BitVec 2) (off : BitVec 9) (x : WithMem)
  /-- LDD (R243): Load a data-memory word from the low half. -/
  | ldd (env : WordEnv) (reg : BitVec 5) (tp : BitVec 2) (off : BitVec 9) (x : WithMem)
  /-- LDDH (R243): Load a data-memory word from the high half. -/
  | lddh (env : WordEnv) (reg : BitVec 5) (tp : BitVec 2) (off : BitVec 9) (x : WithMem)
  /-- STD (R243): Store a data-memory word to the low half. -/
  | std (env : WordEnv) (reg : BitVec 5) (tp : BitVec 2) (off : BitVec 9) (x : WithMem)
  /-- STDH (R243): Store a data-memory word to the high half. -/
  | stdh (env : WordEnv) (reg : BitVec 5) (tp : BitVec 2) (off : BitVec 9) (x : WithMem)
  /-- LDDX (R243): Indexed data-memory load through a pointer cursor. -/
  | lddx (env : WordEnv) (reg : BitVec 5) (tp : BitVec 2) (off : BitVec 9) (x : WithMem)
  /-- STDX (R243): Indexed data-memory store through a pointer cursor. -/
  | stdx (env : WordEnv) (reg : BitVec 5) (tp : BitVec 2) (off : BitVec 9) (x : WithMem)
  /-- LDT (R246): Load a 32-bit table element through a pointer. -/
  | ldt (env : WordEnv) (reg : BitVec 5) (tp : BitVec 2) (off : BitVec 9) (x : WithMem)
  /-- LDTH (R246): Load a sign-extended 16-bit table element. -/
  | ldth (env : WordEnv) (reg : BitVec 5) (tp : BitVec 2) (off : BitVec 9) (x : WithMem)
  /-- LDTHP (R246): Load two adjacent 16-bit table elements. -/
  | ldthp (env : WordEnv) (reg : BitVec 5) (tp : BitVec 2) (off : BitVec 9) (x : WithMem)
  /-- LDIO (R250): Load an IO word of units 0 to 3. -/
  | ldio (env : WordEnv) (reg : BitVec 5) (tp : BitVec 2) (off : BitVec 9) (x : WithMem)
  /-- LDIO2 (R250): Load an IO word of units 4 to 7. -/
  | ldio2 (env : WordEnv) (reg : BitVec 5) (tp : BitVec 2) (off : BitVec 9) (x : WithMem)
  /-- STIO (R250): Store an IO word of units 0 to 3. -/
  | stio (env : WordEnv) (reg : BitVec 5) (tp : BitVec 2) (off : BitVec 9) (x : WithMem)
  /-- STIO2 (R250): Store an IO word of units 4 to 7. -/
  | stio2 (env : WordEnv) (reg : BitVec 5) (tp : BitVec 2) (off : BitVec 9) (x : WithMem)
  /-- END (R243): The task completes once this word's ALU slots have executed. -/
  | endWord (env : WordEnv) (reg : BitVec 5) (tp : BitVec 2) (off : BitVec 9) (x : WithMem)
  /-- HS_REQ_STORE (R249): An engine store to HS_REQ sets and clears the request bits of the portal's
  channels. -/
  | hsReqStore (p : Slot) (hi : Bool) (v : Word)
  /-- SURR_REQ (R288): An engine store to SURR_REQ requests surrender of its portal. -/
  | surrReq (p : Slot)
  /-- MAILBOX_COMMIT (R308): A store to mailbox word 64 commits a record request from the engine, or sets
  MBX_BAD. -/
  | mailboxCommit (p : Slot) (v : Word)
  /-- DIN_ACCEPT (R255): A digital input accepts a new level after DEB of agreeing samples and stamps the
  onset. `samples` are the input's samples up to the one read at `t`, newest first (R254). -/
  | dinAccept (t : Nat) (i : Din) (samples : List DinSample)
  /-- FOREIGN (R257): An input rises above the foreign-voltage level, invalidating its quality. -/
  | foreign (t : Nat) (i : Din)
  /-- IN_EVEN_WRITE (R271): A write taking an IN_EVEN bit to 1 while IN_CHG is set counts as an occurrence.
  -/
  | inEvenWrite (k : Fin 3) (v : Word)
  /-- HS_HREQ (R262): A host write to HS_HREQ sets request bits of unmapped, non-lock channels or sets
  HREQ_REJ. -/
  | hsHreq (k : Fin 2) (v : Word)
  /-- CURRENT_LIMIT (R263): Load current reaches the limit and the channel enters LIMIT. -/
  | currentLimit (t : Nat) (c : Ch)
  /-- LIMIT_CLEAR (R263): Current below the limit for 10 µs returns the channel to ON. -/
  | limitClear (t : Nat) (c : Ch)
  /-- LIM_T_EXPIRY (R263): LIMIT lasts LIM_T; the channel goes to RETRY_WAIT or LATCHED_OFF. `trip`: the
  junction reaches its trip point at this instant (R264). -/
  | limTExpiry (c : Ch) (trip : Bool)
  /-- RETRY_INT_EXPIRY (R264): RETRY_INT elapses and the channel restarts or enters THERMAL if still hot.
  `hot`: the junction has not cooled 15 K below its trip point. -/
  | retryIntExpiry (c : Ch) (hot : Bool)
  /-- THERMAL_TRIP (R263): The channel junction reaches the trip point and the output turns off. -/
  | thermalTrip (t : Nat) (c : Ch)
  /-- THERMAL_COOL (R263): The junction cools 15 K below the trip point and the channel leaves THERMAL. -/
  | thermalCool (t : Nat) (c : Ch)
  /-- RETRY_RESET (R263): ON for 16 × RETRY_INT without LIMIT resets SPENT. -/
  | retryReset (c : Ch)
  /-- HS_CLR (R263): A write of HSn_CTRL.CLR leaves LATCHED_OFF and resets SPENT. -/
  | hsClr (c : Ch)
  /-- OFF_STATE_TEST (R265): The 200 µs off-state test window runs every 10 ms and diagnoses open load or
  external voltage. -/
  | offStateTest (t : Nat) (c : Ch) (ext : Bool) (high : Bool)
  /-- OPEN_LOAD_ON (R265): Load current below threshold for 10 ms while ON reports OPEN_LOAD_ON. -/
  | openLoadOn (t : Nat) (c : Ch) (low : Bool)
  /-- EXTERNAL_VOLTAGE (R265): An off output reads 6 V or more and is classified PARTNER_DRIVEN, BACKFEED or
  SHORT_VFLD. -/
  | externalVoltage (t : Nat) (c : Ch) (present : Bool)
  /-- SAG_ENTER (R268): VFLD out of range for 200 µs enters the sag state, turning channels off and
  invalidating inputs. -/
  | sagEnter (t : Nat)
  /-- SAG_EXIT (R268): VFLD within range for 5 ms ends the sag state. -/
  | sagExit (t : Nat)
  /-- GROUP_RESTART (R268): A channel group restarts i ms after the end of the sag state. -/
  | groupRestart
  /-- SNS_SEL_CHANGE (R269): Two agreeing samples of SNS_SEL select a new sense channel. -/
  | snsSelChange (v : Fin 64)
  /-- SCAN_STEP (R269): In scan mode the sense selection steps to the next channel every 25 µs. -/
  | scanStep
  /-- ADC_CONVERSION (R270): The internal ADC converts SNS and writes SNS_In and SNS_VOLT. -/
  | adcConversion (code : Nat) (full : Bool)
  /-- SPINE_FRAME (R24): A spine frame is received and its values used if its CRC is good. -/
  | spineFrame (up : Bool) (ok : Bool) (t : Nat)
  /-- UPSTREAM_SILENCE (R26): No good upstream frame for 20 µs puts the field die into posture. -/
  | upstreamSilence (t : Nat)
  /-- CRYSTAL_LOSS (R32): No crystal edge for 1 µs stops ticks, silences gates, drops the hold and
  surrenders. -/
  | crystalLoss (t : Nat)
  /-- PLL_LOCK (R27): The PLL locks and the time counter and carrier start. -/
  | pllLocks (t : Nat)
  /-- PLL_SLIP (R375): The PLL loses lock for more than 100 ns. -/
  | pllSlip (t : Nat)
  /-- SYNC_PULSE (R278): A follower receives the leader's SYNC pulse and disciplines its PLL. -/
  | syncPulse (t : Nat) (e : Int)
  /-- SYNC_FRAME (R278): A SYNC frame sets the follower's tick configuration, index and joint power state.
  -/
  | syncFrame (cfg : Word) (idx : BitVec 8) (pseq : BitVec 16) (joint : BitVec 2)
  /-- SYNC_LOCK (R278): 64 consecutive ticks within ±5 ns make the follower SYNC_LOCKED. -/
  | syncLock
  /-- SYNC_LOST (R278): A tick beyond ±20 ns or 4 missing pulses loses lock. -/
  | syncLost (t : Nat)
  /-- LEADER_CHOICE (R278): After 8 position periods without pulses the lowest locked ROLE_ID becomes
  leader. -/
  | leaderChoice (t : Nat) (me : Bool)
  /-- LANE_UP (R279): A caravan lane becomes UP after 256 good commas and one good frame. -/
  | laneUp (t : Nat) (west : Bool) (lane : Fin 2)
  /-- LANE_DOWN (R279): A caravan lane goes DOWN after 10 µs without valid characters or 4 bad frames in 1
  ms. Beside the lane stand the times of the frames whose CRC failed on it, none where it is silent. -/
  | laneDown (t : Nat) (west : Bool) (lane : Fin 2 × List Nat)
  /-- STATE_FRAME (R282): A STATE frame carrying a portal's state block is received whole. -/
  | stateFrame (p : Slot) (blk : StateBlock) (t : Nat)
  /-- STATE_INSTALL (R282): At its next position tick the holder installs the copied block, PIN and FOLLOW
  words and FWD writes. -/
  | stateInstall (p : Slot)
  /-- STATE_DISCARD (R282): A STATE frame not whole and good 200 µs after its capture tick is discarded. -/
  | stateDiscard (p : Slot)
  /-- HEALTH_FRAME (R286): A HEALTH frame with the partner's health word and summary is received. -/
  | healthFrame (t : Nat) (m : HealthMsg)
  /-- FWD (R282): A forwarded MCMD write is received for execution at the named tick. -/
  | fwd (p : Slot) (a : Axis) (c : McmdWrite) (pseq : Nat)
  /-- CLAIM (R294): A LEASE CLAIM with epoch plus 1 is received, or refused on an epoch conflict. -/
  | claim (t : Nat) (p : Slot) (e : Word)
  /-- RENEW (R294): A LEASE RENEW is received and answered with ACK. -/
  | renew (t : Nat) (p : Slot) (e : Word)
  /-- ACK (R294): A LEASE ACK is received, extending the holder's expiry. -/
  | ack (t : Nat) (p : Slot) (e : Word)
  /-- SURRENDER (R295): A SURRENDER message for a portal is received and leads to takeover or a claim. -/
  | surrender (t : Nat) (p : Slot) (member : Bool) (e : Word)
  /-- RELEASE (R297): A LEASE RELEASE is received, allowing the other candidate to claim. -/
  | release (t : Nat) (p : Slot) (e : Word)
  /-- REFUSE (R291): A REFUSE is received and the transfer or claim changes nothing. -/
  | refuse (t : Nat) (p : Slot)
  /-- RETURN_REQ (R297): A home return request is received and held until the portal is at rest. -/
  | returnReq (t : Nat) (p : Slot)
  /-- XFER (R292): A LEASE XFER naming valley V is received for a transfer. -/
  | xfer (t : Nat) (p : Slot) (valley : Nat) (e : Word) (duties : List (List Nat))
  /-- MIRROR_RECORD (R313): A RECMIRROR RECORD is received and placed in the mirror area. -/
  | mirrorRecord (t : Nat) (origin : Nat) (west : Bool) (ofs : Nat) (r : Rec)
  /-- FLUSH_MARK (R313): A RECMIRROR FLUSH_MARK is received, freeing mirror space below it. -/
  | flushMark (origin : Nat) (ofs : Nat)
  /-- RETURN (R314): An adopted record is returned to its origin, which stores it if new. -/
  | returnRecord (t : Nat) (r : Rec)
  /-- RETURN_END (R314): RETURN_END is received, ending the return of adopted records. -/
  | returnEnd (t : Nat) (sender : Nat)
  /-- SURR_N_LOW (R277): A Duo member accepts SURR_N low that it is not pulling and concludes its partner
  has surrendered. -/
  | surrNLow (t : Nat) (lvl : Bool)
  /-- TAKEOVER (R290): At the takeover valley the member drives the portal and sets OWNER 00b, or refuses
  under GAPPED. -/
  | takeover (p : Slot) (high : Bool)
  /-- MEMBER_SURRENDER (R289): A member gives up control, releasing outputs, pulling SURR_N and sending
  SURRENDER. -/
  | memberSurrender (t : Nat) (code : BitVec 8)
  /-- SUPPLY_OUT_OF_RANGE (R288): VCORE, VDDIO33 or VDDA out of range for 2 µs causes surrender and reset.
  -/
  | supplyOutOfRange (i : Fin 3) (out : Bool) (t : Nat)
  /-- VDDIO18_OUT_OF_RANGE (R375): VDDIO18 out of range for 2 µs sets VDDIO18_OOR. -/
  | vddio18OutOfRange (t : Nat) (out : Bool)
  /-- THERMAL_SURRENDER (R288): Module temperature at or above 130 °C for 1 ms causes surrender. -/
  | thermalSurrender (t : Nat)
  /-- UNCORRECTABLE_ECC (R288): An uncorrectable ECC error outside engine memories causes member surrender.
  -/
  | uncorrectableEcc (t : Nat)
  /-- TEMP_CHANGE (R375): PWR.TEMP crosses WARN, WARN − HYST or 125 °C, setting thermal flags. -/
  | tempChange (t : Nat) (temp : BitVec 16)
  /-- SURRENDER_GO (R288): A host write of CVN.SURRENDER.GO with a session surrenders the member. -/
  | surrenderGo (gate : Bool)
  /-- CVN_XFER (R291): A host write of CVN.XFER requests transfer of slots to the other member. -/
  | cvnXfer (mask : Word) (gate : Bool)
  /-- TRANSFER_VALLEY (R291): At valley V the transfer hands the slots over, with overlap or gap. -/
  | transferValley (p : Slot) (high : Bool)
  /-- LEASE_RENEWAL (R294): The holder sends RENEW at the first position tick 4 ms after its last renewal.
  -/
  | leaseRenewal (p : Slot)
  /-- LEASE_EXPIRY (R294): The holder's lease expires and it releases the portal's outputs. -/
  | leaseExpiry (p : Slot)
  /-- CLAIM_TIME (R296): The other candidate reaches its claim time and claims at the next position tick. -/
  | claimTime (p : Slot)
  /-- HOME_RETURN (R297): A home member eligible for HOME_DELAY sends RETURN_REQ for an adopted home portal
  at rest. -/
  | homeReturn (p : Slot)
  /-- ROLE_TAKE (R284): At start-up a member takes its portals or leases once start-up and sync conditions
  hold. -/
  | roleTake
  /-- STATE_WAIT_TIMEOUT (R284): Duo member 1 with no STATE frame for 5 s takes every enabled portal. -/
  | stateWaitTimeout
  /-- MIRAGE_STALE (R283): A held mirage passes 32 ms without install and loses eligibility. -/
  | mirageStale (p : Slot)
  /-- PARTNER_INELIGIBLE (R287): The partner's HEALTH missing for 4 periods or showing ineligible sets
  PARTNER_INELIGIBLE. -/
  | partnerIneligible (t : Nat) (west : Bool)
  /-- RECORD_REQUEST (R310): A record request is admitted to a cycle slot or FIFO, or counted in a tally. -/
  | recordRequest (t : Nat) (q : RecordAsk)
  /-- RECORD_WRITE (R310): A drained request takes its SEQ and is written atomically into the record buffer.
  -/
  | recordWrite
  /-- SNAPSHOT_RECORD_READ (R305): At the first strobe after the triggering record the recorder reads the
  snapshot registers. -/
  | snapshotRecordRead
  /-- FLUSH_TIMER (R316): 2 s after the previous flush started with anything unflushed, a flush starts. -/
  | flushTimer
  /-- SEVERE_FLUSH_TIMER (R316): 1 ms after a severity 3 or 4 record enters the own area, a flush starts. -/
  | severeFlushTimer
  /-- FLUSH (R316): A write of REC.CTRL.FLUSH starts a flush. -/
  | flush
  /-- FLUSH_COMPLETE (R316): A flush completes, sending FLUSH_MARK and starting any queued flush. -/
  | flushComplete
  /-- NAND_PROGRAM_COMPLETE (R321): A NAND program operation completes, or fails and the block is retired.
  -/
  | nandProgramComplete (t : Nat) (ok : Bool)
  /-- PFI_ACCEPT (R318): PFI accepted after 1 µs starts the power-fail flush. -/
  | pfiAccept (t : Nat)
  /-- PF_DONE (R318): The power-fail flush completes and PF_DONE is set. -/
  | pfDone (t : Nat)
  /-- PFI_FALL (R319): PFI falls without a reset; IMAGE_CONSUMED is appended and flushing returns to normal.
  -/
  | pfiFall (t : Nat)
  /-- SEQ_HOLD_END (R315): After RETURN_END from every reachable member or 5 s, SEQ assignment resumes. -/
  | seqHoldEnd
  /-- CURSOR_LO (R327): A write of REC.CURSOR_LO loads the record window. -/
  | cursorLo (v : Word)
  /-- SEEK_OLDEST (R327): REC.CTRL.SEEK_OLDEST sets the cursor to the oldest record and loads the window. -/
  | seekOldest
  /-- SEEK_NEWEST (R327): REC.CTRL.SEEK_NEWEST sets the cursor to the newest record and loads the window. -/
  | seekNewest
  /-- WINDOW_READY (R327): The window load completes and READY is set. -/
  | windowReady
  /-- COMPACTION_START (R332): The active journal half reaches 75 % and compaction starts. -/
  | compactionStart
  /-- COMPACTION_END (R332): SNAP_END is programmed and the new journal half becomes active. -/
  | compactionEnd
  /-- LOAD_BEGIN (R339): SEC.LOAD_CTRL.BEGIN erases the free bundle slot for a load. -/
  | loadBegin (gate : Bool)
  /-- LOAD_WIN_WRITE (R339): A gated write to the load window stores bundle bytes at LOAD_OFS. -/
  | loadWinWrite (ofs : Nat) (bytes : List Byte) (gate : Bool)
  /-- LOAD_END (R339): SEC.LOAD_CTRL.END starts verification of the slot. -/
  | loadEnd (gate : Bool)
  /-- LOAD_ABORT (R339): SEC.LOAD_CTRL.ABORT aborts the load, leaving the slot invalid. -/
  | loadAbort (gate : Bool)
  /-- BUNDLE_VERIFY (R340): Bundle verification completes, marking the slot PENDING or invalid with a code.
  -/
  | bundleVerify (t : Nat)
  /-- KEY_ORDER (R337): SEC.CTRL.KEY_ORDER fills or revokes an owner key slot. -/
  | keyOrder (gate : Bool)
  /-- REVERT (R341): SEC.CTRL.REVERT marks a valid fallback slot PENDING. -/
  | revert (gate : Bool)
  /-- SVN_COMMIT (R342): SEC.CTRL.SVN_COMMIT blows fuses up to the bundle's SVN. -/
  | svnCommit (gate : Bool)
  /-- SESS_END (R347): SEC.CTRL.SESS_END ends the maintenance session. -/
  | sessEnd (gate : Bool)
  /-- CERT_READ (R344): SEC.CTRL.CERT_READ places the attestation certificate in the message buffer. -/
  | certRead
  /-- ATTEST (R344): SEC.CTRL.ATTEST starts signing an attestation report over the nonce. -/
  | attest
  /-- REPORT_READY (R344): The signed attestation report is placed in the message buffer. -/
  | reportReady (t : Nat)
  /-- CHAL_REQ (R345): SEC.CTRL.CHAL_REQ draws a fresh nonce and ephemeral key pair. -/
  | chalReq
  /-- CHALLENGE_READY (R345): The signed challenge is placed in the message buffer. -/
  | challengeReady (t : Nat)
  /-- SESS_START (R345): SEC.CTRL.SESS_START starts checking a session token. -/
  | sessStart
  /-- TOKEN_CHECKED (R345): The token check completes and the session opens or is refused. -/
  | tokenChecked (t : Nat)
  /-- SESSION_EXPIRY (R347): The session LIFETIME elapses in operating time and the session ends. -/
  | sessionExpiry
  /-- ORDER (R349): LCS.ORDER.GO starts a life-cycle transition, or is refused. -/
  | order (gate : Bool)
  /-- JTAG_INSTRUCTION (R351): An instruction loaded into the JTAG register is accepted or replaced by
  BYPASS. -/
  | jtagInstruction (ins : JtagIns) (vendor : Bool)
  /-- TRST_N (R352): TRST_N asserted ends EXTEST. -/
  | trstN
  /-- READ (R358): A READ frame returns LEN bytes and the trailer. -/
  | readFrame (t : Nat) (hcrc : Word) (addr : Nat) (len : Nat) (bad : List (Nat × Ecc))
  /-- WRITE (R364): A WRITE frame is accepted as a posted write if credits are free. -/
  | writeFrame (t : Nat) (hcrc : Word) (addr : Nat) (data : List Byte)
  /-- WRITE_G (R368): A WRITE_G frame posts a write carrying a session counter and tag. -/
  | writeGated (t : Nat) (hcrc : Word) (addr : Nat) (data : List Byte) (ctr : BitVec 32) (mac : List Byte)
  /-- STATUS (R358): A STATUS frame returns the trailer alone. -/
  | statusFrame (t : Nat) (hcrc : Word) (op : BitVec 8) (addr : Nat) (len : Nat)
  /-- RESYNC (R356): A frame of all-ones bytes returns the port to 1-1-1 and sets RESYNC. -/
  | resync (t : Nat)
  /-- FRAME_CUT (R363): HST_CS_N rises before HCRC completes and the frame is discarded. -/
  | frameCut (t : Nat)
  /-- WRITE_COMPLETION (R365): A posted write completes in tag order, applied or failed, returning its
  credits. -/
  | writeCompletion (t : Nat)
  /-- HOST_GONE (R371): HOST_TMO passes without a good frame and HOST_GONE is set. -/
  | hostGone
  /-- WAKE_N (R370): WAKE_N goes low, holding the controller at HOLD or waking it. -/
  | wakeN (t : Nat) (low : Bool)
  /-- PEND_CLEAR (R376): A write of 1 to EVC.PEND clears pending bits. -/
  | pendClear (k : Fin 2) (v : Word)
  /-- EN_WRITE (R376): A write enabling a source sets PEND if a feeding flag is standing. -/
  | enWrite (k : Fin 2) (v : Word)
  /-- SWSET (R374): A write of EVC.SWSET.SET is an occurrence of source 63. -/
  | swset
  /-- POWER_STATE_ENTRY (R383): Members enter the joint power state at the tick the SYNC frame names, or
  abort. -/
  | powerStateEntry
  /-- WAKE (R385): A wake cause ends a state below RUN and starts the exit, with a SYNC wake pulse. -/
  | wake (code : BitVec 8) (t : Nat)
  /-- EXIT_COMPLETE (R387): The exit steps complete and RUN resumes with realignment of axes. -/
  | exitComplete (t : Nat)
  /-- TOLERANCE_WRITE (R391): A tolerance write takes effect at the next tick and may wake the controller
  with cause 0Bh. -/
  | toleranceWrite (which : Fin 3) (v : Word)
  /-- RST_N_ASSERT (R392): RST_N asserted resets the control and field dies. -/
  | rstNAssert (t : Nat)
  /-- VFLD_LOSS (R392): Loss of VFLD resets both dies. -/
  | vfldLoss (t : Nat)
  /-- RESET_GO (R393): A write of SYS.RESET.GO resets the control die after a flush, or is refused. -/
  | resetGo
  /-- CONTROL_DIE_RESET (R392): The control die enters reset for one of the reset causes. -/
  | controlDieReset (t : Nat)
  /-- CONTROL_DIE_RELEASE (R392): The control die is released from reset when its release condition is met.
  -/
  | controlDieRelease (t : Nat)
  /-- COMMIT (R402): A write of SYS.COMMIT.GO sets PENDING and closes staging. -/
  | commitCmd
  /-- COMMIT_RESOLUTION (R404): At the next position tick the staged set is checked and applied whole or
  rejected with a reason. -/
  | commitResolution
  /-- RST_N_RELEASE (R27): RST_N rises; the field die leaves reset and the time counter, carrier and tick
  generator start at value 0 if the PLL is already locked. -/
  | rstNRelease (t : Nat) (role : Fin 8)
  /-- STARTUP_STEP_COMPLETE (R396): A start-up step such as WIPE, KEYS, NAND, VERIFY, LOAD, CONFIG, REPLAY
  or RECORDER completes, and the next step begins. -/
  | startupStepComplete (t : Nat) (nandOk : Bool)
  /-- NAND_ERASE_COMPLETE (R321): A NAND block erase completes. -/
  | nandEraseComplete (b : Nat)
  /-- SEAL_SIGNATURE_READY (R323): The ECDSA signature of a seal record is ready to be appended. -/
  | sealSignatureReady (t : Nat)
  /-- DSM_TRANSITIONS_RESUME (R146): A stuck bitstream shows transitions for 64 modulator clocks and the
  live DSM_STUCK status clears. -/
  | dsmTransitionsResume (t : Nat) (a : Axis)
  /-- LOOP_DRIVER_LIMIT_OFF (R435): DLP_A or DLP_B remains in its current limit for 5 ms and turns off. -/
  | loopDriverLimitOff
  /-- LOOP_DRIVER_RETRY (R435): Every 100 ms while HOLD is true, a door-loop driver that was cut off by its
  current limit is retried. -/
  | loopDriverRetry
  /-- SPINE_LOOPBACK (R287): A loopback frame goes through the field die every 1 ms, and two consecutive
  failures clear SPINE_OK. -/
  | spineLoopback (ok : Bool)
  /-- BACKGROUND_SELF_TEST (R287): A 256-byte slice of the memory march test runs, saved and restored, in
  fabric time that no tick uses, updating BIST_OK. -/
  | backgroundSelfTest (engine : Bool) (ok : Bool)
  /-- NOT_STARTED_HOLD_END (R401): 5 s after DONE without a HEALTH frame from the other candidate, the
  driver stops holding its portals in FAULT with cause NOT_STARTED. -/
  | notStartedHoldEnd
  deriving DecidableEq, Repr

end Sys2Proof
end

