-- ==== Sys2Proof/Config.lean ====
section
/-!
DEFINITION. What the spec leaves open, as constants without a body: nothing in Lean can evaluate them,
so a statement about them holds whatever they are. Each is named in the assumption log.
-/

namespace Sys2Proof.Config

/-- Free values (DESIGN CHOICE, log 1): the value at site `site` of the `seq`-th command. Used where the
spec says a value results and does not say which. -/
opaque freeNat (seq site : Nat) : Nat

/-- FLAGS (byte 0) and payload (from byte 1) of a journal entry: R330 lays neither out (log 63). -/
opaque entryByte (b : Machine.JPayload) (i : Nat) : BitVec 8

/-! Functions of the standard servo and step programs whose rounding the spec does not state (log 2):
sine and cosine of a Q1.31 fraction of π, arc tangent in degrees, square root. Results are binary32. -/
opaque fsin (angle : Word) : Word
opaque fcos (angle : Word) : Word
opaque fatan2Deg (y x : Word) : Word
opaque fsqrt (x : Word) : Word

/-- The bytes of a state block, at most 1 024; the spec gives its parts and no layout (R281, log 126). -/
opaque blockBytes (b : Machine.StateBlock) : List Byte

/-- Which of the two 16-bit magnitudes beside the exact one a coil reference takes at an angle (R194, log 125). -/
opaque refRound (alpha : Nat) : Bool

/-- The relative error of an FRCP or FRSQ estimate, in units of 2⁻³⁰; `Irval` bounds it (R240, log 3). -/
opaque estimateError (op : Nat) (x : Word) : Int

/-- Which of two zeros of opposite signs FMIN (0) and FMAX (1) answer: IEEE 754 leaves it open (R240, log 16). -/
opaque zeroPick (op : Nat) (a b : Word) : Bool

/-! Constants of a bundle's door program that no register holds: how far a step extends and a swing axis
opens, in counts, by portal slot (log 48). -/
opaque stepStroke (slot : Nat) : Nat
opaque swingStroke (slot : Nat) : Nat

/-! Published algorithms the spec names and does not restate (spec/00, log 4). -/
opaque sha256 (bytes : List Byte) : Nat
opaque hmacSha256 (key : Nat) (bytes : List Byte) : Nat
opaque ecdsaValid (pubkey : List Byte) (digest : Nat) (sig : List Byte) : Bool
/-- A signature by the key whose public key has the given SHA-256, where only that hash is held (R345). -/
opaque ecdsaValidFor (keyHash digest : Nat) (sig : List Byte) : Bool
opaque ecdsaSign (key digest : Nat) : List Byte
/-- The ECDH shared value of the controller's key (identity or ephemeral) and a public key. -/
opaque ecdh (ownKey : Nat) (peer : List Byte) : Nat
opaque ephemeralPub (ownKey : Nat) : List Byte
/-- The physically unclonable seed of the die, which nothing stores (R336, log 148). -/
opaque seed : Nat
/-- What HMAC-SHA-256 takes beside the seed for the identity key (`none`) and for the storage key of a generation (R336,
log 148). -/
opaque derivation (sgen : Option Nat) : List Byte
/-- AES-256-GCM sealing of a plaintext under a key: nonce, ciphertext and tag. -/
opaque gcmSeal (key : Nat) (bytes : List Byte) : List Byte
/-- AES-256-GCM opening of a section under a key: the plaintext where the tag is valid. -/
opaque gcmOpen (key : Nat) (bytes : List Byte) : Option (List Byte)

/-! Orders in the message buffer whose layout the spec does not give (log 5): a key order, and the owner keys of
a life-cycle order with the bytes they take. -/
opaque keyOrderOf (bytes : List Byte) : Option Machine.KeyOrder
opaque orderKeysOf (bytes : List Byte) : Option (List (Nat × Nat) × Nat)

/-! Inner layouts of bundle sections, which the spec does not give (log 5). -/
opaque engineOf (bytes : List Byte) : Option Machine.EngImage
opaque banksOf (bytes : List Byte) : Option Machine.BankImage
opaque ilkMapOf (bytes : List Byte) : Option Machine.IlkMap
opaque configOf (bytes : List Byte) : Option Machine.ConfigImage

end Sys2Proof.Config
end

