-- ==== Sys2Proof/Machine/Bits.lean ====
section
/-!
DEFINITION. Bit fields of a register word (R12: NAME[h:l], bit l is the field's least significant
bit), sign handling, saturation and byte order (R13: least significant byte first).
-/

namespace Sys2Proof.Machine

/-- The field `w[hi:lo]` as a number (R12). -/
def fld (w : Word) (hi lo : Nat) : Nat := (w.toNat / 2 ^ lo) % 2 ^ (hi + 1 - lo)

/-- Bit `i` of `w` (R12). -/
def bit (w : Word) (i : Nat) : Bool := w.toNat.testBit i

/-- `w` with the field `[hi:lo]` replaced by `v` modulo the field's size (R12). -/
def setFld (w : Word) (hi lo v : Nat) : Word :=
  BitVec.ofNat 32 (w.toNat - fld w hi lo * 2 ^ lo + (v % 2 ^ (hi + 1 - lo)) * 2 ^ lo)

/-- `w` with bit `i` set to `b`. -/
def setBit (w : Word) (i : Nat) (b : Bool) : Word := setFld w i i b.toNat

/-- A two's-complement value of `n` bits held in a natural number. -/
def sext (n v : Nat) : Int :=
  let v := v % 2 ^ n
  if v < 2 ^ (n - 1) then (v : Int) else (v : Int) - (2 ^ n : Nat)

/-- The signed field `w[hi:lo]`. -/
def sfld (w : Word) (hi lo : Nat) : Int := sext (hi + 1 - lo) (fld w hi lo)

/-- A register word from an integer, wrapping at 32 bits. -/
def wi (i : Int) : Word := BitVec.ofInt 32 i

/-- A register word from a natural number, wrapping at 32 bits. -/
def wn (n : Nat) : Word := BitVec.ofNat 32 n

/-- `i` saturated to the signed range of `n` bits. -/
def satS (n : Nat) (i : Int) : Int :=
  let hi : Int := (2 ^ (n - 1) : Nat)
  max (-hi) (min (hi - 1) i)

/-- `i` saturated to the unsigned range of `n` bits. -/
def satU (n : Nat) (i : Int) : Nat := (max 0 (min i ((2 ^ n : Nat) - 1))).toNat

/-- `n` plus `k`, saturated at `m`. -/
def satAdd (m n k : Nat) : Nat := min m (n + k)

/-- Round to nearest integer, halves away from zero (R64, R143). -/
def roundAway (q : Rat) : Int := if 0 ≤ q then (q + 1 / 2).floor else -((-q + 1 / 2).floor)

/-- Round to nearest integer, halves upward. -/
def roundUp (q : Rat) : Int := (q + 1 / 2).floor

/-- The bytes of a `k`-byte little-endian number (R13). -/
def leBytes : Nat → Nat → List Byte
  | 0, _ => []
  | k + 1, v => BitVec.ofNat 8 v :: leBytes k (v / 256)

/-- The number a little-endian byte list spells (R13). -/
def leNat : List Byte → Nat
  | [] => 0
  | b :: bs => b.toNat + 256 * leNat bs

/-- Integer square root by Newton's descent from above on fuel: the greatest `r` with `r * r ≤ n`. -/
def isqrtGo (n : Nat) : Nat → Nat → Nat
  | 0, r => r
  | f + 1, r =>
    let r' := (r + n / r) / 2
    if r' < r then isqrtGo n f r' else r

/-- Integer square root. -/
def isqrt (n : Nat) : Nat := if n = 0 then 0 else isqrtGo n (2 * n.log2 + 8) (2 ^ (n.log2 / 2 + 1))

/-- Integer cube root by bisection on the bits: the greatest `r` with `r³ ≤ n`. -/
def icbrtGo (n : Nat) : Nat → Nat → Nat
  | 0, r => r
  | b + 1, r => let r' := r + 2 ^ b; icbrtGo n b (if r' * r' * r' ≤ n then r' else r)

/-- Integer cube root. -/
def icbrt (n : Nat) : Nat := icbrtGo n (n.log2 / 3 + 1) 0

/-- One bit step of CRC-32C, reflected. -/
def crcBit (c : Nat) : Nat := if c % 2 = 1 then (c / 2) ^^^ 0x82F63B78 else c / 2
/-- One byte of CRC-32C. -/
def crcByte (c : Nat) (b : Byte) : Nat :=
  crcBit (crcBit (crcBit (crcBit (crcBit (crcBit (crcBit (crcBit (c ^^^ b.toNat))))))))
/-- CRC-32C of a byte list (spec/00: reflected, initial value and final inversion FFFF_FFFFh). -/
def crc32c (bs : List Byte) : Word := BitVec.ofNat 32 (bs.foldl crcByte 0xFFFFFFFF ^^^ 0xFFFFFFFF)

end Sys2Proof.Machine
end

