-- ==== Sys2Proof/Machine/RegMap.lean ====
section
/-!
DEFINITION. The register map (spec/19 R420, R421, R427, R428, and the register tables of the
chapters it names): every register's address, reset value and the bits of each access type (R16).
The register file of `State` reads an unlisted address through `resetOf`, so every register holds
its reset value until something writes it.
-/

namespace Sys2Proof.Machine

/-- One row of a register table: a register, or `count` registers `stride` bytes apart. The masks
say which bits are RW, ST, ST/LK (`lk`, a part of `st`), W1C and WO (R16); all others are RO or
reserved. `stepOnly` marks motion-page registers that read 0 and ignore writes in SAXn (R428). -/
structure RegRow where
  off : Nat
  name : String
  count : Nat := 1
  stride : Nat := 4
  reset : Nat := 0
  rw : Nat := 0
  st : Nat := 0
  lk : Nat := 0
  w1c : Nat := 0
  wo : Nat := 0
  stepOnly : Bool := false
  deriving DecidableEq, Repr

/-- One row of the address map (R420): a block of `insts` instances. -/
structure BlockRow where
  name : String
  base : Nat
  stride : Nat
  insts : Nat
  size : Nat
  rows : List RegRow
  deriving DecidableEq, Repr

/-- Motion page of SAXn and STXn (R95, R428). -/
def motionRows : List RegRow :=
  [ { off := 0x100, name := "MCFG", st := 0xf, lk := 4 },
    { off := 0x104, name := "SCALE", reset := 0x10000, st := 0xffffffff, lk := 0xffffffff },
    { off := 0x108, name := "MASS", st := 0xffff },
    { off := 0x10c, name := "KE_CAP", reset := 0x64, st := 0xffffffff },
    { off := 0x110, name := "LIM_O_V", st := 0xffffffff },
    { off := 0x114, name := "LIM_O_A", st := 0xffffffff },
    { off := 0x118, name := "LIM_O_J", st := 0xffffffff },
    { off := 0x120, name := "LIM_C_V", st := 0xffffffff },
    { off := 0x124, name := "LIM_C_A", st := 0xffffffff },
    { off := 0x128, name := "LIM_C_J", st := 0xffffffff },
    { off := 0x130, name := "STOP_A", st := 0xffffffff },
    { off := 0x134, name := "STOP_J", st := 0xffffffff },
    { off := 0x138, name := "START_V", st := 0xffffffff, stepOnly := true },
    { off := 0x140, name := "MV_TGT", rw := 0xffffffff },
    { off := 0x144, name := "MV_ATTR", reset := 0x10000, rw := 0xfffff },
    { off := 0x148, name := "MV_TGT2", rw := 0xffffffff },
    { off := 0x150, name := "MCMD", wo := 0xf },
    { off := 0x154, name := "MSTAT" },
    { off := 0x158, name := "MFLAGS", w1c := 0xffcff },
    { off := 0x160, name := "SP_INT" },
    { off := 0x164, name := "SP_FRAC" },
    { off := 0x168, name := "SP_VEL" },
    { off := 0x16c, name := "SP_ACC" },
    { off := 0x170, name := "POS_OFFSET" } ] ++
  [ { off := 0x174, name := "LEDGER_CMD" },
    { off := 0x178, name := "LEDGER_EXE" },
    { off := 0x17c, name := "LEDGER_RES" },
    { off := 0x180, name := "CMP_POS", count := 4, stride := 4, rw := 0xffffffff },
    { off := 0x190, name := "CMP_CTRL", count := 4, stride := 4, reset := 0x3f, rw := 0x8000, st := 0x7c3f },
    { off := 0x1a0, name := "LATCH_CFG", reset := 0x7f, rw := 0x8000, st := 0x707f },
    { off := 0x1a4, name := "LATCH_POS" },
    { off := 0x1a8, name := "LATCH_TIME" },
    { off := 0x1ac, name := "LATCH_REF", st := 0xffffffff },
    { off := 0x1b0, name := "HOME_SEEK_V", st := 0xffffffff, stepOnly := true },
    { off := 0x1b4, name := "HOME_CREEP_V", st := 0xffffffff, stepOnly := true },
    { off := 0x1b8, name := "HOME_BACKOFF", st := 0xffffffff, stepOnly := true },
    { off := 0x1bc, name := "HOME_MAX", st := 0xffffffff, stepOnly := true },
    { off := 0x1c0, name := "RET_DEPTH", st := 0xffffffff, stepOnly := true },
    { off := 0x1c4, name := "LAST_RES" } ]

/-- Registers of SYS (R406). -/
def sysRows : List RegRow :=
  [ { off := 0, name := "ID", reset := 0x4b441216 },
    { off := 4, name := "REV", reset := 3 },
    { off := 8, name := "STATUS" },
    { off := 0xc, name := "FLAGS", w1c := 1 },
    { off := 0x10, name := "RESET", wo := 1 },
    { off := 0x14, name := "COMMIT", wo := 1 },
    { off := 0x18, name := "COMMIT_STATUS" },
    { off := 0x1c, name := "COMMIT_ADDR" },
    { off := 0x20, name := "COMMIT_CNT" },
    { off := 0x24, name := "SPINE_ERR" },
    { off := 0x28, name := "RESET_CAUSE", reset := 1 },
    { off := 0x2c, name := "STARTUP_MS" } ]

/-- Registers of LCS (R354). -/
def lcsRows : List RegRow :=
  [ { off := 0, name := "STATE" },
    { off := 4, name := "ORDER", wo := 1 },
    { off := 8, name := "RESULT" },
    { off := 0xc, name := "SGEN" },
    { off := 0x10, name := "JTAG" } ]

/-- Registers of PWR (R390). -/
def pwrRows : List RegRow :=
  [ { off := 0, name := "STATUS" },
    { off := 4, name := "CFG", reset := 0xa080003, st := 0xff0f0003 },
    { off := 8, name := "TOL_HOST", rw := 0xffffff },
    { off := 0xc, name := "TOL_FIELD", rw := 0xffffff },
    { off := 0x10, name := "TOL_MOTION", rw := 0xffffff },
    { off := 0x14, name := "EXIT_HOLD", reset := 0x32 },
    { off := 0x18, name := "EXIT_STABLE", reset := 0x4e20 },
    { off := 0x1c, name := "EXIT_DORMANT", reset := 0x448e0 },
    { off := 0x20, name := "WAKE_DIN", count := 3, stride := 4, st := 0xffffffff },
    { off := 0x30, name := "FLAGS", w1c := 0x3fff },
    { off := 0x34, name := "CAUSE" },
    { off := 0x38, name := "SUPPLY" },
    { off := 0x40, name := "TEMP" },
    { off := 0x44, name := "TEMP_CFG", reset := 0x564, st := 0xffff },
    { off := 0x50, name := "TIME_IN", count := 4, stride := 4 } ]

/-- Registers of TBS (R27, R234, R426). -/
def tbsRows : List RegRow :=
  [ { off := 0, name := "TIME_LO" },
    { off := 4, name := "TIME_HI" },
    { off := 8, name := "SAMPLE_TICK" },
    { off := 0xc, name := "TICK_CFG", reset := 0xa2710, st := 0xfffff },
    { off := 0x10, name := "STATUS" },
    { off := 0x14, name := "POS_PERIOD", reset := 0x27100 },
    { off := 0x40, name := "PACE_CFG", reset := 0xa052319, st := 0xffffffff },
    { off := 0x44, name := "PACE" },
    { off := 0x48, name := "PACE_MIN" },
    { off := 0x4c, name := "TWORD" },
    { off := 0x50, name := "PACE_STATUS" },
    { off := 0x54, name := "PACE_FLAGS", w1c := 0xf },
    { off := 0x58, name := "SWITCHES" },
    { off := 0x60, name := "FLAGS", w1c := 0xf } ]

/-- Registers of EVC (R390). -/
def evcRows : List RegRow :=
  [ { off := 0, name := "PEND", count := 2, stride := 4, w1c := 0xffffffff },
    { off := 8, name := "EN", count := 2, stride := 4, rw := 0xffffffff },
    { off := 0x10, name := "ACTIVE", count := 2, stride := 4 },
    { off := 0x18, name := "TOP" },
    { off := 0x1c, name := "CFG", rw := 0x133 },
    { off := 0x20, name := "SWSET", wo := 1 },
    { off := 0x24, name := "PEER_SUM_W" },
    { off := 0x28, name := "PEER_SUM_E" },
    { off := 0x40, name := "PRIO0", reset := 0xffaaaaaa, rw := 0xffffffff },
    { off := 0x44, name := "PRIO1", reset := 0xaaa55bfa, rw := 0xffffffff },
    { off := 0x48, name := "PRIO2", reset := 0xa955765b, rw := 0xffffffff },
    { off := 0x4c, name := "PRIO3", reset := 0x15eaaaff, rw := 0xffffffff } ]

/-- Registers of HST (R372). -/
def hstRows : List RegRow :=
  [ { off := 0, name := "CFG", reset := 0xa00, rw := 0xff03 },
    { off := 4, name := "STATUS" },
    { off := 8, name := "FLAGS", reset := 0x80, w1c := 0xff },
    { off := 0xc, name := "ERR_CNT" },
    { off := 0x10, name := "CRC_CNT" },
    { off := 0x14, name := "CUT_CNT" },
    { off := 0x18, name := "FRAMES" },
    { off := 0x20, name := "WLOG_A", count := 8, stride := 8 },
    { off := 0x24, name := "WLOG_B", count := 8, stride := 8 } ]

/-- Registers of SEC and its message buffer (R354). -/
def secRows : List RegRow :=
  [ { off := 0, name := "STATUS" },
    { off := 4, name := "FLAGS", w1c := 0xfff },
    { off := 8, name := "LOAD_CTRL", wo := 7 },
    { off := 0xc, name := "LOAD_LEN", rw := 0xffffffff },
    { off := 0x10, name := "LOAD_OFS", rw := 0xffffffff },
    { off := 0x14, name := "LOAD_RESULT" },
    { off := 0x18, name := "SVN_COUNT" },
    { off := 0x1c, name := "SLOT_A" },
    { off := 0x20, name := "SLOT_B" },
    { off := 0x24, name := "CTRL", wo := 0x1fe },
    { off := 0x28, name := "MSG_STATUS" },
    { off := 0x2c, name := "KEYSLOTS" },
    { off := 0x30, name := "SESS_STATUS" },
    { off := 0x34, name := "SESS_RIGHTS" },
    { off := 0x38, name := "SESS_CTR" },
    { off := 0x3c, name := "SESS_FAILS" },
    { off := 0x40, name := "BUNDLE_DIGEST", count := 8, stride := 4 },
    { off := 0x400, name := "MSG_BUF", count := 256, stride := 4, rw := 0xffffffff } ]

/-- Registers of CVN (R299). -/
def cvnRows : List RegRow :=
  [ { off := 0, name := "CFG", reset := 0x1e0008, st := 0xffff000c, lk := 0xc },
    { off := 4, name := "STATUS" },
    { off := 8, name := "FLAGS", w1c := 0x7fff },
    { off := 0xc, name := "HEALTH" },
    { off := 0x10, name := "HEALTH_W" },
    { off := 0x14, name := "HEALTH_E" },
    { off := 0x18, name := "DRIVE" },
    { off := 0x1c, name := "MIRAGES" },
    { off := 0x20, name := "MIRAGE_AGE", reset := 0xffff },
    { off := 0x24, name := "XFER", wo := 0xfff },
    { off := 0x28, name := "SURRENDER", wo := 1 },
    { off := 0x2c, name := "SURR_CAUSE" },
    { off := 0x30, name := "LINK" },
    { off := 0x34, name := "CRC_ERR_A" },
    { off := 0x38, name := "CRC_ERR_B" },
    { off := 0x3c, name := "TAKEOVERS" },
    { off := 0x100, name := "LEASE_EPOCH", count := 12, stride := 8 },
    { off := 0x104, name := "LEASE_STATE", count := 12, stride := 8 } ]

/-- Registers of PRTn (R39, R61, R190, R209, R427). -/
def prtRows : List RegRow :=
  [ { off := 0, name := "STATE", reset := 0x14a },
    { off := 4, name := "CMD", wo := 0xf },
    { off := 8, name := "CMD_STATUS" },
    { off := 0xc, name := "CYCLES" },
    { off := 0x10, name := "CFG", reset := 0x14603, st := 0xffff3, lk := 0xff073 },
    { off := 0x14, name := "AXIS_MAP", reset := 0x3f3f0000, st := 0x3f3f0fff, lk := 0x3f3f0fff },
    { off := 0x18, name := "INPUT_MAP", count := 3, stride := 4, reset := 0x7f7f7f7f, st := 0xffffffff, lk := 0xffffffff },
    { off := 0x24, name := "EDGE_MAP", reset := 0x100, st := 0x1f1f, lk := 0x1f1f },
    { off := 0x28, name := "OUTPUT_MAP", reset := 0x3f3f3f3f, st := 0x3f3f3f3f, lk := 0x3f3f3f3f },
    { off := 0x2c, name := "TIME_A", reset := 0x96, st := 0x3ff03ff },
    { off := 0x30, name := "TIME_B", reset := 0x32283232, st := 0xffffffff },
    { off := 0x34, name := "TIME_C", reset := 0x323c503c, st := 0xffffffff },
    { off := 0x38, name := "HEAT_CFG", reset := 0x7f050000, st := 0xffffff03 },
    { off := 0x3c, name := "HEAT_STATUS" },
    { off := 0x40, name := "CYCLE_ACC", count := 12, stride := 4 },
    { off := 0x100, name := "OBS_CFG", reset := 0x7801, st := 0xf803, lk := 0x1800 },
    { off := 0x104, name := "OBS_ZONE_K0", reset := 0x10101010, st := 0xffffffff },
    { off := 0x108, name := "OBS_ZONE_K1", reset := 0x10101010, st := 0xffffffff },
    { off := 0x10c, name := "OBS_GEOM", reset := 0x1e, st := 0xffff00ff },
    { off := 0x110, name := "OBS_SEAL", reset := 0x9600c8, st := 0xffffffff },
    { off := 0x114, name := "OBS_REACT", reset := 0x3140000, st := 0x7ffffff },
    { off := 0x118, name := "OBS_DRIFT_CFG", reset := 0x19, st := 0xff },
    { off := 0x11c, name := "OBS_CTRL", rw := 1, wo := 2 },
    { off := 0x120, name := "OBS_STATUS" } ] ++
  [ { off := 0x124, name := "OBS_RES" },
    { off := 0x128, name := "OBS_TH" },
    { off := 0x12c, name := "OBS_RES_SWING" },
    { off := 0x130, name := "OBS_DRIFT_O", count := 4, stride := 4 },
    { off := 0x140, name := "OBS_DRIFT_C", count := 4, stride := 4 },
    { off := 0x150, name := "OBS_FLAGS", w1c := 0xff } ]

/-- Registers of SAXn servo page (R168). -/
def saxRows : List RegRow :=
  [ { off := 0, name := "CTRL", rw := 1, wo := 0xe },
    { off := 4, name := "STATUS" },
    { off := 8, name := "FLAGS", w1c := 0x3fe },
    { off := 0xc, name := "CFG", st := 0xf1f, lk := 0xf1f },
    { off := 0x10, name := "PWM_CFG", reset := 0x40a0a, st := 0x1fffffff },
    { off := 0x14, name := "DSM_CFG", reset := 0x80032, st := 0x3ffdff },
    { off := 0x18, name := "DSMCLK", reset := 0xa, st := 0x33f },
    { off := 0x1c, name := "IFS", st := 0xffffffff },
    { off := 0x20, name := "OC_LIM", st := 0xffff },
    { off := 0x24, name := "KT", st := 0xffffffff },
    { off := 0x28, name := "RATIO", st := 0xffffffff },
    { off := 0x2c, name := "VBUS", st := 0xffffffff },
    { off := 0x30, name := "HALL_PHASE", st := 0xffff },
    { off := 0x34, name := "ANG_OFS" },
    { off := 0x40, name := "PWM_UVW", count := 3, stride := 4 },
    { off := 0x50, name := "BANK_CTRL", reset := 0x10, rw := 0x10, wo := 7 },
    { off := 0x54, name := "BANK_CRC", count := 2, stride := 4 },
    { off := 0x60, name := "LAST", count := 8, stride := 4 },
    { off := 0x200, name := "BANK_A", count := 20, stride := 4, rw := 0xffffffff },
    { off := 0x280, name := "BANK_B", count := 20, stride := 4, rw := 0xffffffff } ]

/-- Registers of STXn step page (R210). -/
def stxRows : List RegRow :=
  [ { off := 0, name := "CTRL", rw := 1, wo := 6 },
    { off := 4, name := "STATUS" },
    { off := 8, name := "FLAGS", w1c := 0xff },
    { off := 0xc, name := "CFG", reset := 4, st := 0x77, lk := 0x77 },
    { off := 0x10, name := "CHOP_CFG", reset := 0x3040428, st := 0xf1f1f7f },
    { off := 0x14, name := "CUR_CFG", reset := 0xa320000, st := 0xffff0000 },
    { off := 0x18, name := "I_RUN", st := 0xffffffff },
    { off := 0x1c, name := "DSM_CFG", reset := 0x82032, st := 0x3ffdff },
    { off := 0x20, name := "IFS", st := 0xffffffff },
    { off := 0x24, name := "VBUS", st := 0xffffffff },
    { off := 0x28, name := "COIL_R", st := 0xffffffff },
    { off := 0x2c, name := "COIL_L", st := 0xffffffff },
    { off := 0x30, name := "KE", st := 0xffffffff },
    { off := 0x34, name := "ENC_RATIO", st := 0xffffffff },
    { off := 0x38, name := "STALL_CFG", reset := 0x4284600, st := 0xffffff07 },
    { off := 0x3c, name := "EMF_MIN_V", reset := 0x1900, st := 0xffffffff },
    { off := 0x40, name := "DEV_WIN", reset := 0x80, st := 0xffff },
    { off := 0x44, name := "STEPS_ISSUED" },
    { off := 0x48, name := "DEV" },
    { off := 0x4c, name := "I_AB", count := 2, stride := 4 },
    { off := 0x54, name := "REF_AB", count := 2, stride := 4 },
    { off := 0x5c, name := "VDUTY_AB", count := 2, stride := 4 },
    { off := 0x64, name := "EMF_AMP" },
    { off := 0x68, name := "LOAD_ANGLE" } ]

/-- Registers of ENCn (R138). -/
def encRows : List RegRow :=
  [ { off := 0, name := "CFG", reset := 0x4230a00, st := 0xffffffdf },
    { off := 4, name := "CTRL", wo := 3 },
    { off := 8, name := "STATUS" },
    { off := 0xc, name := "FLAGS", w1c := 0x7ff },
    { off := 0x10, name := "COUNT" },
    { off := 0x14, name := "ALIGN" },
    { off := 0x18, name := "SPEED" },
    { off := 0x1c, name := "EDGE_TIME" },
    { off := 0x20, name := "PERIOD" },
    { off := 0x24, name := "ILL_TOTAL" },
    { off := 0x28, name := "INDEX_CFG", reset := 0x8000000, st := 0xffffffff },
    { off := 0x2c, name := "INDEX_LATCH" },
    { off := 0x30, name := "INDEX_PREV" },
    { off := 0x34, name := "DRIFT" },
    { off := 0x38, name := "DRIFT_SUM" },
    { off := 0x3c, name := "INDEX_CNT" },
    { off := 0x40, name := "HALL", reset := 0x70 },
    { off := 0x44, name := "HALL_LATCH" },
    { off := 0x48, name := "XREAD_ERR" } ]

/-- Registers of FIO inputs (R272). -/
def finRows : List RegRow :=
  [ { off := 0, name := "IN_LVL", count := 3, stride := 4 },
    { off := 0xc, name := "IN_QUAL", count := 3, stride := 4 },
    { off := 0x18, name := "IN_RAW", count := 3, stride := 4 },
    { off := 0x24, name := "IN_CHG", count := 3, stride := 4, w1c := 0xffffffff },
    { off := 0x30, name := "IN_EVEN", count := 3, stride := 4, rw := 0xffffffff },
    { off := 0x3c, name := "IN_FLAGS", w1c := 7 },
    { off := 0x40, name := "GRP_CFG", count := 12, stride := 4, reset := 0xa, st := 0x83ff },
    { off := 0x100, name := "DEB", count := 96, stride := 4, reset := 0x2710, st := 0xffff },
    { off := 0x300, name := "STAMP", count := 96, stride := 4 } ]

/-- Registers of FIO switches (R272). -/
def fswRows : List RegRow :=
  [ { off := 0, name := "HS_REQ", count := 2, stride := 4 },
    { off := 8, name := "HS_OUT", count := 2, stride := 4 },
    { off := 0x10, name := "HS_HREQ", count := 2, stride := 4, rw := 0xffffffff },
    { off := 0x18, name := "SW_FLAGS", w1c := 7 },
    { off := 0x1c, name := "SW_STATUS", reset := 0xe },
    { off := 0x100, name := "HS_CFG", count := 48, stride := 0x10, reset := 0x180a300a, st := 0x38fff0ff, lk := 0x20000000 },
    { off := 0x104, name := "HS_STATUS", count := 48, stride := 0x10, reset := 0x63f00 },
    { off := 0x108, name := "HS_FLAGS", count := 48, stride := 0x10, w1c := 0x3ff },
    { off := 0x10c, name := "HS_CTRL", count := 48, stride := 0x10, wo := 1 } ]

/-- Registers of FIO edges (R272). -/
def fedRows : List RegRow :=
  [ { off := 0, name := "EDG_BAND", count := 3, stride := 4, reset := 0x77777777 },
    { off := 0x10, name := "EDG_R", count := 24, stride := 4 },
    { off := 0x70, name := "EDG_FLAGS", w1c := 0xffffff },
    { off := 0x74, name := "EDG_FOREIGN", w1c := 0xffffff },
    { off := 0x78, name := "EDG_STATUS" } ]

/-- Registers of FIO sense (R272). -/
def fsnRows : List RegRow :=
  [ { off := 0, name := "SNS_CFG", reset := 0x7d03f, st := 0xc0ffff3f },
    { off := 4, name := "SCAN_MASK", count := 2, stride := 4, st := 0xffffffff },
    { off := 0xc, name := "SNS_STATUS", reset := 0x3f3f },
    { off := 0x10, name := "SNS_VOLT" },
    { off := 0x14, name := "SNS_FLAGS", w1c := 1 },
    { off := 0x100, name := "SNS_I", count := 48, stride := 4 } ]

/-- Registers of ILK (R87). -/
def ilkRows : List RegRow :=
  [ { off := 0, name := "STATUS" },
    { off := 4, name := "TL_RAW" },
    { off := 8, name := "FLAGS", w1c := 0xfff },
    { off := 0xc, name := "CFG" },
    { off := 0x10, name := "DIN_DEB" },
    { off := 0x14, name := "LOCK_CLASS" },
    { off := 0x18, name := "MAP_ID" },
    { off := 0x100, name := "PMAP_A", count := 12, stride := 8, reset := 0x7f7f7f7f },
    { off := 0x104, name := "PMAP_B", count := 12, stride := 8, reset := 0x7f7f } ]

/-- Registers of REC (R333). -/
def recRows : List RegRow :=
  [ { off := 0, name := "CTRL", wo := 7 },
    { off := 4, name := "STATUS" },
    { off := 8, name := "FLAGS", w1c := 0x3fff },
    { off := 0xc, name := "WIN_CFG", rw := 0x70f01 },
    { off := 0x10, name := "CURSOR_LO", rw := 0xffffffff },
    { off := 0x14, name := "CURSOR_HI", rw := 0xffff },
    { off := 0x18, name := "WIN_STATUS" },
    { off := 0x1c, name := "RAW_PAGE", rw := 0x1ffff },
    { off := 0x20, name := "NEXT_SEQ_LO", reset := 1 },
    { off := 0x24, name := "NEXT_SEQ_HI" },
    { off := 0x28, name := "FLUSHED_SEQ_LO" },
    { off := 0x2c, name := "FLUSHED_SEQ_HI" },
    { off := 0x30, name := "OLDEST_SEQ_LO" },
    { off := 0x34, name := "OLDEST_SEQ_HI" },
    { off := 0x38, name := "BUF_STATUS" },
    { off := 0x3c, name := "STORE_USED" },
    { off := 0x40, name := "SAFETY_USED" },
    { off := 0x44, name := "OVW", count := 4, stride := 4 },
    { off := 0x54, name := "DISCARDS" },
    { off := 0x58, name := "PF_STATUS" },
    { off := 0x5c, name := "CYC_REFUSED" },
    { off := 0x100, name := "TALLY", count := 64, stride := 4 },
    { off := 0x200, name := "SNAP_CFG", count := 8, stride := 4, st := 0x873f003f },
    { off := 0x400, name := "SNAP_ADDR", count := 256, stride := 4, st := 0xffffff } ]

/-- Registers of JNL (R333). -/
def jnlRows : List RegRow :=
  [ { off := 0, name := "STATUS" },
    { off := 4, name := "FLAGS", w1c := 0xf },
    { off := 8, name := "JSEQ" },
    { off := 0xc, name := "SNAP_JSEQ" },
    { off := 0x10, name := "PENDING" },
    { off := 0x14, name := "REPLAYED" },
    { off := 0x18, name := "NAND_STATUS" },
    { off := 0x1c, name := "ERASE_MAX" } ]

/-- Registers of TRC (R169). -/
def trcRows : List RegRow :=
  [ { off := 0, name := "CTRL", reset := 0x100, rw := 0xffff03, wo := 0x30 },
    { off := 4, name := "STATUS" },
    { off := 8, name := "FLAGS", w1c := 7 },
    { off := 0xc, name := "TRIG_CFG", rw := 0xff3f3707 },
    { off := 0x10, name := "TRIG_LEVEL", rw := 0xffffffff },
    { off := 0x14, name := "PRE", rw := 0x1fff },
    { off := 0x18, name := "TRIG_PTR" },
    { off := 0x1c, name := "PORT_CFG", rw := 1 },
    { off := 0x20, name := "MANUAL", wo := 1 },
    { off := 0x40, name := "CH_SEL", count := 8, stride := 4, reset := 0x1d, rw := 0xf1f } ]

/-- Registers of ENGn (R233). -/
def engRows : List RegRow :=
  [ { off := 0, name := "STATUS" },
    { off := 4, name := "CTRL", wo := 3 },
    { off := 8, name := "FLAGS", w1c := 0xf },
    { off := 0xc, name := "EXC" },
    { off := 0x10, name := "EXC_PC" },
    { off := 0x14, name := "IMAGE_ID" },
    { off := 0x18, name := "DONE_LAST" },
    { off := 0x1c, name := "DONE_MAX" },
    { off := 0x20, name := "WORDS_MAX" },
    { off := 0x24, name := "ECC" },
    { off := 0x28, name := "RESTARTS" },
    { off := 0x30, name := "CERT", count := 16, stride := 4 } ]

/-- The register blocks of the address map (R420). -/
def blockRows : List BlockRow :=
  [ { name := "SYS", base := 0x000000, stride := 0x1000, insts := 1, size := 0x1000, rows := sysRows },
    { name := "LCS", base := 0x001000, stride := 0x1000, insts := 1, size := 0x1000, rows := lcsRows },
    { name := "PWR", base := 0x002000, stride := 0x1000, insts := 1, size := 0x1000, rows := pwrRows },
    { name := "TBS", base := 0x003000, stride := 0x1000, insts := 1, size := 0x1000, rows := tbsRows },
    { name := "EVC", base := 0x004000, stride := 0x1000, insts := 1, size := 0x1000, rows := evcRows },
    { name := "HST", base := 0x005000, stride := 0x1000, insts := 1, size := 0x1000, rows := hstRows },
    { name := "SEC", base := 0x006000, stride := 0x1000, insts := 1, size := 0x2000, rows := secRows },
    { name := "CVN", base := 0x008000, stride := 0x1000, insts := 1, size := 0x1000, rows := cvnRows },
    { name := "PRT", base := 0x010000, stride := 0x1000, insts := 12, size := 0x1000, rows := prtRows },
    { name := "SAX", base := 0x020000, stride := 0x800, insts := 16, size := 0x800, rows := (saxRows ++ motionRows) },
    { name := "STX", base := 0x030000, stride := 0x800, insts := 12, size := 0x800, rows := (stxRows ++ motionRows) },
    { name := "ENC", base := 0x040000, stride := 0x100, insts := 28, size := 0x100, rows := encRows },
    { name := "FIN", base := 0x050000, stride := 0x1000, insts := 1, size := 0x1000, rows := finRows },
    { name := "FSW", base := 0x051000, stride := 0x1000, insts := 1, size := 0x1000, rows := fswRows },
    { name := "FED", base := 0x052000, stride := 0x1000, insts := 1, size := 0x1000, rows := fedRows },
    { name := "FSN", base := 0x053000, stride := 0x1000, insts := 1, size := 0x1000, rows := fsnRows },
    { name := "ILK", base := 0x060000, stride := 0x1000, insts := 1, size := 0x1000, rows := ilkRows },
    { name := "REC", base := 0x070000, stride := 0x1000, insts := 1, size := 0x1000, rows := recRows },
    { name := "JNL", base := 0x078000, stride := 0x1000, insts := 1, size := 0x1000, rows := jnlRows },
    { name := "TRC", base := 0x080000, stride := 0x1000, insts := 1, size := 0x1000, rows := trcRows },
    { name := "ENG", base := 0x100000, stride := 0x10000, insts := 12, size := 0x8000, rows := engRows } ]

/-- A register of the map: its block, instance, row and index within the row. -/
structure RegAt where
  block : BlockRow
  inst : Nat
  row : RegRow
  idx : Nat
  deriving DecidableEq, Repr

/-- The row of a block that holds offset `o`. -/
def findRow : List RegRow → Nat → Option (RegRow × Nat)
  | [], _ => none
  | r :: rs, o =>
    if r.off ≤ o ∧ o < r.off + r.count * r.stride ∧ (o - r.off) % r.stride = 0
    then some (r, (o - r.off) / r.stride) else findRow rs o

/-- The block whose rows may hold address `a`. -/
def findBlock : List BlockRow → Nat → Option (BlockRow × Nat)
  | [], _ => none
  | b :: bs, a =>
    if b.base ≤ a ∧ a < b.base + b.insts * b.stride ∧ (a - b.base) % b.stride < b.size
    then some (b, (a - b.base) / b.stride) else findBlock bs a

/-- The register at byte address `a`, if one is assigned there (R421, R18). Step-only registers of
a servo axis are not assigned (R428), DSMCLK exists for SAX0 to SAX3 only (R168), and the index and
Hall registers exist for ENC0 to ENC15 only (R428). -/
def regAt (a : Nat) : Option RegAt :=
  match findBlock blockRows a with
  | none => none
  | some (b, n) =>
    match findRow b.rows ((a - b.base) % b.stride) with
    | none => none
    | some (r, i) =>
      if b.name = "SAX" ∧ (r.stepOnly ∨ (r.name = "DSMCLK" ∧ 4 ≤ n)) then none
      else if b.name = "ENC" ∧ 16 ≤ n ∧ 0x28 ≤ r.off ∧ r.off ≤ 0x44 then none
      else some ⟨b, n, r, i⟩

/-- The reset value of a register (R427 for AXIS_MAP and EDGE_MAP, R272 for HSn_CFG of the heavy
channels 40 to 47). -/
def RegAt.resetVal (r : RegAt) : Word :=
  BitVec.ofNat 32 (
    if r.row.name = "AXIS_MAP" then r.row.reset + 0x101 * r.inst + (if r.inst ≤ 3 then (12 + r.inst) * 0x10 else 0)
    else if r.row.name = "EDGE_MAP" then r.row.reset + 0x202 * r.inst
    else if r.row.name = "HS_CFG" ∧ 40 ≤ r.idx then 0x180A3032
    else r.row.reset)

/-- What an unlisted address of the register file reads as: the register's reset value; 0 where no
register is assigned (R18). -/
def resetOf (a : Nat) : Word :=
  match regAt a with
  | none => 0
  | some r => r.resetVal

/-- The upper register of a 48-channel pair holds 16 bits (R272). -/
def RegAt.upperMask (r : RegAt) : Nat :=
  if (r.row.name = "HS_HREQ" ∨ r.row.name = "SCAN_MASK" ∨ r.row.name = "HS_REQ" ∨ r.row.name = "HS_OUT")
     ∧ r.idx = 1 then 0xffff else 0xffffffff

/-- The bits of one access type that register `r` has. -/
def RegAt.rwMask (r : RegAt) : Word := BitVec.ofNat 32 r.row.rw &&& BitVec.ofNat 32 r.upperMask
def RegAt.stMask (r : RegAt) : Word := BitVec.ofNat 32 r.row.st &&& BitVec.ofNat 32 r.upperMask
def RegAt.lkMask (r : RegAt) : Word := BitVec.ofNat 32 r.row.lk &&& BitVec.ofNat 32 r.upperMask
def RegAt.w1cMask (r : RegAt) : Word := BitVec.ofNat 32 r.row.w1c
def RegAt.woMask (r : RegAt) : Word := BitVec.ofNat 32 r.row.wo

/-- The inclusive start and end of every row of the address map (R420). -/
def addrRows : List (Nat × Nat) :=
  [ (0x000000, 0x000fff), (0x001000, 0x001fff), (0x002000, 0x002fff), (0x003000, 0x003fff),
    (0x004000, 0x004fff), (0x005000, 0x005fff), (0x006000, 0x007fff), (0x008000, 0x008fff) ] ++
  (List.range 12).map (fun n => (0x010000 + n * 0x1000, 0x010fff + n * 0x1000)) ++
  (List.range 16).map (fun n => (0x020000 + n * 0x800, 0x0207ff + n * 0x800)) ++
  (List.range 12).map (fun n => (0x030000 + n * 0x800, 0x0307ff + n * 0x800)) ++
  (List.range 28).map (fun n => (0x040000 + n * 0x100, 0x0400ff + n * 0x100)) ++
  [ (0x050000, 0x050fff), (0x051000, 0x051fff), (0x052000, 0x052fff), (0x053000, 0x053fff),
    (0x060000, 0x060fff), (0x070000, 0x070fff), (0x071000, 0x0710ff), (0x078000, 0x078fff),
    (0x080000, 0x080fff), (0x090000, 0x0cffff) ] ++
  (List.range 12).map (fun n => (0x100000 + n * 0x10000, 0x107fff + n * 0x10000)) ++
  [ (0x200000, 0x27ffff) ]

/-- The range of `len` bytes at `a` lies inside one row (R359, R420). -/
def inOneRow (a len : Nat) : Bool :=
  addrRows.any (fun r => decide (r.1 ≤ a ∧ a + len ≤ r.2 + 1))

/-! Addresses of SYS (R406). -/
abbrev Reg.SYS_ID : Nat := 0x000000
abbrev Reg.SYS_REV : Nat := 0x000004
abbrev Reg.SYS_STATUS : Nat := 0x000008
abbrev Reg.SYS_FLAGS : Nat := 0x00000c
abbrev Reg.SYS_RESET : Nat := 0x000010
abbrev Reg.SYS_COMMIT : Nat := 0x000014
abbrev Reg.SYS_COMMIT_STATUS : Nat := 0x000018
abbrev Reg.SYS_COMMIT_ADDR : Nat := 0x00001c
abbrev Reg.SYS_COMMIT_CNT : Nat := 0x000020
abbrev Reg.SYS_SPINE_ERR : Nat := 0x000024
abbrev Reg.SYS_RESET_CAUSE : Nat := 0x000028
abbrev Reg.SYS_STARTUP_MS : Nat := 0x00002c

/-! Addresses of LCS (R354). -/
abbrev Reg.LCS_STATE : Nat := 0x001000
abbrev Reg.LCS_ORDER : Nat := 0x001004
abbrev Reg.LCS_RESULT : Nat := 0x001008
abbrev Reg.LCS_SGEN : Nat := 0x00100c
abbrev Reg.LCS_JTAG : Nat := 0x001010

/-! Addresses of PWR (R390). -/
abbrev Reg.PWR_STATUS : Nat := 0x002000
abbrev Reg.PWR_CFG : Nat := 0x002004
abbrev Reg.PWR_TOL_HOST : Nat := 0x002008
abbrev Reg.PWR_TOL_FIELD : Nat := 0x00200c
abbrev Reg.PWR_TOL_MOTION : Nat := 0x002010
abbrev Reg.PWR_EXIT_HOLD : Nat := 0x002014
abbrev Reg.PWR_EXIT_STABLE : Nat := 0x002018
abbrev Reg.PWR_EXIT_DORMANT : Nat := 0x00201c
abbrev Reg.PWR_WAKE_DIN (i : Nat) : Nat := 0x002020 + 0x4 * i
abbrev Reg.PWR_FLAGS : Nat := 0x002030
abbrev Reg.PWR_CAUSE : Nat := 0x002034
abbrev Reg.PWR_SUPPLY : Nat := 0x002038
abbrev Reg.PWR_TEMP : Nat := 0x002040
abbrev Reg.PWR_TEMP_CFG : Nat := 0x002044
abbrev Reg.PWR_TIME_IN (i : Nat) : Nat := 0x002050 + 0x4 * i

/-! Addresses of TBS (R27, R234, R426). -/
abbrev Reg.TBS_TIME_LO : Nat := 0x003000
abbrev Reg.TBS_TIME_HI : Nat := 0x003004
abbrev Reg.TBS_SAMPLE_TICK : Nat := 0x003008
abbrev Reg.TBS_TICK_CFG : Nat := 0x00300c
abbrev Reg.TBS_STATUS : Nat := 0x003010
abbrev Reg.TBS_POS_PERIOD : Nat := 0x003014
abbrev Reg.TBS_PACE_CFG : Nat := 0x003040
abbrev Reg.TBS_PACE : Nat := 0x003044
abbrev Reg.TBS_PACE_MIN : Nat := 0x003048
abbrev Reg.TBS_TWORD : Nat := 0x00304c
abbrev Reg.TBS_PACE_STATUS : Nat := 0x003050
abbrev Reg.TBS_PACE_FLAGS : Nat := 0x003054
abbrev Reg.TBS_SWITCHES : Nat := 0x003058
abbrev Reg.TBS_FLAGS : Nat := 0x003060

/-! Addresses of EVC (R390). -/
abbrev Reg.EVC_PEND (i : Nat) : Nat := 0x004000 + 0x4 * i
abbrev Reg.EVC_EN (i : Nat) : Nat := 0x004008 + 0x4 * i
abbrev Reg.EVC_ACTIVE (i : Nat) : Nat := 0x004010 + 0x4 * i
abbrev Reg.EVC_TOP : Nat := 0x004018
abbrev Reg.EVC_CFG : Nat := 0x00401c
abbrev Reg.EVC_SWSET : Nat := 0x004020
abbrev Reg.EVC_PEER_SUM_W : Nat := 0x004024
abbrev Reg.EVC_PEER_SUM_E : Nat := 0x004028
abbrev Reg.EVC_PRIO0 : Nat := 0x004040
abbrev Reg.EVC_PRIO1 : Nat := 0x004044
abbrev Reg.EVC_PRIO2 : Nat := 0x004048
abbrev Reg.EVC_PRIO3 : Nat := 0x00404c

/-! Addresses of HST (R372). -/
abbrev Reg.HST_CFG : Nat := 0x005000
abbrev Reg.HST_STATUS : Nat := 0x005004
abbrev Reg.HST_FLAGS : Nat := 0x005008
abbrev Reg.HST_ERR_CNT : Nat := 0x00500c
abbrev Reg.HST_CRC_CNT : Nat := 0x005010
abbrev Reg.HST_CUT_CNT : Nat := 0x005014
abbrev Reg.HST_FRAMES : Nat := 0x005018
abbrev Reg.HST_WLOG_A (i : Nat) : Nat := 0x005020 + 0x8 * i
abbrev Reg.HST_WLOG_B (i : Nat) : Nat := 0x005024 + 0x8 * i

/-! Addresses of SEC and its message buffer (R354). -/
abbrev Reg.SEC_STATUS : Nat := 0x006000
abbrev Reg.SEC_FLAGS : Nat := 0x006004
abbrev Reg.SEC_LOAD_CTRL : Nat := 0x006008
abbrev Reg.SEC_LOAD_LEN : Nat := 0x00600c
abbrev Reg.SEC_LOAD_OFS : Nat := 0x006010
abbrev Reg.SEC_LOAD_RESULT : Nat := 0x006014
abbrev Reg.SEC_SVN_COUNT : Nat := 0x006018
abbrev Reg.SEC_SLOT_A : Nat := 0x00601c
abbrev Reg.SEC_SLOT_B : Nat := 0x006020
abbrev Reg.SEC_CTRL : Nat := 0x006024
abbrev Reg.SEC_MSG_STATUS : Nat := 0x006028
abbrev Reg.SEC_KEYSLOTS : Nat := 0x00602c
abbrev Reg.SEC_SESS_STATUS : Nat := 0x006030
abbrev Reg.SEC_SESS_RIGHTS : Nat := 0x006034
abbrev Reg.SEC_SESS_CTR : Nat := 0x006038
abbrev Reg.SEC_SESS_FAILS : Nat := 0x00603c
abbrev Reg.SEC_BUNDLE_DIGEST (i : Nat) : Nat := 0x006040 + 0x4 * i
abbrev Reg.SEC_MSG_BUF (i : Nat) : Nat := 0x006400 + 0x4 * i

/-! Addresses of CVN (R299). -/
abbrev Reg.CVN_CFG : Nat := 0x008000
abbrev Reg.CVN_STATUS : Nat := 0x008004
abbrev Reg.CVN_FLAGS : Nat := 0x008008
abbrev Reg.CVN_HEALTH : Nat := 0x00800c
abbrev Reg.CVN_HEALTH_W : Nat := 0x008010
abbrev Reg.CVN_HEALTH_E : Nat := 0x008014
abbrev Reg.CVN_DRIVE : Nat := 0x008018
abbrev Reg.CVN_MIRAGES : Nat := 0x00801c
abbrev Reg.CVN_MIRAGE_AGE : Nat := 0x008020
abbrev Reg.CVN_XFER : Nat := 0x008024
abbrev Reg.CVN_SURRENDER : Nat := 0x008028
abbrev Reg.CVN_SURR_CAUSE : Nat := 0x00802c
abbrev Reg.CVN_LINK : Nat := 0x008030
abbrev Reg.CVN_CRC_ERR_A : Nat := 0x008034
abbrev Reg.CVN_CRC_ERR_B : Nat := 0x008038
abbrev Reg.CVN_TAKEOVERS : Nat := 0x00803c
abbrev Reg.CVN_LEASE_EPOCH (i : Nat) : Nat := 0x008100 + 0x8 * i
abbrev Reg.CVN_LEASE_STATE (i : Nat) : Nat := 0x008104 + 0x8 * i

/-! Addresses of PRTn (R39, R61, R190, R209, R427). -/
abbrev Reg.PRT_STATE (n : Nat) : Nat := 0x010000 + 0x1000 * n
abbrev Reg.PRT_CMD (n : Nat) : Nat := 0x010004 + 0x1000 * n
abbrev Reg.PRT_CMD_STATUS (n : Nat) : Nat := 0x010008 + 0x1000 * n
abbrev Reg.PRT_CYCLES (n : Nat) : Nat := 0x01000c + 0x1000 * n
abbrev Reg.PRT_CFG (n : Nat) : Nat := 0x010010 + 0x1000 * n
abbrev Reg.PRT_AXIS_MAP (n : Nat) : Nat := 0x010014 + 0x1000 * n
abbrev Reg.PRT_INPUT_MAP (n i : Nat) : Nat := 0x010018 + 0x1000 * n + 0x4 * i
abbrev Reg.PRT_EDGE_MAP (n : Nat) : Nat := 0x010024 + 0x1000 * n
abbrev Reg.PRT_OUTPUT_MAP (n : Nat) : Nat := 0x010028 + 0x1000 * n
abbrev Reg.PRT_TIME_A (n : Nat) : Nat := 0x01002c + 0x1000 * n
abbrev Reg.PRT_TIME_B (n : Nat) : Nat := 0x010030 + 0x1000 * n
abbrev Reg.PRT_TIME_C (n : Nat) : Nat := 0x010034 + 0x1000 * n
abbrev Reg.PRT_HEAT_CFG (n : Nat) : Nat := 0x010038 + 0x1000 * n
abbrev Reg.PRT_HEAT_STATUS (n : Nat) : Nat := 0x01003c + 0x1000 * n
abbrev Reg.PRT_CYCLE_ACC (n i : Nat) : Nat := 0x010040 + 0x1000 * n + 0x4 * i
abbrev Reg.PRT_OBS_CFG (n : Nat) : Nat := 0x010100 + 0x1000 * n
abbrev Reg.PRT_OBS_ZONE_K0 (n : Nat) : Nat := 0x010104 + 0x1000 * n
abbrev Reg.PRT_OBS_ZONE_K1 (n : Nat) : Nat := 0x010108 + 0x1000 * n
abbrev Reg.PRT_OBS_GEOM (n : Nat) : Nat := 0x01010c + 0x1000 * n
abbrev Reg.PRT_OBS_SEAL (n : Nat) : Nat := 0x010110 + 0x1000 * n
abbrev Reg.PRT_OBS_REACT (n : Nat) : Nat := 0x010114 + 0x1000 * n
abbrev Reg.PRT_OBS_DRIFT_CFG (n : Nat) : Nat := 0x010118 + 0x1000 * n
abbrev Reg.PRT_OBS_CTRL (n : Nat) : Nat := 0x01011c + 0x1000 * n
abbrev Reg.PRT_OBS_STATUS (n : Nat) : Nat := 0x010120 + 0x1000 * n
abbrev Reg.PRT_OBS_RES (n : Nat) : Nat := 0x010124 + 0x1000 * n
abbrev Reg.PRT_OBS_TH (n : Nat) : Nat := 0x010128 + 0x1000 * n
abbrev Reg.PRT_OBS_RES_SWING (n : Nat) : Nat := 0x01012c + 0x1000 * n
abbrev Reg.PRT_OBS_DRIFT_O (n i : Nat) : Nat := 0x010130 + 0x1000 * n + 0x4 * i
abbrev Reg.PRT_OBS_DRIFT_C (n i : Nat) : Nat := 0x010140 + 0x1000 * n + 0x4 * i
abbrev Reg.PRT_OBS_FLAGS (n : Nat) : Nat := 0x010150 + 0x1000 * n

/-! Addresses of SAXn servo page (R168). -/
abbrev Reg.SAX_CTRL (n : Nat) : Nat := 0x020000 + 0x800 * n
abbrev Reg.SAX_STATUS (n : Nat) : Nat := 0x020004 + 0x800 * n
abbrev Reg.SAX_FLAGS (n : Nat) : Nat := 0x020008 + 0x800 * n
abbrev Reg.SAX_CFG (n : Nat) : Nat := 0x02000c + 0x800 * n
abbrev Reg.SAX_PWM_CFG (n : Nat) : Nat := 0x020010 + 0x800 * n
abbrev Reg.SAX_DSM_CFG (n : Nat) : Nat := 0x020014 + 0x800 * n
abbrev Reg.SAX_DSMCLK (n : Nat) : Nat := 0x020018 + 0x800 * n
abbrev Reg.SAX_IFS (n : Nat) : Nat := 0x02001c + 0x800 * n
abbrev Reg.SAX_OC_LIM (n : Nat) : Nat := 0x020020 + 0x800 * n
abbrev Reg.SAX_KT (n : Nat) : Nat := 0x020024 + 0x800 * n
abbrev Reg.SAX_RATIO (n : Nat) : Nat := 0x020028 + 0x800 * n
abbrev Reg.SAX_VBUS (n : Nat) : Nat := 0x02002c + 0x800 * n
abbrev Reg.SAX_HALL_PHASE (n : Nat) : Nat := 0x020030 + 0x800 * n
abbrev Reg.SAX_ANG_OFS (n : Nat) : Nat := 0x020034 + 0x800 * n
abbrev Reg.SAX_PWM_UVW (n i : Nat) : Nat := 0x020040 + 0x800 * n + 0x4 * i
abbrev Reg.SAX_BANK_CTRL (n : Nat) : Nat := 0x020050 + 0x800 * n
abbrev Reg.SAX_BANK_CRC (n i : Nat) : Nat := 0x020054 + 0x800 * n + 0x4 * i
abbrev Reg.SAX_LAST (n i : Nat) : Nat := 0x020060 + 0x800 * n + 0x4 * i
abbrev Reg.SAX_BANK_A (n i : Nat) : Nat := 0x020200 + 0x800 * n + 0x4 * i
abbrev Reg.SAX_BANK_B (n i : Nat) : Nat := 0x020280 + 0x800 * n + 0x4 * i

/-! Addresses of STXn step page (R210). -/
abbrev Reg.STX_CTRL (n : Nat) : Nat := 0x030000 + 0x800 * n
abbrev Reg.STX_STATUS (n : Nat) : Nat := 0x030004 + 0x800 * n
abbrev Reg.STX_FLAGS (n : Nat) : Nat := 0x030008 + 0x800 * n
abbrev Reg.STX_CFG (n : Nat) : Nat := 0x03000c + 0x800 * n
abbrev Reg.STX_CHOP_CFG (n : Nat) : Nat := 0x030010 + 0x800 * n
abbrev Reg.STX_CUR_CFG (n : Nat) : Nat := 0x030014 + 0x800 * n
abbrev Reg.STX_I_RUN (n : Nat) : Nat := 0x030018 + 0x800 * n
abbrev Reg.STX_DSM_CFG (n : Nat) : Nat := 0x03001c + 0x800 * n
abbrev Reg.STX_IFS (n : Nat) : Nat := 0x030020 + 0x800 * n
abbrev Reg.STX_VBUS (n : Nat) : Nat := 0x030024 + 0x800 * n
abbrev Reg.STX_COIL_R (n : Nat) : Nat := 0x030028 + 0x800 * n
abbrev Reg.STX_COIL_L (n : Nat) : Nat := 0x03002c + 0x800 * n
abbrev Reg.STX_KE (n : Nat) : Nat := 0x030030 + 0x800 * n
abbrev Reg.STX_ENC_RATIO (n : Nat) : Nat := 0x030034 + 0x800 * n
abbrev Reg.STX_STALL_CFG (n : Nat) : Nat := 0x030038 + 0x800 * n
abbrev Reg.STX_EMF_MIN_V (n : Nat) : Nat := 0x03003c + 0x800 * n
abbrev Reg.STX_DEV_WIN (n : Nat) : Nat := 0x030040 + 0x800 * n
abbrev Reg.STX_STEPS_ISSUED (n : Nat) : Nat := 0x030044 + 0x800 * n
abbrev Reg.STX_DEV (n : Nat) : Nat := 0x030048 + 0x800 * n
abbrev Reg.STX_I_AB (n i : Nat) : Nat := 0x03004c + 0x800 * n + 0x4 * i
abbrev Reg.STX_REF_AB (n i : Nat) : Nat := 0x030054 + 0x800 * n + 0x4 * i
abbrev Reg.STX_VDUTY_AB (n i : Nat) : Nat := 0x03005c + 0x800 * n + 0x4 * i
abbrev Reg.STX_EMF_AMP (n : Nat) : Nat := 0x030064 + 0x800 * n
abbrev Reg.STX_LOAD_ANGLE (n : Nat) : Nat := 0x030068 + 0x800 * n

/-! Addresses of ENCn (R138). -/
abbrev Reg.ENC_CFG (n : Nat) : Nat := 0x040000 + 0x100 * n
abbrev Reg.ENC_CTRL (n : Nat) : Nat := 0x040004 + 0x100 * n
abbrev Reg.ENC_STATUS (n : Nat) : Nat := 0x040008 + 0x100 * n
abbrev Reg.ENC_FLAGS (n : Nat) : Nat := 0x04000c + 0x100 * n
abbrev Reg.ENC_COUNT (n : Nat) : Nat := 0x040010 + 0x100 * n
abbrev Reg.ENC_ALIGN (n : Nat) : Nat := 0x040014 + 0x100 * n
abbrev Reg.ENC_SPEED (n : Nat) : Nat := 0x040018 + 0x100 * n
abbrev Reg.ENC_EDGE_TIME (n : Nat) : Nat := 0x04001c + 0x100 * n
abbrev Reg.ENC_PERIOD (n : Nat) : Nat := 0x040020 + 0x100 * n
abbrev Reg.ENC_ILL_TOTAL (n : Nat) : Nat := 0x040024 + 0x100 * n
abbrev Reg.ENC_INDEX_CFG (n : Nat) : Nat := 0x040028 + 0x100 * n
abbrev Reg.ENC_INDEX_LATCH (n : Nat) : Nat := 0x04002c + 0x100 * n
abbrev Reg.ENC_INDEX_PREV (n : Nat) : Nat := 0x040030 + 0x100 * n
abbrev Reg.ENC_DRIFT (n : Nat) : Nat := 0x040034 + 0x100 * n
abbrev Reg.ENC_DRIFT_SUM (n : Nat) : Nat := 0x040038 + 0x100 * n
abbrev Reg.ENC_INDEX_CNT (n : Nat) : Nat := 0x04003c + 0x100 * n
abbrev Reg.ENC_HALL (n : Nat) : Nat := 0x040040 + 0x100 * n
abbrev Reg.ENC_HALL_LATCH (n : Nat) : Nat := 0x040044 + 0x100 * n
abbrev Reg.ENC_XREAD_ERR (n : Nat) : Nat := 0x040048 + 0x100 * n

/-! Addresses of FIO inputs (R272). -/
abbrev Reg.FIN_IN_LVL (i : Nat) : Nat := 0x050000 + 0x4 * i
abbrev Reg.FIN_IN_QUAL (i : Nat) : Nat := 0x05000c + 0x4 * i
abbrev Reg.FIN_IN_RAW (i : Nat) : Nat := 0x050018 + 0x4 * i
abbrev Reg.FIN_IN_CHG (i : Nat) : Nat := 0x050024 + 0x4 * i
abbrev Reg.FIN_IN_EVEN (i : Nat) : Nat := 0x050030 + 0x4 * i
abbrev Reg.FIN_IN_FLAGS : Nat := 0x05003c
abbrev Reg.FIN_GRP_CFG (i : Nat) : Nat := 0x050040 + 0x4 * i
abbrev Reg.FIN_DEB (i : Nat) : Nat := 0x050100 + 0x4 * i
abbrev Reg.FIN_STAMP (i : Nat) : Nat := 0x050300 + 0x4 * i

/-! Addresses of FIO switches (R272). -/
abbrev Reg.FSW_HS_REQ (i : Nat) : Nat := 0x051000 + 0x4 * i
abbrev Reg.FSW_HS_OUT (i : Nat) : Nat := 0x051008 + 0x4 * i
abbrev Reg.FSW_HS_HREQ (i : Nat) : Nat := 0x051010 + 0x4 * i
abbrev Reg.FSW_SW_FLAGS : Nat := 0x051018
abbrev Reg.FSW_SW_STATUS : Nat := 0x05101c
abbrev Reg.FSW_HS_CFG (i : Nat) : Nat := 0x051100 + 0x10 * i
abbrev Reg.FSW_HS_STATUS (i : Nat) : Nat := 0x051104 + 0x10 * i
abbrev Reg.FSW_HS_FLAGS (i : Nat) : Nat := 0x051108 + 0x10 * i
abbrev Reg.FSW_HS_CTRL (i : Nat) : Nat := 0x05110c + 0x10 * i

/-! Addresses of FIO edges (R272). -/
abbrev Reg.FED_EDG_BAND (i : Nat) : Nat := 0x052000 + 0x4 * i
abbrev Reg.FED_EDG_R (i : Nat) : Nat := 0x052010 + 0x4 * i
abbrev Reg.FED_EDG_FLAGS : Nat := 0x052070
abbrev Reg.FED_EDG_FOREIGN : Nat := 0x052074
abbrev Reg.FED_EDG_STATUS : Nat := 0x052078

/-! Addresses of FIO sense (R272). -/
abbrev Reg.FSN_SNS_CFG : Nat := 0x053000
abbrev Reg.FSN_SCAN_MASK (i : Nat) : Nat := 0x053004 + 0x4 * i
abbrev Reg.FSN_SNS_STATUS : Nat := 0x05300c
abbrev Reg.FSN_SNS_VOLT : Nat := 0x053010
abbrev Reg.FSN_SNS_FLAGS : Nat := 0x053014
abbrev Reg.FSN_SNS_I (i : Nat) : Nat := 0x053100 + 0x4 * i

/-! Addresses of ILK (R87). -/
abbrev Reg.ILK_STATUS : Nat := 0x060000
abbrev Reg.ILK_TL_RAW : Nat := 0x060004
abbrev Reg.ILK_FLAGS : Nat := 0x060008
abbrev Reg.ILK_CFG : Nat := 0x06000c
abbrev Reg.ILK_DIN_DEB : Nat := 0x060010
abbrev Reg.ILK_LOCK_CLASS : Nat := 0x060014
abbrev Reg.ILK_MAP_ID : Nat := 0x060018
abbrev Reg.ILK_PMAP_A (i : Nat) : Nat := 0x060100 + 0x8 * i
abbrev Reg.ILK_PMAP_B (i : Nat) : Nat := 0x060104 + 0x8 * i

/-! Addresses of REC (R333). -/
abbrev Reg.REC_CTRL : Nat := 0x070000
abbrev Reg.REC_STATUS : Nat := 0x070004
abbrev Reg.REC_FLAGS : Nat := 0x070008
abbrev Reg.REC_WIN_CFG : Nat := 0x07000c
abbrev Reg.REC_CURSOR_LO : Nat := 0x070010
abbrev Reg.REC_CURSOR_HI : Nat := 0x070014
abbrev Reg.REC_WIN_STATUS : Nat := 0x070018
abbrev Reg.REC_RAW_PAGE : Nat := 0x07001c
abbrev Reg.REC_NEXT_SEQ_LO : Nat := 0x070020
abbrev Reg.REC_NEXT_SEQ_HI : Nat := 0x070024
abbrev Reg.REC_FLUSHED_SEQ_LO : Nat := 0x070028
abbrev Reg.REC_FLUSHED_SEQ_HI : Nat := 0x07002c
abbrev Reg.REC_OLDEST_SEQ_LO : Nat := 0x070030
abbrev Reg.REC_OLDEST_SEQ_HI : Nat := 0x070034
abbrev Reg.REC_BUF_STATUS : Nat := 0x070038
abbrev Reg.REC_STORE_USED : Nat := 0x07003c
abbrev Reg.REC_SAFETY_USED : Nat := 0x070040
abbrev Reg.REC_OVW (i : Nat) : Nat := 0x070044 + 0x4 * i
abbrev Reg.REC_DISCARDS : Nat := 0x070054
abbrev Reg.REC_PF_STATUS : Nat := 0x070058
abbrev Reg.REC_CYC_REFUSED : Nat := 0x07005c
abbrev Reg.REC_TALLY (i : Nat) : Nat := 0x070100 + 0x4 * i
abbrev Reg.REC_SNAP_CFG (i : Nat) : Nat := 0x070200 + 0x4 * i
abbrev Reg.REC_SNAP_ADDR (i : Nat) : Nat := 0x070400 + 0x4 * i

/-! Addresses of JNL (R333). -/
abbrev Reg.JNL_STATUS : Nat := 0x078000
abbrev Reg.JNL_FLAGS : Nat := 0x078004
abbrev Reg.JNL_JSEQ : Nat := 0x078008
abbrev Reg.JNL_SNAP_JSEQ : Nat := 0x07800c
abbrev Reg.JNL_PENDING : Nat := 0x078010
abbrev Reg.JNL_REPLAYED : Nat := 0x078014
abbrev Reg.JNL_NAND_STATUS : Nat := 0x078018
abbrev Reg.JNL_ERASE_MAX : Nat := 0x07801c

/-! Addresses of TRC (R169). -/
abbrev Reg.TRC_CTRL : Nat := 0x080000
abbrev Reg.TRC_STATUS : Nat := 0x080004
abbrev Reg.TRC_FLAGS : Nat := 0x080008
abbrev Reg.TRC_TRIG_CFG : Nat := 0x08000c
abbrev Reg.TRC_TRIG_LEVEL : Nat := 0x080010
abbrev Reg.TRC_PRE : Nat := 0x080014
abbrev Reg.TRC_TRIG_PTR : Nat := 0x080018
abbrev Reg.TRC_PORT_CFG : Nat := 0x08001c
abbrev Reg.TRC_MANUAL : Nat := 0x080020
abbrev Reg.TRC_CH_SEL (i : Nat) : Nat := 0x080040 + 0x4 * i

/-! Addresses of ENGn (R233). -/
abbrev Reg.ENG_STATUS (n : Nat) : Nat := 0x100000 + 0x10000 * n
abbrev Reg.ENG_CTRL (n : Nat) : Nat := 0x100004 + 0x10000 * n
abbrev Reg.ENG_FLAGS (n : Nat) : Nat := 0x100008 + 0x10000 * n
abbrev Reg.ENG_EXC (n : Nat) : Nat := 0x10000c + 0x10000 * n
abbrev Reg.ENG_EXC_PC (n : Nat) : Nat := 0x100010 + 0x10000 * n
abbrev Reg.ENG_IMAGE_ID (n : Nat) : Nat := 0x100014 + 0x10000 * n
abbrev Reg.ENG_DONE_LAST (n : Nat) : Nat := 0x100018 + 0x10000 * n
abbrev Reg.ENG_DONE_MAX (n : Nat) : Nat := 0x10001c + 0x10000 * n
abbrev Reg.ENG_WORDS_MAX (n : Nat) : Nat := 0x100020 + 0x10000 * n
abbrev Reg.ENG_ECC (n : Nat) : Nat := 0x100024 + 0x10000 * n
abbrev Reg.ENG_RESTARTS (n : Nat) : Nat := 0x100028 + 0x10000 * n
abbrev Reg.ENG_CERT (n i : Nat) : Nat := 0x100030 + 0x10000 * n + 0x4 * i

/-! Addresses of the motion page of axis `a`: 0 to 15 servo, 16 to 27 step (R95, R421). -/
/-- Start of the SAXn or STXn block of motion axis `a`. -/
abbrev Reg.axisBase (a : Nat) : Nat := if a < 16 then 0x020000 + 0x800 * a else 0x030000 + 0x800 * (a - 16)
abbrev Reg.MOT_MCFG (a : Nat) : Nat := Reg.axisBase a + 0x100
abbrev Reg.MOT_SCALE (a : Nat) : Nat := Reg.axisBase a + 0x104
abbrev Reg.MOT_MASS (a : Nat) : Nat := Reg.axisBase a + 0x108
abbrev Reg.MOT_KE_CAP (a : Nat) : Nat := Reg.axisBase a + 0x10c
abbrev Reg.MOT_LIM_O_V (a : Nat) : Nat := Reg.axisBase a + 0x110
abbrev Reg.MOT_LIM_O_A (a : Nat) : Nat := Reg.axisBase a + 0x114
abbrev Reg.MOT_LIM_O_J (a : Nat) : Nat := Reg.axisBase a + 0x118
abbrev Reg.MOT_LIM_C_V (a : Nat) : Nat := Reg.axisBase a + 0x120
abbrev Reg.MOT_LIM_C_A (a : Nat) : Nat := Reg.axisBase a + 0x124
abbrev Reg.MOT_LIM_C_J (a : Nat) : Nat := Reg.axisBase a + 0x128
abbrev Reg.MOT_STOP_A (a : Nat) : Nat := Reg.axisBase a + 0x130
abbrev Reg.MOT_STOP_J (a : Nat) : Nat := Reg.axisBase a + 0x134
abbrev Reg.MOT_START_V (a : Nat) : Nat := Reg.axisBase a + 0x138
abbrev Reg.MOT_MV_TGT (a : Nat) : Nat := Reg.axisBase a + 0x140
abbrev Reg.MOT_MV_ATTR (a : Nat) : Nat := Reg.axisBase a + 0x144
abbrev Reg.MOT_MV_TGT2 (a : Nat) : Nat := Reg.axisBase a + 0x148
abbrev Reg.MOT_MCMD (a : Nat) : Nat := Reg.axisBase a + 0x150
abbrev Reg.MOT_MSTAT (a : Nat) : Nat := Reg.axisBase a + 0x154
abbrev Reg.MOT_MFLAGS (a : Nat) : Nat := Reg.axisBase a + 0x158
abbrev Reg.MOT_SP_INT (a : Nat) : Nat := Reg.axisBase a + 0x160
abbrev Reg.MOT_SP_FRAC (a : Nat) : Nat := Reg.axisBase a + 0x164
abbrev Reg.MOT_SP_VEL (a : Nat) : Nat := Reg.axisBase a + 0x168
abbrev Reg.MOT_SP_ACC (a : Nat) : Nat := Reg.axisBase a + 0x16c
abbrev Reg.MOT_POS_OFFSET (a : Nat) : Nat := Reg.axisBase a + 0x170
abbrev Reg.MOT_LEDGER_CMD (a : Nat) : Nat := Reg.axisBase a + 0x174
abbrev Reg.MOT_LEDGER_EXE (a : Nat) : Nat := Reg.axisBase a + 0x178
abbrev Reg.MOT_LEDGER_RES (a : Nat) : Nat := Reg.axisBase a + 0x17c
abbrev Reg.MOT_CMP_POS (a i : Nat) : Nat := Reg.axisBase a + 0x180 + 0x4 * i
abbrev Reg.MOT_CMP_CTRL (a i : Nat) : Nat := Reg.axisBase a + 0x190 + 0x4 * i
abbrev Reg.MOT_LATCH_CFG (a : Nat) : Nat := Reg.axisBase a + 0x1a0
abbrev Reg.MOT_LATCH_POS (a : Nat) : Nat := Reg.axisBase a + 0x1a4
abbrev Reg.MOT_LATCH_TIME (a : Nat) : Nat := Reg.axisBase a + 0x1a8
abbrev Reg.MOT_LATCH_REF (a : Nat) : Nat := Reg.axisBase a + 0x1ac
abbrev Reg.MOT_HOME_SEEK_V (a : Nat) : Nat := Reg.axisBase a + 0x1b0
abbrev Reg.MOT_HOME_CREEP_V (a : Nat) : Nat := Reg.axisBase a + 0x1b4
abbrev Reg.MOT_HOME_BACKOFF (a : Nat) : Nat := Reg.axisBase a + 0x1b8
abbrev Reg.MOT_HOME_MAX (a : Nat) : Nat := Reg.axisBase a + 0x1bc
abbrev Reg.MOT_RET_DEPTH (a : Nat) : Nat := Reg.axisBase a + 0x1c0
abbrev Reg.MOT_LAST_RES (a : Nat) : Nat := Reg.axisBase a + 0x1c4

end Sys2Proof.Machine
end

