-- ==== Sys2Proof/Machine/Dev.lean ====
section
/-!
DEFINITION. The controller as one structure: its register file, its staged values and the state no
register holds. The host port stands beside it in `State`, so that what no host frame touches is
visibly left alone.
-/

namespace Sys2Proof.Machine

/-- The controller. `regs` is the register file in force and `staged` the staging of ST fields (R16),
both sparse over the reset values of the register map; `snap` is the register file as it stood at the
last strobe instant (R33, R34, R250); `setNow` holds
the W1C bits that the controller has set in the present position period (R19); `seq` counts the commands run and indexes the free values. -/
structure Dev where
  regs : Cells 32 := []
  staged : Cells 32 := []
  snap : Cells 32 := []
  setNow : Cells 32 := []
  seq : Nat := 0
  time : TimeSt := {}
  mot : Vector MotAxis 28 := Vector.replicate 28 {}
  enc : Vector EncCh 28 := Vector.replicate 28 {}
  ilk : Ilk := {}
  fio : FieldIO := {}
  portal : Vector Portal 12 := Vector.replicate 12 {}
  servo : Vector Servo 16 := Vector.replicate 16 {}
  stepd : Vector StepDrv 12 := Vector.replicate 12 {}
  eng : Vector Engine 12 := Vector.replicate 12 {}
  tmem : Cells 8 := []
  trace : TraceSt := {}
  cvn : Caravan := {}
  rcd : Recorder := {}
  jnl : Journal := {}
  sec : Security := {}
  pwr : PowerSt := {}
  boot : Boot := {}
  deriving DecidableEq, Repr

end Sys2Proof.Machine
end

