-- ==== Sys2Proof/Machine/Access.lean ====
section
/-!
DEFINITION. The named operations through which every meaning reads and writes the controller: the
register file and its fields, staging, and the array members. Bit and field numbers are those of the
register tables (R12).
-/

namespace Sys2Proof.Machine

/-- The value in force of the register at `a`. -/
def Dev.rd (d : Dev) (a : Nat) : Word := Cells.read resetOf d.regs a

/-- `d` with the register at `a` holding `v`. -/
def Dev.wr (d : Dev) (a : Nat) (v : Word) : Dev := { d with regs := Cells.write resetOf d.regs a v }

/-- Field `[hi:lo]` of the register at `a`. -/
def Dev.rdF (d : Dev) (a hi lo : Nat) : Nat := fld (d.rd a) hi lo

/-- Bit `i` of the register at `a`. -/
def Dev.rdB (d : Dev) (a i : Nat) : Bool := bit (d.rd a) i

/-- Write field `[hi:lo]` of the register at `a`. -/
def Dev.wrF (d : Dev) (a hi lo v : Nat) : Dev := d.wr a (setFld (d.rd a) hi lo v)

/-- Write bit `i` of the register at `a`. -/
def Dev.wrB (d : Dev) (a i : Nat) (b : Bool) : Dev := d.wr a (setBit (d.rd a) i b)

/-- The value in force of a snapshot register: as it stood at the last strobe instant (R33, R250). -/
def Dev.sn (d : Dev) (a : Nat) : Word := Cells.read resetOf d.snap a

/-- Registers that travel on the spine: the field I/O block and the interlock. -/
def isField (a : Nat) : Bool := decide (0x050000 ≤ a ∧ a < 0x061000)

/-- The register at `a` as the control die knows it: while bad frames stand, a field register keeps the value of the
field die's last good image (R24). -/
def Dev.rdUp (d : Dev) (a : Nat) : Word := match d.fio.image with
  | some f => if isField a then Cells.read resetOf f a else d.rd a
  | none => d.rd a

/-- The setting at `a` as the field die has it: while bad upstream frames stand, that of the last good one (R24). -/
def Dev.rdSet (d : Dev) (a : Nat) : Word := match d.fio.upImage with
  | some f => Cells.read resetOf f a
  | none => d.rd a

/-- Set a W1C bit, an occurrence of the present position period (R19). -/
def Dev.setFlag (d : Dev) (a i : Nat) : Dev :=
  let d := d.wrB a i true
  { d with setNow := Cells.write (fun _ => 0) d.setNow a (setBit (Cells.read (fun _ => 0) d.setNow a) i true) }

/-- A write of `v` to W1C bits `mask` of the register at `a`: each 1 clears its bit, unless the controller set
it in the same position period (R16, R19). -/
def Dev.w1c (d : Dev) (a : Nat) (mask v : Word) : Dev :=
  d.wr a (d.rd a &&& ~~~(v &&& mask &&& ~~~(Cells.read (fun _ => 0) d.setNow a)))

/-- Add to a counter register, saturating at `m`. -/
def Dev.incSat (d : Dev) (a m : Nat) (k : Nat := 1) : Dev := d.wr a (wn (satAdd m (d.rd a).toNat k))

/-- The staged value of the register at `a`: what staging holds for its ST bits (R16). -/
def Dev.stg (d : Dev) (a : Nat) : Word := Cells.read resetOf d.staged a

/-- Stage a value. -/
def Dev.stage (d : Dev) (a : Nat) (v : Word) : Dev := { d with staged := Cells.write resetOf d.staged a v }

/-- Update one profile generator. -/
def Dev.modMot (d : Dev) (a : Axis) (f : MotAxis → MotAxis) : Dev := { d with mot := d.mot.set a (f d.mot[a]) }
/-- Update one encoder channel. -/
def Dev.modEnc (d : Dev) (c : Enc) (f : EncCh → EncCh) : Dev := { d with enc := d.enc.set c (f d.enc[c]) }
/-- Update one portal. -/
def Dev.modPrt (d : Dev) (p : Slot) (f : Portal → Portal) : Dev := { d with portal := d.portal.set p (f d.portal[p]) }
/-- Update one servo axis. -/
def Dev.modServo (d : Dev) (n : Sax) (f : Servo → Servo) : Dev := { d with servo := d.servo.set n (f d.servo[n]) }
/-- Update one step axis. -/
def Dev.modStep (d : Dev) (n : Stx) (f : StepDrv → StepDrv) : Dev := { d with stepd := d.stepd.set n (f d.stepd[n]) }
/-- Update one engine. -/
def Dev.modEng (d : Dev) (n : Slot) (f : Engine → Engine) : Dev := { d with eng := d.eng.set n (f d.eng[n]) }
/-- Update the field inputs and switches. -/
def Dev.modFio (d : Dev) (f : FieldIO → FieldIO) : Dev := { d with fio := f d.fio }
/-- Update one digital input. -/
def Dev.modDin (d : Dev) (i : Din) (f : DinCh → DinCh) : Dev :=
  { d with fio := { d.fio with dins := d.fio.dins.set i (f d.fio.dins[i]) } }
/-- Update one edge input. -/
def Dev.modEdge (d : Dev) (e : Edge) (f : EdgeCh → EdgeCh) : Dev :=
  { d with fio := { d.fio with edges := d.fio.edges.set e (f d.fio.edges[e]) } }
/-- Update one switch channel. -/
def Dev.modHs (d : Dev) (c : Ch) (f : HsCh → HsCh) : Dev :=
  { d with fio := { d.fio with hs := d.fio.hs.set c (f d.fio.hs[c]) } }
/-- Update the interlock. -/
def Dev.modIlk (d : Dev) (f : Ilk → Ilk) : Dev := { d with ilk := f d.ilk }
/-- Update the recorder. -/
def Dev.modRcd (d : Dev) (f : Recorder → Recorder) : Dev := { d with rcd := f d.rcd }
/-- Update the journal. -/
def Dev.modJnl (d : Dev) (f : Journal → Journal) : Dev := { d with jnl := f d.jnl }
/-- Update the caravan. -/
def Dev.modCvn (d : Dev) (f : Caravan → Caravan) : Dev := { d with cvn := f d.cvn }
/-- Update the mirage of a slot. -/
def Dev.modMir (d : Dev) (s : Slot) (f : Mirage → Mirage) : Dev :=
  { d with cvn := { d.cvn with mirages := d.cvn.mirages.set s (f d.cvn.mirages[s]) } }
/-- Update the lease timers of a slot. -/
def Dev.modLease (d : Dev) (s : Slot) (f : LeaseT → LeaseT) : Dev :=
  { d with cvn := { d.cvn with leases := d.cvn.leases.set s (f d.cvn.leases[s]) } }
/-- Update the security sequencer. -/
def Dev.modSec (d : Dev) (f : Security → Security) : Dev := { d with sec := f d.sec }
/-- Update the power sequencer. -/
def Dev.modPwr (d : Dev) (f : PowerSt → PowerSt) : Dev := { d with pwr := f d.pwr }
/-- Update the timebase. -/
def Dev.modTime (d : Dev) (f : TimeSt → TimeSt) : Dev := { d with time := f d.time }
/-- Update the start-up bookkeeping. -/
def Dev.modBoot (d : Dev) (f : Boot → Boot) : Dev := { d with boot := f d.boot }
/-- Update the trace unit. -/
def Dev.modTrc (d : Dev) (f : TraceSt → TraceSt) : Dev := { d with trace := f d.trace }

/-- All portal slots, servo axes, step axes, profile generators, channels and inputs, in order. -/
def slots : List Slot := List.finRange 12
def saxes : List Sax := List.finRange 16
def stxes : List Stx := List.finRange 12
def axes : List Axis := List.finRange 28
def encs : List Enc := List.finRange 28
def chans : List Ch := List.finRange 48
def dinsAll : List Din := List.finRange 96
def edgesAll : List Edge := List.finRange 24

/-- The present time, 5 ns units since VFLD. -/
def Dev.now (d : Dev) : Nat := d.time.now

/-- Microseconds and milliseconds in 5 ns units (R27). -/
def us (n : Nat) : Nat := 200 * n
def ms (n : Nat) : Nat := 200000 * n

/-- The time counter (R27): 64 bits of 5 ns units since its start; it stands while it is held. -/
def Dev.timeCounter (d : Dev) : Nat :=
  (match d.time.tc0 with
   | none => d.time.frozenTc
   | some o => d.time.now - o) % 2 ^ 64

/-- No axis can be enabled: EXTEST stands, or the reset that a Solo controller needs after it is due (R352). -/
def Dev.heldOff (d : Dev) : Bool := d.sec.extest || d.sec.needReset

/-- The identity key, which the kill fuse stops from being derived again (R336). -/
def Dev.identityKey (d : Dev) : Option Nat :=
  if d.sec.otp.killed then none else some (Config.hmacSha256 Config.seed (Config.derivation none))
/-- The storage key of the present generation (R336). -/
def Dev.storageKey (d : Dev) : Nat := Config.hmacSha256 Config.seed (Config.derivation (some d.sec.otp.sgen))
/-- A signature by the identity key; without that key, 64 free bytes (log 148). -/
def Dev.sign (d : Dev) (digest : Nat) : List Byte :=
  match d.identityKey with
  | some k => Config.ecdsaSign k digest
  | none => (List.range 64).map (fun i => BitVec.ofNat 8 (Config.freeNat d.seq (1300 + i)))

/-- The life-cycle state: the last entry of the log; an empty log reads BLANK (R348). -/
def Dev.lcState (d : Dev) : Nat := d.sec.otp.log.getLast?.getD 0

/-- The open session has right `i` of R346. -/
def Dev.hasRight (d : Dev) (i : Nat) : Bool := match d.sec.session with
  | some s => bit s.rights i
  | none => false

/-- Move the present time forward to `t`; time never runs back. -/
def Dev.upTo (d : Dev) (t : Nat) : Dev := d.modTime (fun x => { x with now := max x.now t })

/-- A free value below `n` at site `site` of the present command (log 1). -/
def Dev.free (d : Dev) (site n : Nat) : Nat := Config.freeNat d.seq site % n

/-- An integer for a rational whose rounding the spec does not state: the value itself where it is an
integer, one of the two integers beside it otherwise (log 42). -/
def Dev.near (d : Dev) (q : Rat) (site : Nat) : Int :=
  if q = (q.floor : Rat) then q.floor else q.floor + d.free site 2

/-- The PWM period P, 5 ns units (R27). -/
def Dev.pwmP (d : Dev) : Nat := d.rdF Reg.TBS_TICK_CFG 15 0
/-- A divider field of TICK_CFG (R27): 01b = 2, 10b = 4, 11b = 8; the reserved 00b counts as 2. -/
def divCode (n : Nat) : Nat := if n = 2 then 4 else if n = 3 then 8 else 2
/-- Current ticks per speed tick (R27). -/
def Dev.spdDiv (d : Dev) : Nat := divCode (d.rdF Reg.TBS_TICK_CFG 17 16)
/-- Speed ticks per position tick (R27). -/
def Dev.posDiv (d : Dev) : Nat := divCode (d.rdF Reg.TBS_TICK_CFG 19 18)
/-- The position period T, 5 ns units (R426). -/
def Dev.posT (d : Dev) : Nat := d.pwmP * d.spdDiv * d.posDiv
/-- T in seconds. -/
def Dev.posTs (d : Dev) : Rat := (d.posT : Rat) / 200000000
/-- The speed period, 5 ns units. -/
def Dev.spdT (d : Dev) : Nat := d.pwmP * d.spdDiv

/-- The operating time, ms (R303): runs while the control die is out of reset, saturating at 2⁴⁰ − 1. -/
def Dev.opTime (d : Dev) : Nat :=
  if d.boot.st = .reset then d.rcd.opBase
  else min (2 ^ 40 - 1) (d.rcd.opBase + (d.now - d.rcd.released) / 200000)

/-- The configuration (R299 CONF): 0 Solo, 1 Duo, 2 Ring. -/
def Dev.conf (d : Dev) : Nat := d.rdF Reg.CVN_CFG 1 0
def Dev.solo (d : Dev) : Bool := d.conf == 0
def Dev.duo (d : Dev) : Bool := d.conf == 1
def Dev.ring (d : Dev) : Bool := d.conf == 2

/-- STATE.OWNER of a slot (R43). -/
def Dev.owner (d : Dev) (p : Slot) : Nat := d.rdF (Reg.PRT_STATE p) 17 16
/-- This member drives the slot: OWNER 00b or 10b (R51, R121, R135, R262). -/
def Dev.drives (d : Dev) (p : Slot) : Bool := d.owner p == 0 || d.owner p == 2
/-- PRTn.CFG.TYPE: 0 SLIDE, 1 PLUG, 2 PNEU, 3 NONE (R39). -/
def Dev.ptype (d : Dev) (p : Slot) : Nat := d.rdF (Reg.PRT_CFG p) 1 0
/-- The portal is enabled: TYPE is not NONE (R39). -/
def Dev.enabled (d : Dev) (p : Slot) : Bool := d.ptype p != 3
/-- STEP_FITTED (R39). -/
def Dev.stepFitted (d : Dev) (p : Slot) : Bool := d.rdB (Reg.PRT_CFG p) 5

/-- Car-level portal number of a slot (R42): ring position of the home member and home slot in Ring. -/
def Dev.carPortal (d : Dev) (p : Slot) : Nat :=
  if d.ring then
    let n := max 1 (d.rdF Reg.CVN_CFG 11 8)
    let pos := d.cvn.role
    if p.val < 6 then 6 * pos + p.val else 6 * ((pos + n - 1) % n) + (p.val - 6)
  else p.val

/-- A servo axis number as a generator and as an encoder channel. -/
def Sax.axis (n : Sax) : Axis := ⟨n.val, by omega⟩
/-- A step axis number as a generator: 16 + n. -/
def Stx.axis (n : Stx) : Axis := ⟨16 + n.val, by omega⟩
/-- A number as a slot, axis or channel, if it is one. -/
def toFin? (n i : Nat) : Option (Fin n) := if h : i < n then some ⟨i, h⟩ else none

/-- The slide servo axis of a portal, in use for SLIDE and PLUG (R39, R40). -/
def Dev.slideAx (d : Dev) (p : Slot) : Option Sax :=
  if d.ptype p = 0 ∨ d.ptype p = 1 then toFin? 16 (d.rdF (Reg.PRT_AXIS_MAP p) 3 0) else none
/-- The swing servo axis, in use for PLUG only. -/
def Dev.swingAx (d : Dev) (p : Slot) : Option Sax :=
  if d.ptype p = 1 then toFin? 16 (d.rdF (Reg.PRT_AXIS_MAP p) 7 4) else none
/-- The step axis, in use with STEP_FITTED = 1. -/
def Dev.stepAx (d : Dev) (p : Slot) : Option Stx :=
  if d.enabled p && d.stepFitted p then toFin? 12 (d.rdF (Reg.PRT_AXIS_MAP p) 11 8) else none

/-- The servo axes a portal uses, slide first. -/
def Dev.servosOf (d : Dev) (p : Slot) : List Sax := (d.slideAx p).toList ++ (d.swingAx p).toList
/-- The generators a portal uses (R94). -/
def Dev.axesOf (d : Dev) (p : Slot) : List Axis :=
  (d.servosOf p).map Sax.axis ++ ((d.stepAx p).toList).map Stx.axis

/-- The enabled portal that uses generator `a`, if any; maps of enabled portals never share one (R40). -/
def Dev.portalOf (d : Dev) (a : Axis) : Option Slot :=
  slots.find? (fun p => d.enabled p && (d.axesOf p).contains a)

/-- This member drives the axis: its portal's OWNER is 00b or 10b; an axis no portal maps is the
member's own. -/
def Dev.drivesAx (d : Dev) (a : Axis) : Bool :=
  match d.portalOf a with
  | none => true
  | some p => d.drives p

/-- The other candidate of a slot lies on CVB: the home member of an adopted slot (R292). In Duo both ports
reach the partner. -/
def Dev.otherWest (d : Dev) (p : Slot) : Bool := d.ring && decide (6 ≤ p.val)

end Sys2Proof.Machine
end

