-- ==== Sys2Proof/Machine/Ops.lean ====
section
/-!
DEFINITION. The shared operations of the event controller and of record admission: an occurrence of an
event source (R374, R376), a record request with its routing, tallies and the haboob flag (R304, R307,
R309, R310), and the raising of a block's flag, which does all three.
-/

namespace Sys2Proof.Machine

/-! ### Event sources -/

/-- PEND and EN registers and bit of source `s` (R390). -/
def evcPend (s : Nat) : Nat := Reg.EVC_PEND (s / 32)
def evcEn (s : Nat) : Nat := Reg.EVC_EN (s / 32)

/-- EN of source `s`. -/
def Dev.srcEn (d : Dev) (s : Nat) : Bool := d.rdB (evcEn s) (s % 32)
/-- PEND of source `s`. -/
def Dev.srcPend (d : Dev) (s : Nat) : Bool := d.rdB (evcPend s) (s % 32)
/-- PRIO of source `s` (R390). -/
def Dev.srcPrio (d : Dev) (s : Nat) : Nat := d.rdF (Reg.EVC_PRIO0 + 4 * (s / 16)) (2 * (s % 16) + 1) (2 * (s % 16))

/-- Codes of PWR.STATUS.STATE (R390). -/
def PwrSt.code : PwrSt → Nat
  | .run => 0 | .hold => 1 | .stable => 2 | .dormant => 3

/-- A wake cause of R385 counts in state `s`, where its table row names that state. -/
def Dev.wakesIn (d : Dev) (s : PwrSt) (code : Nat) : Bool :=
  if code = 1 ∨ code = 8 ∨ code = 9 then decide (s = .stable ∨ s = .dormant)
  else if code = 2 ∨ code = 0x0B then decide (s = .hold)
  else if code = 4 then decide (s ≠ .run) && d.duo
  else decide (s ≠ .run)
/-- A wake cause ends the state in force. -/
def Dev.wakes (d : Dev) (code : Nat) : Bool := d.wakesIn d.pwr.st code

/-- Latency of an exit from `s` in 5 ns units (R387); the PWR.EXIT registers hold it in µs. -/
def Dev.exitTime (d : Dev) (s : PwrSt) : Nat :=
  match s with
  | .run => 0
  | .hold => us (d.rdF Reg.PWR_EXIT_HOLD 31 0)
  | .stable => us (d.rdF Reg.PWR_EXIT_STABLE 31 0)
  | .dormant => us (d.rdF Reg.PWR_EXIT_DORMANT 31 0)

/-- A wake cause (R385): the exit to RUN starts, PWR.CAUSE reports it, FLAGS.WAKE is set with an occurrence of
source 35, and SYNC_OUT carries the wake pulse. During an exit a cause has no further effect (R389). -/
def Dev.wakeOn (d : Dev) (code : Nat) : Dev :=
  let d := d.modPwr (fun p => { p with causeAt := some (d.now, code) })
  if d.wakes code && !d.pwr.exiting then
    let d := d.wr Reg.PWR_CAUSE (wn (d.pwr.st.code * 256 + code))
    let d := (d.modPwr (fun p => { p with
      exiting := true, wakePulse := !d.solo, exitAt := d.now + d.exitTime p.st })).setFlag Reg.PWR_FLAGS 8
    if d.srcEn 35 then d.setFlag (evcPend 35) 3 else d
  else d

/-- An occurrence of source `s`: PEND is set while EN is set, and otherwise left unchanged (R376). A source
that becomes pending at or above WAKE_PRIO is a wake cause (R385 code 09h). -/
def Dev.occur (d : Dev) (s : Nat) : Dev :=
  if d.srcEn s then
    let fresh := !d.srcPend s && decide (d.rdF Reg.PWR_CFG 1 0 ≤ d.srcPrio s)
    let d := d.setFlag (evcPend s) (s % 32)
    if fresh then d.wakeOn 9 else d
  else d

/-- The pending and enabled source with the highest priority, the lowest number first (R377). -/
def Dev.topSrc (d : Dev) : Option Nat :=
  (List.range 64).foldl (fun best s =>
    if d.srcPend s && d.srcEn s then
      match best with
      | none => some s
      | some b => if d.srcPrio b < d.srcPrio s then some s else some b
    else best) none

/-- EVC.TOP (R390). -/
def Dev.topWord (d : Dev) : Word :=
  match d.topSrc with
  | none => 0
  | some s => wn (2 ^ 31 + d.srcPrio s * 256 + s)

/-! ### Tallies -/

def TallyReason.code : TallyReason → Nat
  | .intakeFull => 1 | .priorityFull => 2 | .safetySaturated => 3
  | .recorderOffline => 4 | .storeFull => 5 | .mbxExcess => 6

/-- Count one request of severity `sev` into the pending tally of (source, reason) (R306, R310). -/
def tallyAdd (ts : List Tally) (src : Nat) (reason : TallyReason) (sev op : Nat) (n : Nat := 1) : List Tally :=
  match ts with
  | [] => [⟨src, reason, 2 ^ sev, sev, n, op, op⟩]
  | t :: rest =>
    if t.src = src ∧ t.reason = reason then
      { t with sevMask := t.sevMask ||| 2 ^ sev, sevMax := max t.sevMax sev, count := t.count + n, last := op } :: rest
    else t :: tallyAdd rest src reason sev op n

/-- Put a whole pending count with the counts of its source and reason. -/
def tallyMerge (ts : List Tally) (x : Tally) : List Tally :=
  match ts with
  | [] => [x]
  | t :: rest =>
    if t.src = x.src ∧ t.reason = x.reason then
      { t with sevMask := t.sevMask ||| x.sevMask, sevMax := max t.sevMax x.sevMax, count := t.count + x.count
               first := min t.first x.first, last := max t.last x.last } :: rest
    else t :: tallyMerge rest x

/-- A count of (source, reason) is pending. -/
def Dev.tallied (d : Dev) (src : Nat) (reason : TallyReason) : Bool :=
  d.rcd.tallies.any (fun t => t.src == src && decide (t.reason = reason))

/-- Any PRIORITY_FULL count is pending: what REC.STATUS.HABOOB reads (R310). -/
def Dev.haboobNow (d : Dev) : Bool := d.rcd.tallies.any (fun t => decide (t.reason = .priorityFull))

/-- Count a request; REC.FLAGS.TALLIED is set at the instant a count becomes pending (R310, R334: source
26, no record). -/
def Dev.tally (d : Dev) (src : Nat) (reason : TallyReason) (sev : Nat) : Dev :=
  let fresh := !d.tallied src reason
  let d := d.modRcd (fun r => { r with tallies := tallyAdd r.tallies src reason sev d.opTime })
  if fresh then (d.setFlag Reg.REC_FLAGS 0).occur 26 else d

/-! ### Requests -/

/-- Fill in the header fields of a request (R303). -/
def Dev.stamp (d : Dev) (q : Req) : Req :=
  { q with pwr := d.rcd.pwrCycles, opTime := d.opTime, tick := (d.rd Reg.TBS_SAMPLE_TICK).toNat, order := d.seq }

/-- The body of an event record (R304): FLAG, INST, DLEN, a reserved byte, DATA in 4-byte items, padded so
that the record is a multiple of 8 bytes. -/
def eventBody (flag inst : Nat) (data : List Word) : List Byte :=
  let bytes := data.flatMap (fun w => leBytes 4 w.toNat)
  let n := bytes.length
  let pad := (8 - (28 + n) % 8) % 8
  [BitVec.ofNat 8 flag, BitVec.ofNat 8 inst, BitVec.ofNat 8 n, 0] ++ bytes ++ List.replicate pad 0

/-- An event record request (R304). -/
def eventReq (src sev flag : Nat) (inst : Nat) (data : List Word) : Req :=
  { kind := .event, sev := sev, src := src, body := eventBody flag inst data }

/-- Admission of a request that is no cycle record (R310): the priority FIFO of 32 for severity 3 and 4,
the intake FIFO of 128 otherwise, a tally where it is full. -/
def Dev.admitFifo (d : Dev) (q : Req) : Dev :=
  if 3 ≤ q.sev then
    if d.rcd.prio.length < 32 then d.modRcd (fun r => { r with prio := r.prio ++ [q] })
    else d.tally q.src .priorityFull q.sev
  else if d.rcd.intake.length < 128 then d.modRcd (fun r => { r with intake := r.intake ++ [q] })
  else d.tally q.src .intakeFull q.sev

/-- REC.FLAGS.HABOOB is set once, at the instant STATUS.HABOOB rises; its Fault record is then requested
like any other (R310, R334: source 27). -/
def Dev.haboobRise (d : Dev) (was : Bool) : Dev :=
  if !was && d.haboobNow then
    let d := (d.wrB Reg.REC_STATUS 5 true).setFlag Reg.REC_FLAGS 1
    let d := d.occur 27
    d.admitFifo (d.stamp (eventReq 27 3 1 0xFF []))
  else d

/-- A cycle record takes one of the two slots of its portal; with both full it is refused and counted
(R307, R308). The request's `src` is the portal slot. -/
def Dev.admitCycle (d : Dev) (q : Req) : Dev :=
  let held := d.rcd.cyc.getD q.src []
  if held.length < 2 then d.modRcd (fun r => { r with cyc := r.cyc.set q.src (held ++ [q]) })
  else d.incSat Reg.REC_CYC_REFUSED 0xFFFFFFFF

/-- PRTn.CYCLES of the portal that a cycle request names is saturated. -/
def Dev.cyclesFull (d : Dev) (q : Req) : Bool := match toFin? 12 q.src with
  | some p => decide (d.rd (Reg.PRT_CYCLES p) = 0xFFFFFFFF#32)
  | none => false

/-- A cycle request is a duplicate: its CYCLE_NO does not exceed the last seen at its car-level portal;
the check is off while PRTn.CYCLES is saturated (R309). -/
def Dev.duplicate (d : Dev) (q : Req) : Bool :=
  decide (q.kind = .cycle) && !d.cyclesFull q
    && decide (q.cycleNo ≤ d.rcd.lastCyc.getD q.portal 0)

/-- The recorder takes requests while the control die is out of reset (R88, R303). -/
def Dev.canRecord (d : Dev) : Bool := !decide (d.boot.st = .reset)

/-- A request of a portal's program on a member whose OWNER for the portal is 01b: only the driver records (R67, R309). -/
def Dev.shadowReq (d : Dev) (q : Req) : Bool :=
  match toFin? 12 q.src with
  | some p => d.owner p == 1
  | none => false

/-- A record request (R303, R307, R309, R310). -/
def Dev.request (d : Dev) (q0 : Req) : Dev :=
  if !d.canRecord then d
  else if d.shadowReq q0 then d.wrF Reg.REC_DISCARDS 15 0 (satAdd 0xFFFF (d.rdF Reg.REC_DISCARDS 15 0) 1)
  else
    let q := d.stamp q0
    if q.kind = .cycle then
      if d.duplicate q then
        let d := d.wr Reg.REC_DISCARDS
          (setFld (d.rd Reg.REC_DISCARDS) 31 16 (satAdd 0xFFFF (d.rdF Reg.REC_DISCARDS 31 16) 1))
        (d.setFlag Reg.REC_FLAGS 13).occur 26
      else
        let d := d.modRcd (fun r => { r with lastCyc := r.lastCyc.set q.portal q.cycleNo })
        d.admitCycle q
    else
      let was := d.haboobNow
      (d.admitFifo q).haboobRise was

/-- Raise flag bit `b` of the flag register at `reg`: the bit is set, source `src` has an occurrence, and
an event record of severity `sev` is requested where the chapter's table gives one (R374, R304). -/
def Dev.raise (d : Dev) (reg b src : Nat) (sev : Option Nat) (inst : Nat := 0xFF) (data : List Word := []) : Dev :=
  let d := (d.setFlag reg b).occur src
  match sev with
  | none => d
  | some s => d.request (eventReq src s b inst data)

/-- `raise` where `c` holds. -/
def Dev.raiseIf (d : Dev) (c : Bool) (reg b src : Nat) (sev : Option Nat) (inst : Nat := 0xFF) (data : List Word := []) : Dev :=
  if c then d.raise reg b src sev inst data else d

/-! ### Record bytes (R302, R303) -/

def RecKind.code : RecKind → Nat
  | .cycle => 1 | .event => 2 | .snapshot => 3 | .tally => 4 | .seal => 5

/-- LENGTH of a record. -/
def Rec.len (r : Rec) : Nat := 24 + r.req.body.length

/-! ### Caravan frames (R279, R280) -/

/-- A record's bytes: common header and body (R302, R303). -/
def Rec.bytes (r : Rec) : List Byte :=
  let q := r.req
  leBytes 1 q.kind.code ++ leBytes 1 q.sev ++ leBytes 2 r.len ++ leBytes 6 r.seq ++ leBytes 3 q.pwr ++ leBytes 1 q.src
    ++ leBytes 5 q.opTime ++ leBytes 1 0 ++ leBytes 4 q.tick ++ q.body

/-- The payload's bytes (R280), each field least significant byte first (R13). An XFER's duties follow its LEASE
fields, four bytes each (log 126). -/
def CvPayload.bytes : CvPayload → List Byte
  | .state b => Config.blockBytes b
  | .health h => leBytes 4 h.word.toNat ++ leBytes 2 h.drive.toNat ++ leBytes 2 h.mirages.toNat ++ leBytes 4 h.mapId.toNat
      ++ leBytes 4 h.tag.toNat ++ h.dins.flatMap (fun w => leBytes 4 w.toNat) ++ leBytes 2 h.tlRaw.toNat ++ leBytes 4 h.summary.toNat
  | .lease op ofs e ds => leBytes 1 op ++ leBytes 1 0 ++ leBytes 2 ofs ++ leBytes 4 e.toNat ++ ds.flatten.flatMap (leBytes 4)
  | .mirror ofs r => leBytes 4 ofs ++ (match r with | some r => r.bytes | none => [])
  | .sync cfg idx pseq joint => leBytes 4 cfg.toNat ++ leBytes 1 idx.toNat ++ leBytes 2 pseq.toNat ++ leBytes 1 joint.toNat
  | .fwd a c pseq => leBytes 1 a ++ leBytes 1 c.code ++ leBytes 2 pseq ++ leBytes 4 (wi c.tgt).toNat ++ leBytes 4 c.attr.toNat
      ++ leBytes 4 (wi c.tgt2).toNat

/-- A frame on a lane (R279): header, payload, and the CRC-32C of both. -/
def CvFrame.bytes (f : CvFrame) : List Byte :=
  let pl := f.payload.bytes
  let body := leBytes 1 f.kind ++ leBytes 1 f.sub ++ leBytes 2 f.pseq ++ leBytes 1 f.src ++ leBytes 1 f.slot
    ++ leBytes 2 pl.length ++ pl
  body ++ leBytes 4 (crc32c body).toNat

/-- The lanes of this member's ports on which a frame goes out, each a port and a lane: both lanes of every port that
reaches the recipient (R279). -/
def CvFrame.copies (f : CvFrame) : List (Bool × Fin 2) := f.ports.flatMap (fun w => [(w, 0), (w, 1)])

/-- Priority 1: LEASE, RECMIRROR and FWD (R280). -/
def CvFrame.urgent (f : CvFrame) : Bool := f.kind == 3 || f.kind == 4 || f.kind == 6

/-- A frame joins those that wait: priority 1 ahead of every queued frame of priority 2, else last (R280). -/
def enqueue (q : List CvFrame) (f : CvFrame) : List CvFrame :=
  if f.urgent then q.filter CvFrame.urgent ++ f :: q.filter (fun g => !g.urgent) else q ++ [f]

/-- A caravan frame is sent (R279, R280): KIND, SUB, SLOT (the car-level portal, FFh for none) and payload, to the member
on one port in Ring (`some`, true for CVB) or to all. In STABLE and DORMANT the lanes are off (R380). -/
def Dev.send (d : Dev) (kind sub slot : Nat) (pl : CvPayload) (dst : Option Bool := none) : Dev :=
  if d.solo || decide (d.pwr.st = .stable ∨ d.pwr.st = .dormant) then d
  else
    let ports := match dst with
      | some w => if d.duo then [true, false] else [w]
      | none => [true, false]
    d.modCvn (fun c => { c with outbox := enqueue c.outbox ⟨kind, sub, d.time.posTicks % 65536, c.role, slot, pl, ports⟩ })

/-- A LEASE frame for slot `p` (R280): the operation, the valley it names, the epoch, and for XFER the duties. -/
def Dev.sendLease (d : Dev) (op : Nat) (p : Slot) (ofs : Nat := 0) (duties : List (List Nat) := []) : Dev :=
  d.send 3 op (d.carPortal p) (.lease op ofs (d.rd (Reg.CVN_LEASE_EPOCH p)) duties) (some (d.otherWest p))

/-- A frame of this KIND and SUB for slot `p` was sent in the last step. -/
def Dev.sent (d : Dev) (kind sub : Nat) (p : Slot) : Bool :=
  d.cvn.outbox.any (fun f => f.kind == kind && f.sub == sub && f.slot == d.carPortal p)

end Sys2Proof.Machine
end

