-- ==== Sys2Proof/Machine/Flags.lean ====
section
/-!
DEFINITION. Every flag register of the controller with the event source it raises and the severity of
the record it requests: one raising operation per block, from the tables of R88, R96, R138, R165, R168,
R190, R208, R210, R233, R234, R271, R300, R334, R353, R373 and R375.
-/

namespace Sys2Proof.Machine

/-- Source and severity of an ILK flag (R88, R81). -/
def ilkSrc (b : Nat) : Nat := if b ≤ 1 then 12 else if b = 2 ∨ b = 3 ∨ b = 11 then 13 else if b ≤ 6 then 14 else 15
def Dev.ilkSev (d : Dev) (b : Nat) : Nat := match b with
  | 0 => 0 | 1 => 3 | 2 => 0 | 3 => 2 | 11 => 2
  | 4 => if d.ring then 1 else 4
  | 5 => 0 | 6 => 4 | 7 => 4 | 8 => 0 | _ => 3

/-- ILK.FLAGS (R88). The field die counts each flag's occurrences through a control-die reset; while the
control die cannot record, only the flag and the count advance, and `told` counts those of which a record was
requested. KILL_SET takes severity 4 in Solo and Duo and 1 in Ring (R81). The configuration is that of CVN.CFG, so before the
CONFIG step of a start-up an operation takes severity 4 on every member; the spec does not say (log 138). -/
def Dev.raiseIlk (d : Dev) (b : Nat) (inst : Nat := 0xFF) (data : List Word := []) : Dev :=
  let src := ilkSrc b
  let sev := d.ilkSev b
  let d := d.modIlk (fun i => { i with counts := i.counts.set b (satAdd 65535 (i.counts.getD b 0) 1) })
  let d := if b ≤ 2 then d.wakeOn 5 else d
  if d.canRecord then
    let d := d.modIlk (fun i => { i with told := i.told.set b (min (i.counts.getD b 0) (i.told.getD b 0 + 1)) })
    d.raise Reg.ILK_FLAGS b src (some sev) inst data
  else d.setFlag Reg.ILK_FLAGS b

/-- MFLAGS of generator `a` raise the summary source of the portal whose axis map names it; flags of an
axis that no portal maps raise no event. No records (R96). -/
def Dev.raiseMot (d : Dev) (a : Axis) (b : Nat) : Dev :=
  let d := d.setFlag (Reg.MOT_MFLAGS a) b
  match d.portalOf a with
  | none => d
  | some p => d.occur p

/-- ENCn.FLAGS (R138): source 52 + n ÷ 4 for servo channels, 56 and 57 for step channels. No records. -/
def encSrc (c : Enc) : Nat := if c.val < 16 then 52 + c.val / 4 else if c.val < 22 then 56 else 57
def Dev.raiseEnc (d : Dev) (c : Enc) (b : Nat) : Dev := d.raise (Reg.ENC_FLAGS c) b (encSrc c) none

/-- SAXn.FLAGS (R168): source 52 + n ÷ 4. No records. -/
def Dev.raiseSax (d : Dev) (n : Sax) (b : Nat) : Dev := d.raise (Reg.SAX_FLAGS n) b (52 + n.val / 4) none

/-- STXn.FLAGS (R210): source 56 for axes 0 to 5, 57 for 6 to 11. No records. -/
def Dev.raiseStx (d : Dev) (n : Stx) (b : Nat) : Dev :=
  d.raise (Reg.STX_FLAGS n) b (if n.val < 6 then 56 else 57) none

/-- PRTn.OBS_FLAGS raise source n (R189); the record severities are those of R187 (DRIFT, 2) and R189
(BYPASS_CHG, 4); an obstacle's own record is requested where it is declared. -/
def Dev.raiseObs (d : Dev) (p : Slot) (b : Nat) (inst : Nat := 0xFF) (data : List Word := []) : Dev :=
  let sev := if b = 5 then some 2 else if b = 6 then some 4 else none
  d.raise (Reg.PRT_OBS_FLAGS p) b p sev inst data

/-- CVN.FLAGS (R300). -/
def Dev.raiseCvn (d : Dev) (b : Nat) (inst : Nat := 0xFF) (data : List Word := []) : Dev :=
  let (src, sev) : Nat × Option Nat := match b with
    | 0 => (16, some 0) | 1 => (16, some 2) | 2 => (17, some 2) | 14 => (17, some 1)
    | 3 => (18, some 3) | 4 => (18, some 3)
    | 5 => (19, some 3) | 6 => (19, some 2) | 7 => (19, some 1) | 8 => (19, some 1)
    | 9 => (20, some 1) | 10 => (20, some 3) | 11 => (20, some 4)
    | 12 => (21, some 2) | _ => (21, none)
  d.raise Reg.CVN_FLAGS b src sev inst data

/-- SEC.FLAGS (R353). -/
def Dev.raiseSec (d : Dev) (b : Nat) (inst : Nat := 0xFF) (data : List Word := []) : Dev :=
  let (src, sev) : Nat × Nat := match b with
    | 0 => (22, 0) | 1 => (22, 1) | 2 => (23, 1) | 3 => (23, 0) | 4 => (23, 2) | 5 => (23, 2)
    | 6 => (24, 4) | 7 => (24, 2) | 8 => (24, 4) | 9 => (25, 4) | 10 => (25, 1) | _ => (25, 3)
  d.raise Reg.SEC_FLAGS b src (some sev) inst data

/-- LOAD_FAIL has no flag bit: it is raised through LOAD_RESULT (R353, R354). -/
def Dev.raiseLoadFail (d : Dev) (code : Nat) : Dev :=
  (d.occur 22).request (eventReq 22 2 0xFF 0xFF [wn code])

/-- REC.FLAGS (R334). -/
def Dev.raiseRec (d : Dev) (b : Nat) (inst : Nat := 0xFF) (data : List Word := []) : Dev :=
  let (src, sev) : Nat × Option Nat := match b with
    | 0 => (26, none) | 10 => (26, some 2) | 13 => (26, none) | 1 => (27, some 3)
    | 2 => (28, some 3) | 3 => (28, some 1) | 4 => (29, some 2) | 5 => (29, some 3) | 6 => (29, some 3)
    | 7 => (31, some 0) | 8 => (31, some 2) | 9 => (31, some 1) | 11 => (31, some 2) | _ => (31, some 0)
  d.raise Reg.REC_FLAGS b src sev inst data

/-- JNL.FLAGS (R334). -/
def Dev.raiseJnl (d : Dev) (b : Nat) : Dev :=
  let sev := match b with | 0 => 0 | 1 => 2 | _ => 3
  d.raise Reg.JNL_FLAGS b 30 (some sev)

/-- PWR.FLAGS (R374, R375). The supply flags (bits 0 to 3) are counted by the supervisor and held through
a control-die reset in the same way as R88. -/
def Dev.raisePwr (d : Dev) (b : Nat) (data : List Word := []) : Dev :=
  let (src, sev) : Nat × Option Nat := match b with
    | 0 => (32, some 3) | 1 => (32, some 3) | 2 => (32, some 3) | 3 => (32, some 3)
    | 4 => (33, some 2) | 5 => (33, some 0) | 6 => (34, some 0) | 7 => (34, some 0)
    | 8 => (35, none) | 9 => (35, none) | 10 => (58, some 2) | 11 => (58, some 0) | _ => (59, some 3)
  let d := if b < 4 ∨ 10 ≤ b then d.wakeOn 0x0A else d
  let d := if b < 4 then
      d.modPwr (fun p => { p with counts := p.counts.set b (satAdd 65535 (p.counts.getD b 0) 1) }) else d
  if d.canRecord then
    let d := if b < 4 then d.modPwr (fun p => { p with told := p.told.set b (min (p.counts.getD b 0) (p.told.getD b 0 + 1)) }) else d
    d.raise Reg.PWR_FLAGS b src sev 0xFF data
  else d.setFlag Reg.PWR_FLAGS b

/-- TBS.FLAGS (R374, R375): PLL_SLIP, XTAL_LOST, TICK_APPLIED, TICK_WRAP. -/
def Dev.raiseTbs (d : Dev) (b : Nat) : Dev :=
  let (src, sev) : Nat × Option Nat := match b with
    | 0 => (36, some 2) | 1 => (36, some 3) | 2 => (39, some 0) | _ => (39, none)
  d.raise Reg.TBS_FLAGS b src sev

/-- TBS.PACE_FLAGS (R226, R227, R234): TO_SLOW, TO_NOM, TRIP, REPLICA_ERR. -/
def Dev.raisePace (d : Dev) (b : Nat) : Dev :=
  let (src, sev) : Nat × Option Nat := match b with
    | 0 => (37, some 2) | 1 => (37, some 0) | 2 => (38, some 3) | _ => (38, none)
  d.raise Reg.TBS_PACE_FLAGS b src sev

/-- IN_FLAGS (R271): QUAL_LOST, QUAL_BACK, FOREIGN. -/
def Dev.raiseIn (d : Dev) (b : Nat) (inst : Nat := 0xFF) (data : List Word := []) : Dev :=
  let sev := match b with | 0 => 1 | 1 => 0 | _ => 2
  d.raise Reg.FIN_IN_FLAGS b 43 (some sev) inst data

/-- An IN_CHG bit: it raises its source only while its IN_EVEN bit is set; no record (R271). -/
def Dev.raiseChg (d : Dev) (i : Din) : Dev :=
  let d := d.setFlag (Reg.FIN_IN_CHG (i.val / 32)) (i.val % 32)
  if d.rdB (Reg.FIN_IN_EVEN (i.val / 32)) (i.val % 32) then d.occur (40 + i.val / 32) else d

/-- EDG_FLAGS: a band change raises source 44, no record; EDG_FOREIGN: a Warning record (R258, R271). -/
def Dev.raiseEdg (d : Dev) (e : Edge) : Dev := d.raise Reg.FED_EDG_FLAGS e 44 none
def Dev.raiseEdgForeign (d : Dev) (e : Edge) : Dev := d.raise Reg.FED_EDG_FOREIGN e 44 (some 2) e

/-- HSn_FLAGS (R266, R271): channel records carry the channel, the state, DIAG and PEER; SHORT_VFLD and
BACKFEED of a lock-class channel take severity 4. UV has no severity in the table. -/
def Dev.raiseHs (d : Dev) (c : Ch) (b : Nat) : Dev :=
  let st := d.rd (Reg.FSW_HS_STATUS c)
  let lock := bit st 7
  let sev : Option Nat := match b with
    | 2 => some 3 | 6 => some (if lock then 4 else 3) | 7 => some (if lock then 4 else 3)
    | 3 => some 2 | 4 => some 1 | 5 => some 1 | _ => none
  d.raise (Reg.FSW_HS_FLAGS c) b (if c.val < 24 then 45 else 46) sev c
    [wn c, wn (fld st 2 0), wn (fld st 19 16), wn (fld st 13 8)]

/-- SW_FLAGS: SAG_ENTER, SAG_EXIT, HREQ_REJ; SNS_FLAGS.OVR (R271). -/
def Dev.raiseSw (d : Dev) (b : Nat) : Dev :=
  let sev : Option Nat := match b with | 0 => some 2 | 1 => some 0 | _ => none
  d.raise Reg.FSW_SW_FLAGS b 47 sev
def Dev.raiseSns (d : Dev) : Dev := d.raise Reg.FSN_SNS_FLAGS 0 47 (some 1)

/-- ENGn.FLAGS (R233): source 48 + n ÷ 3. The record of an exception is requested at the next
housekeeping tick (R230). -/
def Dev.raiseEng (d : Dev) (n : Slot) (b : Nat) : Dev := d.raise (Reg.ENG_FLAGS n) b (48 + n.val / 3) none

/-- HST.FLAGS (R373): a WERR record carries TAG, CODE and ADDR. -/
def Dev.raiseHst (d : Dev) (b : Nat) (data : List Word := []) : Dev :=
  let (src, sev) : Nat × Option Nat := match b with
    | 0 => (60, none) | 1 => (60, none) | 2 => (60, none) | 3 => (60, some 1) | 4 => (60, some 1)
    | 5 => (61, some 2) | 6 => (61, some 0) | _ => (61, none)
  d.raise Reg.HST_FLAGS b src sev 0xFF data

/-- TRC.FLAGS (R165): TRIGGERED and DONE raise source 62; CFG_BUSY raises none. No records. -/
def Dev.raiseTrc (d : Dev) (b : Nat) : Dev :=
  if b ≤ 1 then d.raise Reg.TRC_FLAGS b 62 none else d.setFlag Reg.TRC_FLAGS b

/-! ### The live view (R376) -/

/-- Some bit of `mask` is set in the register at `a`. -/
def Dev.anyBits (d : Dev) (a mask : Nat) : Bool := (d.rd a) &&& wn mask != 0

/-- A flag that feeds source `s` is set (R374, R376). -/
def Dev.feeding (d : Dev) (s : Nat) : Bool :=
  if h : s < 12 then
    let p : Slot := ⟨s, h⟩
    d.anyBits (Reg.PRT_OBS_FLAGS p) 0xFF || d.rdB (Reg.PRT_HEAT_STATUS p) 2
      || (d.enabled p && (d.axesOf p).any (fun a => d.anyBits (Reg.MOT_MFLAGS a) 0xFFCFF))
  else if s = 12 then d.anyBits Reg.ILK_FLAGS 0x003
  else if s = 13 then d.anyBits Reg.ILK_FLAGS 0x80C
  else if s = 14 then d.anyBits Reg.ILK_FLAGS 0x070
  else if s = 15 then d.anyBits Reg.ILK_FLAGS 0x780
  else if s = 16 then d.anyBits Reg.CVN_FLAGS 0x0003
  else if s = 17 then d.anyBits Reg.CVN_FLAGS 0x4004
  else if s = 18 then d.anyBits Reg.CVN_FLAGS 0x0018
  else if s = 19 then d.anyBits Reg.CVN_FLAGS 0x01E0
  else if s = 20 then d.anyBits Reg.CVN_FLAGS 0x0E00
  else if s = 21 then d.anyBits Reg.CVN_FLAGS 0x3000
  else if s = 22 then d.anyBits Reg.SEC_FLAGS 0x003 || d.rdB Reg.SEC_LOAD_RESULT 31
  else if s = 23 then d.anyBits Reg.SEC_FLAGS 0x03C
  else if s = 24 then d.anyBits Reg.SEC_FLAGS 0x1C0
  else if s = 25 then d.anyBits Reg.SEC_FLAGS 0xE00
  else if s = 26 then d.anyBits Reg.REC_FLAGS 0x2401
  else if s = 27 then d.anyBits Reg.REC_FLAGS 0x0002
  else if s = 28 then d.anyBits Reg.REC_FLAGS 0x000C
  else if s = 29 then d.anyBits Reg.REC_FLAGS 0x0070
  else if s = 30 then d.anyBits Reg.JNL_FLAGS 0xF
  else if s = 31 then d.anyBits Reg.REC_FLAGS 0x1B80
  else if s = 32 then d.anyBits Reg.PWR_FLAGS 0x000F
  else if s = 33 then d.anyBits Reg.PWR_FLAGS 0x0030
  else if s = 34 then d.anyBits Reg.PWR_FLAGS 0x00C0
  else if s = 35 then d.anyBits Reg.PWR_FLAGS 0x0300
  else if s = 36 then d.anyBits Reg.TBS_FLAGS 0x3
  else if s = 37 then d.anyBits Reg.TBS_PACE_FLAGS 0x3
  else if s = 38 then d.anyBits Reg.TBS_PACE_FLAGS 0xC
  else if s = 39 then d.anyBits Reg.TBS_FLAGS 0xC
  else if s < 43 then (d.rd (Reg.FIN_IN_CHG (s - 40))) &&& (d.rd (Reg.FIN_IN_EVEN (s - 40))) != 0
  else if s = 43 then d.anyBits Reg.FIN_IN_FLAGS 0x7
  else if s = 44 then d.anyBits Reg.FED_EDG_FLAGS 0xFFFFFF || d.anyBits Reg.FED_EDG_FOREIGN 0xFFFFFF
  else if s = 45 then (List.range 24).any (fun c => d.anyBits (Reg.FSW_HS_FLAGS c) 0x3FF)
  else if s = 46 then (List.range 24).any (fun c => d.anyBits (Reg.FSW_HS_FLAGS (24 + c)) 0x3FF)
  else if s = 47 then d.anyBits Reg.FSW_SW_FLAGS 0x7 || d.anyBits Reg.FSN_SNS_FLAGS 0x1
  else if s < 52 then (List.range 3).any (fun k => d.anyBits (Reg.ENG_FLAGS (3 * (s - 48) + k)) 0xF)
  else if s < 56 then
    (List.range 4).any (fun k => d.anyBits (Reg.SAX_FLAGS (4 * (s - 52) + k)) 0x3FE
      || d.anyBits (Reg.ENC_FLAGS (4 * (s - 52) + k)) 0x7FF)
  else if s < 58 then
    (List.range 6).any (fun k => d.anyBits (Reg.STX_FLAGS (6 * (s - 56) + k)) 0xFF
      || d.anyBits (Reg.ENC_FLAGS (16 + 6 * (s - 56) + k)) 0x7FF)
  else if s = 58 then d.anyBits Reg.PWR_FLAGS 0x0C00
  else if s = 59 then d.anyBits Reg.PWR_FLAGS 0x3000
  else if s = 60 then d.anyBits Reg.HST_FLAGS 0x1F
  else if s = 61 then d.anyBits Reg.HST_FLAGS 0xE0
  else if s = 62 then d.anyBits Reg.TRC_FLAGS 0x3
  else false

/-- EVC.ACTIVEk (R376, R390). -/
def Dev.activeWord (d : Dev) (k : Nat) : Word :=
  wn ((List.range 32).foldl (fun n i => if d.feeding (32 * k + i) then n + 2 ^ i else n) 0)

/-- ATTN_N is pulled low (R378): a pending, enabled source at or above ATTN_MIN, or a valid peer summary
at or above PEER_MIN with PEER_EN = 1. Released while the control die is in reset (R369). -/
def Dev.attnLow (d : Dev) : Bool :=
  d.canRecord &&
  ((List.range 64).any (fun s => d.srcPend s && d.srcEn s && decide (d.rdF Reg.EVC_CFG 1 0 ≤ d.srcPrio s))
   || (d.rdB Reg.EVC_CFG 8 && [Reg.EVC_PEER_SUM_W, Reg.EVC_PEER_SUM_E].any (fun r =>
        d.rdB r 18 && decide (d.rdF Reg.EVC_CFG 5 4 ≤ d.rdF r 17 16))))

/-- A host write to an EVC.EN register: a source going from 0 to 1 has its PEND set if a flag that feeds it
is set at that moment (R376). -/
def Dev.writeEn (d : Dev) (k : Nat) (v : Word) : Dev :=
  let old := d.rd (Reg.EVC_EN k)
  let d := d.wr (Reg.EVC_EN k) v
  (List.range 32).foldl (fun d i =>
    if bit v i && !bit old i && d.feeding (32 * k + i) then d.setFlag (Reg.EVC_PEND k) i else d) d

end Sys2Proof.Machine
end

