-- ==== Sys2Proof/Machine/Buffer.lean ====
section
/-!
DEFINITION. The record buffer and the start of a flush (spec/13 R303, R307, R310 to R312, R316, R330): the drain into the
buffer, snapshot triggers, tallies, and journal entries with their bytes and places. The store in NAND is in Recorder.
-/

namespace Sys2Proof.Machine

/-! ### Layout (R302, R303, R322) -/

/-- A 48-bit SEQ held in a pair of registers. -/
def Dev.seqAt (d : Dev) (r : Nat) : Nat := (d.rd r).toNat + 2 ^ 32 * fld (d.rd (r + 4)) 15 0
def Dev.setSeqAt (d : Dev) (r v : Nat) : Dev := (d.wr r (wn v)).wr (r + 4) (wn (v / 2 ^ 32 % 65536))
/-- The next SEQ to be assigned. -/
def Dev.nextSeq (d : Dev) : Nat := d.seqAt Reg.REC_NEXT_SEQ_LO

/-- ORIGIN of this member's pages (R322). -/
def Dev.ownOrigin (d : Dev) : Nat := if d.solo then 0xFF else d.cvn.role

/-! ### Entering the buffer (R307, R310 to R312) -/

/-- Unflushed own-area bytes. -/
def Dev.unflBytes (d : Dev) : Nat := (d.rcd.unfl.map (fun p => p.2.len)).sum

/-- NAND writes succeed: STATUS.NAND_OK (R312, R321). -/
def Dev.nandOk (d : Dev) : Bool := d.rdB Reg.REC_STATUS 2

/-- The unflushed limit (R312). -/
def Dev.unflLimit (d : Dev) : Nat := if d.nandOk then 36 * 1024 else if d.ring then 65536 else 131072

/-- Snapshot triggers that a record fires, each at most once per position period (R307). Any kind of record fires them, a
snapshot and a tally too, and a snapshot is queued by its severity whatever fired it, as R310 admits it (log 133). -/
def Dev.fireSnap (d : Dev) (q : Req) : Dev :=
  (List.range 8).foldl (fun (d : Dev) t =>
    let c := d.rd (Reg.REC_SNAP_CFG t)
    if bit c 31 && fld c 5 0 == q.src && decide (fld c 26 24 ≤ q.sev) && !d.rcd.fired.contains t then
      let ev := decide (q.kind = .event)
      d.modRcd (fun r => { r with
        fired := r.fired ++ [t]
        snapDue := r.snapDue ++ [⟨d.now, t, if ev then q.body.getD 0 0xFF else 0xFF, if ev then q.body.getD 1 0xFF else 0xFF, q.sev, q.src, none⟩] })
    else d) d

/-- The slot of a record's source portal, if it has one. -/
def Dev.recSource (q : Req) : Option Slot :=
  if q.kind = .cycle then toFin? 12 q.src
  else toFin? 12 (if 48 ≤ q.src ∧ q.src < 52 then (q.body.getD 1 0xFF).toNat else q.src)

/-- The port of a record's mirror frame in Ring (R298): to the holder of its source portal's mirage, else to the east
neighbour. -/
def Dev.recPort (d : Dev) (q : Req) : Bool := match Dev.recSource q with
  | some p => d.otherWest p
  | none => false

/-- SLOT of a record's mirror frame: the car-level portal of its source portal, FFh where it has none (R298): a cycle
record, an event of a portal or of its engine. -/
def Dev.recSlot (d : Dev) (q : Req) : Nat :=
  if q.kind = .cycle then q.portal
  else match Dev.recSource q with
    | some p => d.carPortal p
    | none => 0xFF

/-- A request takes its SEQ and is written whole into the own area, mirrored, and shown to the triggers. -/
def Dev.enterBuffer (d : Dev) (q : Req) : Dev :=
  let r : Rec := ⟨d.nextSeq, q⟩
  let ofs := d.rcd.ownOfs
  let d := d.setSeqAt Reg.REC_NEXT_SEQ_LO (d.nextSeq + 1)
  let d := d.modRcd (fun x => { x with
    unfl := x.unfl ++ [(x.ownOfs, r)], ownOfs := (x.ownOfs + r.len) % 0x20000
    severeAt := if 3 ≤ q.sev then some (x.severeAt.getD d.now) else x.severeAt })
  let d := if 3 ≤ q.sev then d.wakeOn 8 else d
  (d.send 4 0 (d.recSlot q) (.mirror ofs (some r)) (some (d.recPort q))).fireSnap q

/-- The tally record of a pending count (R306). -/
def Tally.req (t : Tally) : Req :=
  { kind := .tally, sev := t.sevMax, src := t.src
    body := leBytes 1 t.reason.code ++ leBytes 1 t.sevMask ++ leBytes 2 0 ++ leBytes 4 (min t.count 0xFFFFFFFF)
      ++ leBytes 5 t.first ++ leBytes 3 0 ++ leBytes 5 t.last ++ leBytes 3 0 }

/-- Regions by block: the safety reserve is 256 to 383, the general store 384 to 1 983. -/
def genLo : Nat := 384
def genN : Nat := 1600
def safLo : Nat := 256
def safN : Nat := 128

/-- Blocks of a region that are erased or being erased. -/
def Dev.erasedBlocks (d : Dev) (lo n : Nat) : Nat :=
  n - (d.rcd.blocks.filter (fun b => decide (lo ≤ b.1 ∧ b.1 < lo + n) && decide (b.2 = .used))).length

/-- The lowest erased block of a region. -/
def firstErased (bs : List (Nat × BlockSt)) : Nat → Nat → Option Nat
  | _, 0 => none
  | lo, n + 1 => if bs.any (fun b => b.1 == lo) then firstErased bs (lo + 1) n else some lo

/-- Set the state of a block. -/
def setBlock (bs : List (Nat × BlockSt)) (b : Nat) (s : BlockSt) : List (Nat × BlockSt) :=
  (bs.filter (fun x => x.1 != b)) ++ (match s with | .erased => [] | s => [(b, s)])

/-- Data bytes a page may hold: the last page of a block keeps room for its seal (R323). -/
def pageCap (page : Nat) : Nat := if page = 63 then 1984 - 176 else 1984

/-- The safety reserve takes no further tally record: its last page is full (R325). -/
def Dev.safFull (d : Dev) : Bool :=
  (firstErased d.rcd.blocks safLo safN).isNone && !d.rcd.blocks.any (fun b => decide (safLo ≤ b.1 ∧ b.1 < safLo + safN) && decide (b.2 = .erasing))
    && (match d.rcd.safOpen with | some (_, pg, used) => decide (63 ≤ pg) && decide (pageCap pg < used + 48) | none => true)

/-- A pending tally can be written now (R324, R325). -/
def Dev.tallyFree (d : Dev) (t : Tally) : Bool :=
  if t.sevMax = 4 then !d.safFull else !decide (t.reason = .storeFull) || !d.rdB Reg.REC_STATUS 4

/-- SEQ is assigned: from the end of the RECORDER step (R303, R399), and in Duo and Ring once SEQ_HOLD has ended (R315). -/
def Dev.numbers (d : Dev) : Bool := decide (d.boot.st ∈ [BootSt.engines, .done, .running]) && !d.rcd.seqHold

/-- Write the pending tallies that `f` selects, ahead of waiting requests (R310), where SEQ is assigned. -/
def Dev.writeTallies (d : Dev) (f : Tally → Bool) : Dev :=
  let go := fun (t : Tally) => f t && d.tallyFree t && d.numbers
  let out := d.rcd.tallies.filter go
  let d := d.modRcd (fun r => { r with tallies := r.tallies.filter (fun t => !go t) })
  let d := out.foldl (fun (d : Dev) t => d.enterBuffer (d.stamp t.req)) d
  d.wrB Reg.REC_STATUS 5 d.haboobNow

def isPrioTally (t : Tally) : Bool := decide (t.reason = .priorityFull)

/-- Portal of the oldest full cycle slot; of requests of one command, the lowest portal's. -/
def Dev.oldestCycle (d : Dev) : Option Nat :=
  (d.rcd.cyc.zipIdx.foldl (fun (best : Option (Req × Nat)) p =>
    match p.1.head?, best with
    | none, b => b
    | some q, none => some (q, p.2)
    | some q, some b => if q.order < b.1.order then some (q, p.2) else some b) none).map (·.2)

/-- All FIFOs and cycle slots are empty. -/
def Dev.queuesEmpty (d : Dev) : Bool := d.rcd.prio.isEmpty && d.rcd.intake.isEmpty && d.rcd.cyc.all (·.isEmpty)

/-- Take the request that drains next (R310). -/
def Dev.popReq (d : Dev) : Option (Req × Dev) :=
  match d.rcd.prio with
  | q :: rest => some (q, d.modRcd (fun r => { r with prio := rest }))
  | [] =>
    match d.oldestCycle with
    | some k =>
      match d.rcd.cyc.getD k [] with
      | q :: rest => some (q, d.modRcd (fun r => { r with cyc := r.cyc.set k rest }))
      | [] => none
    | none =>
      match d.rcd.intake with
      | q :: rest => some (q, d.modRcd (fun r => { r with intake := rest }))
      | [] => none

/-- RECORD_WRITE without its flush trigger: drain one request. -/
def Dev.drainOne (d : Dev) : Dev :=
  if !d.numbers || decide (d.unflLimit ≤ d.unflBytes) then d
  else
    match d.popReq with
    | none => d
    | some (q, d) =>
      let d := d.enterBuffer q
      let d := if d.rcd.prio.isEmpty then d.writeTallies isPrioTally else d
      if d.queuesEmpty then d.writeTallies (fun t => !isPrioTally t) else d

/-- Drain up to `n` requests. -/
def Dev.drainAll : Nat → Dev → Dev
  | 0, d => d
  | n + 1, d => if d.queuesEmpty then d else Dev.drainAll n d.drainOne

/-! ### Journal entries (R330) -/

/-- Merge bank data that continues the last pending entry, up to 1 024 bytes (R330). -/
def mergeBank (last : JEntry) (b : JPayload) : Option JEntry :=
  match last.body, b with
  | .bankData a k o bs, .bankData a' k' o' bs' =>
    if a = a' ∧ k = k' ∧ o + bs.length = o' ∧ bs.length + bs'.length ≤ 1024
    then some { last with body := .bankData a k o (bs ++ bs') } else none
  | _, _ => none

/-- TYPE of a journal entry (R330). -/
def JPayload.type : JPayload → Nat
  | .commit _ _ => 1 | .bankData _ _ _ _ => 2 | .bankSeal _ _ _ => 3 | .bankSwap _ _ => 4 | .pwrStart _ _ => 5
  | .tallyState _ _ => 6 | .image _ => 7 | .imageEnd => 8 | .imageConsumed => 9 | .snapBegin => 10 | .snapEnd _ => 11

/-- LEN of a journal entry (R330): the 8-byte head, the payload in whole words and the CRC (log 134). -/
def JPayload.size : JPayload → Nat
  | .commit fs _ => 12 + 8 * fs.length
  | .bankData _ _ _ bs => 16 + (bs.length + 3) / 4 * 4
  | .bankSeal _ _ _ => 20
  | .bankSwap _ _ => 16
  | .pwrStart _ _ => 20
  | .tallyState ts _ => 12 + 20 * ts.length
  | .image _ => 1036
  | .imageEnd | .imageConsumed | .snapBegin => 12
  | .snapEnd _ => 16

/-- A list in parts of at most `n`, each with whether another follows. -/
def partsOf {α : Type} (n : Nat) : Nat → List α → List (List α × Bool)
  | 0, l => [(l, false)]
  | k + 1, l => if l.length ≤ n then [(l, false)] else (l.take n, true) :: partsOf n k (l.drop n)

/-- The entries that a payload takes, none longer than 2 040 bytes (R330, log 134). -/
def JPayload.split : JPayload → List JPayload
  | .commit fs _ => (partsOf 253 fs.length fs).map (fun p => .commit p.1 p.2)
  | .tallyState ts _ => (partsOf 101 ts.length ts).map (fun p => .tallyState p.1 p.2)
  | b => [b]

/-- The bytes of an entry (R330): TYPE, FLAGS, LEN, JSEQ, payload, and the CRC-32C over them. FLAGS, the payload's layout
and the CRC of a torn entry are free (log 63). -/
def JEntry.bytes (e : JEntry) : List Byte :=
  let n := e.body.size
  let head := leBytes 1 e.body.type ++ [Config.entryByte e.body 0] ++ leBytes 2 n ++ leBytes 4 e.jseq
    ++ (List.range (n - 12)).map (fun i => Config.entryByte e.body (i + 1))
  let crc := (crc32c head).toNat
  head ++ leBytes 4 (if e.good then crc else (crc + 1 + Config.freeNat e.jseq 2 % (2 ^ 32 - 1)) % 2 ^ 32)

/-- Pending journal bytes: entries not yet in NAND (R316). -/
def Journal.pendingBytes (j : Journal) : Nat := ((j.jobs ++ j.pending).map (fun e => e.body.size)).sum

/-- One more entry, with the next JSEQ, or more data in the last one (R330). -/
def Journal.add (j : Journal) (b : JPayload) : Journal :=
  match j.pending.getLast?.bind (mergeBank · b) with
  | some e => { j with pending := j.pending.dropLast ++ [e] }
  | none => { j with pending := j.pending ++ [⟨j.next, b, true, 0, 0, 0⟩], next := j.next + 1 }

/-- A payload joins the pending entries (R330). -/
def Dev.enterJournal (d : Dev) (b : JPayload) : Dev := d.modJnl (fun j => b.split.foldl Journal.add j)

/-- The entries of the active half. -/
def Journal.active (j : Journal) : List JEntry := if j.active1 then j.half1 else j.half0

/-- Where the next append goes: behind the last entry, at a multiple of 8 bytes: page, offset, append on that page. -/
def Journal.tail (es : List JEntry) : Nat × Nat × Nat := match es.getLast? with
  | none => (0, 0, 0)
  | some e => (e.page, (e.ofs + e.body.size + 7) / 8 * 8, e.app + 1)

/-- Entries in the places that one program operation gives them: it takes `left` pages at most beside the one it is `on`,
no entry straddles a page, and a page takes 64 appends (R321, R330, log 154). The second list waits. -/
def placeEntries : Nat → Bool → Nat × Nat × Nat → List JEntry → List JEntry × List JEntry
  | _, _, _, [] => ([], [])
  | left, on, (pg, ofs, app), e :: es =>
    let n := e.body.size
    if ofs + n ≤ 2048 && decide (app < 64) && (on || decide (0 < left)) then
      let r := placeEntries (if on then left else left - 1) true (pg, ofs + n, app) es
      ({ e with page := pg, ofs := ofs, app := app } :: r.1, r.2)
    else if 0 < left then
      let r := placeEntries (left - 1) true (pg + 1, n, 0) es
      ({ e with page := pg + 1, ofs := 0, app := 0 } :: r.1, r.2)
    else ([], e :: es)

/-- The entries that the next program operation of the flush writes, and those that wait. -/
def Journal.nextOp (j : Journal) : List JEntry × List JEntry := placeEntries 2 false (Journal.tail j.active) j.jobs

/-- Entries appended to the active half. -/
def Journal.append (j : Journal) (es : List JEntry) : Journal :=
  { j with half0 := if j.active1 then j.half0 else j.half0 ++ es, half1 := if j.active1 then j.half1 ++ es else j.half1 }

/-- Entries in order from the start of an erased half. -/
def Journal.lay (es : List JEntry) : List JEntry := (placeEntries es.length false (0, 0, 0) es).1

/-! ### Flushes (R314, R316) -/

/-- Insert in SEQ order. -/
def insertSeq (r : Rec) : List Rec → List Rec
  | [] => [r]
  | x :: xs => if r.seq ≤ x.seq then r :: x :: xs else x :: insertSeq r xs

/-- A TALLY_STATE entry where counts are pending (R330). -/
def Dev.journalTallies (d : Dev) : Dev :=
  if d.rcd.tallies.isEmpty then d else d.enterJournal (.tallyState d.rcd.tallies)

/-- A flush starts: tallies are written, then every unflushed own record in SEQ order, the records adopted,
and the pending journal entries are to be programmed. In RETURNED the stores are read-only, in SCRAPPED erased
(R350). -/
def Dev.beginFlush (d : Dev) : Dev :=
  if 3 ≤ d.lcState then d else
  let d := d.writeTallies (fun _ => true)
  let d := d.journalTallies
  let mine := d.rcd.mirror.filter (fun m => d.rcd.adoptDue.contains m.origin && !m.marked)
  let d := if mine.isEmpty then d else d.raiseRec 11
  let d := d.modRcd (fun r => { r with
    job := (r.unfl.map (·.2)).foldl (fun acc x => insertSeq x acc) []
    jobAdopt := mine, adoptDue := [], lastFlush := d.now, severeAt := none, flushAgain := false
    mirror := r.mirror.map (fun m => if mine.contains m then { m with marked := true } else m) })
  let d := d.modJnl (fun j => { j with jobs := j.jobs ++ j.pending, pending := [] })
  d.wrB Reg.REC_STATUS 1 true

/-- A flush trigger: it starts a flush, or the next one when the present one completes. -/
def Dev.flushTrigger (d : Dev) : Dev :=
  if d.rdB Reg.REC_STATUS 1 then d.modRcd (fun r => { r with flushAgain := true }) else d.beginFlush

/-- Anything is unflushed or pending (R316). -/
def Dev.flushNeeded (d : Dev) : Bool :=
  !d.rcd.unfl.isEmpty || !d.jnl.pending.isEmpty || !d.rcd.tallies.isEmpty || !d.rcd.adoptDue.isEmpty

/-- The amount triggers: 24 KiB of unflushed records or 8 KiB of pending journal entries. -/
def Dev.flushByAmount (d : Dev) : Dev :=
  if !d.rdB Reg.REC_STATUS 1 && (decide (24 * 1024 ≤ d.unflBytes) || decide (8 * 1024 ≤ d.jnl.pendingBytes))
  then d.flushTrigger else d

/-- A journal entry is made (R330); 8 KiB of pending entries start a flush (R316). -/
def Dev.journal (d : Dev) (b : JPayload) : Dev := (d.enterJournal b).flushByAmount

end Sys2Proof.Machine
end

