-- ==== Sys2Proof/Machine/Switch.lean ====
section
/-!
DEFINITION. The protected switch channels (spec/11 R261 to R272): the request in force, the protection
state machine, diagnosis, and the sag state's part in them. Channel registers are formed from the channel
state in one place, `Dev.showHs`.
-/

namespace Sys2Proof.Machine

/-! ### Channel facts -/

/-- Side code of a channel in the locked map: 0 not lock-class, 1 left, 2 right (R87, ILK.LOCK_CLASS). -/
def Dev.lockSide (d : Dev) (c : Ch) : Nat :=
  if c.val < 40 then 0 else d.rdF Reg.ILK_LOCK_CLASS (2 * (c.val - 40) + 1) (2 * (c.val - 40))
/-- The channel is lock-class (R72). -/
def Dev.lockClass (d : Dev) (c : Ch) : Bool := d.lockSide c != 0
/-- PERM_L or PERM_R (R71). -/
def Dev.perm (d : Dev) (right : Bool) : Bool := d.rdB Reg.ILK_STATUS (if right then 3 else 2)
/-- The interlock map is locked (R84). -/
def Dev.mapLocked (d : Dev) : Bool := d.rdB Reg.ILK_STATUS 31

/-- The channels an enabled portal names in PRTn.OUTPUT_MAP, and in the valve fields of PRTn.AXIS_MAP,
in use for PNEU only (R40). -/
def Dev.portalChans (d : Dev) (p : Slot) : List Nat :=
  if d.enabled p then
    let o := d.rd (Reg.PRT_OUTPUT_MAP p)
    [fld o 5 0, fld o 13 8, fld o 21 16, fld o 29 24] ++
      (if d.ptype p = 2 then [d.rdF (Reg.PRT_AXIS_MAP p) 21 16, d.rdF (Reg.PRT_AXIS_MAP p) 29 24] else [])
  else []
/-- The enabled portals that map a channel. -/
def Dev.mappers (d : Dev) (c : Nat) : List Slot := slots.filter (fun p => (d.portalChans p).contains c)

/-- HSn_CFG.OL_EN, OLON_EN and SHARED. -/
def Dev.olEn (d : Dev) (c : Ch) : Bool := bit (d.rdSet (Reg.FSW_HS_CFG c)) 28
def Dev.olOnEn (d : Dev) (c : Ch) : Bool := bit (d.rdSet (Reg.FSW_HS_CFG c)) 27
def Dev.shared (d : Dev) (c : Ch) : Bool := bit (d.rdSet (Reg.FSW_HS_CFG c)) 29
/-- LIM_T, RETRY_INT in 5 ns units and RETRY_N. -/
def Dev.limT (d : Dev) (c : Ch) : Nat := fld (d.rdSet (Reg.FSW_HS_CFG c)) 7 0 * us 100
def Dev.retryInt (d : Dev) (c : Ch) : Nat := fld (d.rdSet (Reg.FSW_HS_CFG c)) 23 16 * ms 10
def Dev.retryN (d : Dev) (c : Ch) : Nat := fld (d.rdSet (Reg.FSW_HS_CFG c)) 15 12

/-- POSTURE value of a channel: off, on or hold-last; always off on a lock-class channel (R262, R394). -/
def Dev.postureReq (d : Dev) (c : Ch) : Bool :=
  let p := fld (d.rdSet (Reg.FSW_HS_CFG c)) 31 30
  !d.lockClass c && (p == 1 || (p == 2 && d.fio.hs[c].held))

/-- A portal that maps a channel lets its request bit stand: this member drives the portal and, where the channel
feeds the portal's lock, the portal is one of its lock group that requests it (R41, R262 step 2). -/
def Dev.ownsReq (d : Dev) (c : Ch) (p : Slot) : Bool :=
  d.drives p && (d.rdF (Reg.PRT_OUTPUT_MAP p) 5 0 != c.val || d.portal[p].lockReq)

/-- Steps 1 to 3 of R262: request bit, ownership, posture. -/
def Dev.reqUngated (d : Dev) (c : Ch) : Bool :=
  if d.fio.posture then d.postureReq c
  else d.fio.hs[c].req && ((d.mappers c).isEmpty || (d.mappers c).any (d.ownsReq c))

/-- The interlock allows a lock-class channel (R72); other channels are not gated. -/
def Dev.gateOpen (d : Dev) (c : Ch) : Bool :=
  !d.lockClass c || (d.perm (d.lockSide c == 2) && d.mapLocked && !d.fio.posture)

/-- The request in force, after step 4 of R262. -/
def Dev.reqInForce (d : Dev) (c : Ch) : Bool := d.reqUngated c && d.gateOpen c

def HsSt.code : HsSt → Nat
  | .off => 0 | .on => 1 | .limit => 2 | .retryWait => 3 | .latchedOff => 4 | .thermal => 5 | .sagOff => 6

/-- The output is on in ON and LIMIT (R263). -/
def HsSt.out : HsSt → Bool
  | .on => true | .limit => true | _ => false

/-- HSn_STATUS.DIAG: NOT_TESTED until a test has run, in the sag state, and while none of the tests can
run; otherwise the result reported (R265). In OFF with OL_EN = 0 an external voltage alone is reported. -/
def Dev.diagOf (d : Dev) (c : Ch) : Nat :=
  let h := d.fio.hs[c]
  if d.fio.sag then 6
  else if h.st = .off ∧ !d.olEn c ∧ h.diag < 3 then 6
  else if h.st.out && !(decide (h.st = .on) && d.olOnEn c) then 6
  else if h.diag != 0 then h.diag
  else if !h.tested then 6
  else 0

/-- HSn_STATUS.FAULT (R266). -/
def Dev.hsFault (d : Dev) (c : Ch) : Bool :=
  let h := d.fio.hs[c]
  decide (h.st = .retryWait ∨ h.st = .latchedOff ∨ h.st = .thermal ∨ h.st = .sagOff)
    || [1, 2, 3, 4].contains (d.diagOf c)

/-- Form HSn_STATUS and the channel's bits of HS_REQ, HS_OUT and ILK.STATUS.LOCK_GATED. -/
def Dev.showHs (d : Dev) (c : Ch) : Dev :=
  let h := d.fio.hs[c]
  let r := d.reqInForce c
  let gated := d.reqUngated c && !d.gateOpen c
  let w := d.rd (Reg.FSW_HS_STATUS c)
  let w := setFld w 2 0 h.st.code
  let w := setBit w 3 h.st.out
  let w := setBit w 4 r
  let w := setBit w 5 d.fio.posture
  let w := setBit w 6 gated
  let w := setBit w 7 (d.lockClass c)
  let w := setFld w 19 16 (d.diagOf c)
  let w := setFld w 13 8 (if h.diag = 4 then fld w 13 8 else 0x3F)
  let w := setFld w 23 20 h.spent
  let w := setBit w 24 (d.hsFault c)
  let d := d.wr (Reg.FSW_HS_STATUS c) w
  let d := d.wrB (Reg.FSW_HS_REQ (c.val / 32)) (c.val % 32) r
  let d := d.wrB (Reg.FSW_HS_OUT (c.val / 32)) (c.val % 32) h.st.out
  if 40 ≤ c.val then d.wrB Reg.ILK_STATUS (16 + (c.val - 40)) gated else d

/-- Put a channel into a state, keeping the timers of R263 with it. An external voltage is one of an output that is
off: what was read before an ON does not stand after it (R265). -/
def Dev.hsEnter (d : Dev) (c : Ch) (s : HsSt) : Dev :=
  let t := d.now
  (d.modHs c (fun h =>
    { h with
      st := s
      limAt := if s = .limit then some t else none
      retryAt := if s = .retryWait then some t else none
      onAt := if s = .on then (match h.onAt with | some u => some u | none => some t) else none
      turnOn := if s.out && !h.st.out then some t else h.turnOn
      ext := h.ext && !s.out
      tested := h.tested || (s.out && d.olOnEn c)
      diag := if s.out && 3 ≤ h.diag then 0 else h.diag })).showHs c

/-- ON or OFF as the request in force says (R263). -/
def Dev.hsByReq (d : Dev) (c : Ch) : Dev := d.hsEnter c (if d.reqInForce c then .on else .off)

/-- Obey the request in force: OFF to ON, ON or LIMIT to OFF; the other states are left unchanged (R263). -/
def Dev.hsSettle (d : Dev) (c : Ch) : Dev :=
  let r := d.reqInForce c
  match d.fio.hs[c].st with
  | .off => if r then d.hsEnter c .on else d.showHs c
  | .on => if r then d.showHs c else d.hsEnter c .off
  | .limit => if r then d.showHs c else d.hsEnter c .off
  | _ => d.showHs c

/-- Every channel obeys its request in force. -/
def Dev.hsSettleAll (d : Dev) : Dev := chans.foldl Dev.hsSettle d

/-- The field die takes a request bit (R262 step 1). -/
def Dev.takeReq (d : Dev) (c : Ch) (v : Bool) : Dev := (d.modHs c (fun h => { h with req := v })).hsSettle c

/-- The request bit as last sent: what waits for a good frame, else what the field die has. -/
def Dev.reqSent (d : Dev) (c : Ch) : Bool :=
  match d.fio.reqDue.find? (fun p => p.1 == c) with
  | some p => p.2
  | none => d.fio.hs[c].req

/-- Number of the upstream spine frame that carries a write made now: one every 5 µs (R24). -/
def Dev.frameNo (d : Dev) : Nat := d.now / us 5

/-- A channel's request bit after writes of one upstream spine frame, in their order. -/
def ReqAct.on (acts : List ReqAct) (v : Bool) : Bool :=
  acts.foldl (fun v a => match a with | .put w => w | .toggle => !v) v

/-- A write to a request bit (R262 step 1). Within one upstream spine frame the writes of a channel are applied in
the order host, program, compares by index, whatever their order in time (R113, R262): `rank` is 0 for the host, 1 for
a program, 2 + i for compare i. Each write changes the bit at once, to what those of the frame so far leave (log 7);
while the last upstream frame was bad, the field die keeps what it has until a good one (R24). -/
def Dev.setReq (d : Dev) (c : Ch) (a : ReqAct) (rank : Nat) : Dev :=
  let mine := d.fio.frame.filter (fun p => p.chan == c.val && p.frame == d.frameNo)
  let first := (mine.head?.map (·.first)).getD (d.reqSent c)
  let e : FrameReq := ⟨c.val, rank, d.frameNo, first, a⟩
  let acts := mine.filter (fun p => decide (p.rank ≤ rank)) ++ e :: mine.filter (fun p => decide (rank < p.rank))
  let d := d.modFio (fun f => { f with frame := f.frame.filter (fun p => p.chan != c.val) ++ acts })
  let v := ReqAct.on (acts.map (·.act)) first
  if d.fio.badUp then d.modFio (fun f => { f with reqDue := f.reqDue.filter (fun p => p.1 != c) ++ [(c, v)] })
  else d.takeReq c v

/-- A program's request for a number that may name no channel. -/
def Dev.progReq (d : Dev) (c : Nat) (v : Bool) : Dev :=
  match toFin? 48 c with
  | none => d
  | some c => d.setReq c (.put v) 1

/-- A portal's request of its lock channel; the channel is requested on while any portal of its lock group
requests it (R41). Which member drives gates the request afterwards (R262 step 2). -/
def Dev.lockRequest (d : Dev) (p : Slot) (v : Bool) : Dev :=
  let d := d.modPrt p (fun x => { x with lockReq := v })
  let c := d.rdF (Reg.PRT_OUTPUT_MAP p) 5 0
  if d.enabled p then
    d.progReq c (slots.any (fun q => d.enabled q && d.rdF (Reg.PRT_OUTPUT_MAP q) 5 0 == c && d.portal[q].lockReq))
  else d

/-! ### Rows of the switch family -/

/-- HS_HREQ (R262): the host's request bits of channels that no enabled portal names and that are not
lock-class; a 1 for any other channel is ignored and sets HREQ_REJ, and a 1 in a reserved bit is ignored (R18). -/
def Dev.hostReq (d : Dev) (k : Nat) (v : Word) : Dev :=
  let lo := 32 * k
  let inWord := chans.filter (fun c => lo ≤ c.val && c.val < lo + 32)
  let free := fun (c : Ch) => (d.mappers c).isEmpty && !d.lockClass c
  let bad := inWord.any (fun c => bit v (c.val - lo) && !free c)
  let d := inWord.foldl (fun d c =>
    if free c then
      (d.wrB (Reg.FSW_HS_HREQ k) (c.val - lo) (bit v (c.val - lo))).setReq c (.put (bit v (c.val - lo))) 0
    else d) d
  if bad then d.raiseSw 2 else d

/-- CURRENT_LIMIT (R263): ON to LIMIT. -/
def Dev.currentLimit (d : Dev) (c : Ch) : Dev :=
  if d.fio.hs[c].st = .on then
    ((d.modHs c (fun h => { h with onAt := none })).hsEnter c .limit).raiseHs c 0
  else d

/-- LIMIT_CLEAR (R263): current below the limit for 10 µs; LIMIT to ON, limit timer reset. -/
def Dev.limitClear (d : Dev) (c : Ch) : Dev :=
  if d.fio.hs[c].st = .limit then d.hsEnter c .on else d

/-- Entry into THERMAL; a retry charged at the entry into RETRY_WAIT is given back (R263, R264). -/
def Dev.hsThermal (d : Dev) (c : Ch) (refund : Bool) : Dev :=
  ((d.modHs c (fun h => { h with spent := if refund then h.spent - 1 else h.spent })).hsEnter c .thermal).raiseHs c 3

/-- LIM_T without a break in LIMIT (R263); a thermal trip at the same instant counts as the trip (R264). -/
def Dev.limExpiry (d : Dev) (c : Ch) (trip : Bool) : Dev :=
  match d.fio.hs[c].limAt with
  | none => d
  | some t0 =>
    let d := d.upTo (t0 + d.limT c)
    if trip then d.hsThermal c false
    else if d.fio.hs[c].spent < d.retryN c then
      ((d.modHs c (fun h => { h with spent := h.spent + 1 })).hsEnter c .retryWait).raiseHs c 1
    else (d.hsEnter c .latchedOff).raiseHs c 2

/-- RETRY_INT elapsed (R263, R264): `hot` while the junction has not cooled 15 K below its trip point. -/
def Dev.retryExpiry (d : Dev) (c : Ch) (hot : Bool) : Dev :=
  match d.fio.hs[c].retryAt with
  | none => d
  | some t0 =>
    let d := d.upTo (t0 + d.retryInt c)
    if hot then d.hsThermal c true else d.hsByReq c

/-- The junction reaches the trip point (R263, R264). -/
def Dev.thermalTrip (d : Dev) (c : Ch) : Dev :=
  match d.fio.hs[c].st with
  | .on => d.hsThermal c false
  | .limit => d.hsThermal c false
  | .retryWait => d.hsThermal c true
  | _ => d

/-- The junction cools 15 K below the trip point (R263); in the sag state the channel enters SAG_OFF
(R268). -/
def Dev.thermalCool (d : Dev) (c : Ch) : Dev :=
  if d.fio.hs[c].st = .thermal then
    if d.fio.sag then d.hsEnter c .sagOff else d.hsByReq c
  else d

/-- ON for 16 × RETRY_INT without entering LIMIT: SPENT := 0 (R263). -/
def Dev.retryReset (d : Dev) (c : Ch) : Dev :=
  match d.fio.hs[c].onAt with
  | none => d
  | some t0 =>
    let d := d.upTo (t0 + 16 * d.retryInt c)
    (d.modHs c (fun h => { h with spent := 0, onAt := some d.now })).showHs c

/-- HSn_CTRL.CLR (R263, R272): SPENT := 0 and, in LATCHED_OFF, OFF and at once ON with a request; in the
sag state SAG_OFF (R268). -/
def Dev.hsClr (d : Dev) (c : Ch) : Dev :=
  let d := d.modHs c (fun h => { h with spent := 0 })
  if d.fio.hs[c].st = .latchedOff then
    if d.fio.sag then d.hsEnter c .sagOff else d.hsByReq c
  else d.showHs c

/-- Report a diagnosis (R265, R271): the flag of the result is raised where the result is new. -/
def Dev.hsDiag (d : Dev) (c : Ch) (r : Nat) : Dev :=
  if d.fio.hs[c].diag = r then d.showHs c
  else
    let d := (d.modHs c (fun h => { h with diag := r })).showHs c
    match r with
    | 1 => d.raiseHs c 4
    | 2 => d.raiseHs c 5
    | 3 => d.raiseHs c 6
    | 4 => d.raiseHs c 7
    | 5 => d.raiseHs c 8
    | _ => d

/-- Classify an external voltage that first appeared now (R265): PARTNER_DRIVEN with SHARED = 1, BACKFEED
within 100 µs after an own channel turned on (the lowest such in PEER), SHORT_VFLD otherwise. -/
def Dev.classify (d : Dev) (c : Ch) : Dev :=
  if d.shared c then d.hsDiag c 5
  else
    match chans.find? (fun j => j != c && (match d.fio.hs[j].turnOn with
        | some t => d.now ≤ t + us 100 | none => false)) with
    | some j =>
      let d := d.modHs c (fun h => { h with diag := 4 })
      let d := (d.wrF (Reg.FSW_HS_STATUS c) 13 8 j.val).showHs c
      d.raiseHs c 7
    | none => d.hsDiag c 3

/-- EXTERNAL_VOLTAGE (R265): the output, being off, reads at or above 6 V, or no longer does. In the sag state no voltage
is classified. -/
def Dev.extVoltage (d : Dev) (c : Ch) (present : Bool) : Dev :=
  if d.fio.hs[c].st.out then d
  else if present then
    if d.fio.sag || d.fio.hs[c].ext then d
    else (d.modHs c (fun h => { h with ext := true })).classify c
  else
    (d.modHs c (fun h => { h with ext := false, diag := if 3 ≤ h.diag then 0 else h.diag })).showHs c

/-- OFF_STATE_TEST (R265): one window, with its two readings compared with 6 V and 3.0 V. -/
def Dev.offTest (d : Dev) (c : Ch) (ext high : Bool) : Dev :=
  let h := d.fio.hs[c]
  if h.st = .off ∧ d.olEn c ∧ !d.fio.sag ∧ !(d.shared c && h.ext) then
    let r := if ext then 3 else if high then 1 else 0
    let n := if h.lastDiag = r then min 3 (h.diagCnt + 1) else 1
    let d := (d.modHs c (fun h => { h with lastDiag := r, diagCnt := n, tested := true })).showHs c
    if 3 ≤ n then
      match r with
      | 0 => if d.fio.hs[c].diag = 1 ∨ (3 ≤ d.fio.hs[c].diag ∧ !d.fio.hs[c].ext) then d.hsDiag c 0 else d
      | 1 => d.hsDiag c 1
      | _ => if 3 ≤ d.fio.hs[c].diag then d else (d.modHs c (fun h => { h with ext := true })).classify c
    else d
  else d

/-- OPEN_LOAD_ON (R265): while ON with OLON_EN, the load current has been below its threshold for 10 ms,
or above it again for 10 ms. -/
def Dev.openLoadOn (d : Dev) (c : Ch) (low : Bool) : Dev :=
  if d.fio.hs[c].st = .on ∧ d.olOnEn c then
    if low then d.hsDiag c 2
    else if d.fio.hs[c].diag = 2 then d.hsDiag c 0 else d
  else d

/-- GROUP_RESTART (R268): group i restarts i ms after the end of the sag state; a channel that was in
RETRY_WAIT at entry starts a full RETRY_INT. -/
def Dev.groupRestart (d : Dev) : Dev :=
  let i := d.rdF Reg.FSW_SW_STATUS 3 1
  if i < 6 ∧ !d.fio.sag then
    let d := d.upTo (d.fio.sagEnd + ms i)
    let d := d.wrF Reg.FSW_SW_STATUS 3 1 (if i = 5 then 7 else i + 1)
    (chans.filter (fun c => c.val / 8 == i)).foldl (fun d c =>
      if d.fio.hs[c].st = .sagOff then
        if d.fio.hs[c].sagRetry then
          (d.modHs c (fun h => { h with sagRetry := false })).hsEnter c .retryWait
        else d.hsByReq c
      else d) d
  else d

/-- The switch part of sag entry (R268): every channel but those in LATCHED_OFF or THERMAL turns off and
reads SAG_OFF, with no retry spent; UV marks it (log 41). -/
def Dev.hsSag (d : Dev) : Dev :=
  chans.foldl (fun d c =>
    match d.fio.hs[c].st with
    | .latchedOff => d.showHs c
    | .thermal => d.showHs c
    | .sagOff => d.showHs c
    | s => ((d.modHs c (fun h => { h with sagRetry := decide (s = .retryWait) })).hsEnter c .sagOff).raiseHs c 9) d

/-- Posture entry (R26, R262, R394): hold-last keeps the request in force at this instant. -/
def Dev.enterPosture (d : Dev) : Dev :=
  if d.fio.posture then d
  else
    let d := chans.foldl (fun d c => let r := d.reqInForce c; d.modHs c (fun h => { h with held := r })) d
    ((d.modFio (fun f => { f with posture := true })).wrB Reg.SYS_STATUS 16 true).hsSettleAll

/-- Posture ends (R26, R400). -/
def Dev.leavePosture (d : Dev) : Dev :=
  ((d.modFio (fun f => { f with posture := false })).wrB Reg.SYS_STATUS 16 false).hsSettleAll

/-! ### The sense mirror (R269, R270) -/

/-- The channels set in the scan masks, in ascending order. -/
def Dev.scanList (d : Dev) : List Nat :=
  (List.range 48).filter (fun c => bit (d.rdSet (Reg.FSN_SCAN_MASK (c / 32))) (c % 32))

/-- The channel selected by the mode in force. -/
def Dev.selNow (d : Dev) : Nat :=
  let cfg := d.rdSet Reg.FSN_SNS_CFG
  if !bit cfg 31 then d.rdF Reg.FSN_SNS_STATUS 5 0
  else if !bit cfg 30 then fld cfg 5 0
  else d.rdF Reg.FSN_SNS_STATUS 13 8

/-- A 1 µs sample of SNS_SEL: two consecutive samples that agree select (R269); ignored in MODE = 1. -/
def Dev.snsSel (d : Dev) (v : Nat) : Dev :=
  if d.fio.selPin = some v then
    let d := d.wrF Reg.FSN_SNS_STATUS 5 0 v
    if bit (d.rdSet Reg.FSN_SNS_CFG) 31 then d else d.wrF Reg.FSN_SNS_STATUS 13 8 v
  else d.modFio (fun f => { f with selPin := some v })

/-- SCAN_STEP (R269): the next channel of the scan masks in ascending order. -/
def Dev.scanStep (d : Dev) : Dev :=
  if bit (d.rdSet Reg.FSN_SNS_CFG) 31 && bit (d.rdSet Reg.FSN_SNS_CFG) 30 then
    let cur := d.rdF Reg.FSN_SNS_STATUS 13 8
    let l := d.scanList
    match l.find? (fun c => cur < c) with
    | some c => d.wrF Reg.FSN_SNS_STATUS 13 8 c
    | none => match l with
      | [] => d
      | c :: _ => d.wrF Reg.FSN_SNS_STATUS 13 8 c
  else d

/-- ADC_CONVERSION (R270): 12 bits over 0 to 2.5 V, converted to mA by RSNS and K. The rounding of the two
conversions is not stated: each result is one of the two integers beside the exact value (log 42). -/
def Dev.adcConv (d : Dev) (code : Nat) (full : Bool) : Dev :=
  let sel := d.selNow
  let mv := code * 2500 / 4096 + (if code * 2500 % 4096 = 0 then 0 else d.free 42 2)
  let d := (d.wr Reg.FSN_SNS_VOLT (wn mv)).wrF Reg.FSN_SNS_STATUS 13 8 sel
  match toFin? 48 sel with
  | none => if full then d.raiseSns else d
  | some c =>
    if full then (d.wr (Reg.FSN_SNS_I c) (wn (2 ^ 31 + 0xFFFF))).raiseSns
    else
      let k := if c.val < 40 then 2000 else 10000
      let r := max 1 (fld (d.rdSet Reg.FSN_SNS_CFG) 23 8)
      let num := code * 2500 * k
      let ma := num / (4096 * r) + (if num % (4096 * r) = 0 then 0 else d.free 43 2)
      d.wr (Reg.FSN_SNS_I c) (wn (2 ^ 31 + min ma 0xFFFF))

end Sys2Proof.Machine
end

