-- ==== Sys2Proof/Machine/Interlock.lean ====
section
/-!
DEFINITION. The traction interlock (spec/03): train-line channels and pairs, permissions, the door loop
with its hold and cut, and the interlock map.
-/

namespace Sys2Proof.Machine

/-! ### Train-line pairs and permissions (R68 to R71) -/

/-- A train-line channel reads present: debounced level with valid quality (R69). -/
def Dev.tlSeen (d : Dev) (ch : Nat) : Bool := d.ilk.tlLvl.getD ch false && d.ilk.tlQual.getD ch false

/-- The next state of a pair whose channels read `a` and `b` (R70). -/
def PairSt.next (s : PairSt) (a b : Bool) : PairSt :=
  match a, b with
  | false, false => .absent
  | true, true => if s = .discrepant then .discrepant else .present
  | _, _ => match s with
    | .absent => .transit
    | .present => .transit
    | s => s

def PairSt.code : PairSt → Nat
  | .absent => 0 | .present => 1 | .transit => 2 | .discrepant => 3

/-- The state of pair `i`: 0 release left, 1 release right, 2 zero velocity, 3 close. -/
def Dev.pair (d : Dev) (i : Nat) : PairSt := d.ilk.pairs.getD i .absent

/-- Pair states, presence bits and permissions as ILK.STATUS shows them (R71, R87 table). -/
def Dev.showPairs (d : Dev) : Dev :=
  let pres := fun i => decide (d.pair i = .present)
  let w := d.rd Reg.ILK_STATUS
  let w := (List.range 4).foldl (fun w i => setFld w (9 + 2 * i) (8 + 2 * i) (d.pair i).code) w
  let w := setBit w 0 (pres 2)
  let w := setBit w 1 (pres 3)
  let w := setBit w 2 (pres 0 && pres 2)
  let w := setBit w 3 (pres 1 && pres 2)
  d.wr Reg.ILK_STATUS w

/-- After a change of pair states: the permissions follow, one that became false starts its R73 time, drive is
removed or allowed (R72), and PERM_CHG is raised. -/
def Dev.permUpdate (d : Dev) (was : List PairSt) (inst : Nat) : Dev :=
  if d.ilk.pairs = was then d
  else
    let d := d.showPairs
    let d := d.modIlk (fun i => { i with permOff := [false, true].zipIdx.map (fun x =>
      if d.perm x.1 then none else some ((i.permOff.getD x.2 none).getD d.now)) })
    let d := d.hsSettleAll
    d.raiseIlk 0 inst

/-- Re-evaluate pair `i` after a change of its channels (R70). -/
def Dev.pairEval (d : Dev) (i : Nat) : Dev :=
  let was := d.ilk.pairs
  let s := (d.pair i).next (d.tlSeen (2 * i)) (d.tlSeen (2 * i + 1))
  let d := d.modIlk (fun k => { k with
    pairs := k.pairs.set i s
    discAt := k.discAt.set i (if s = .transit then some ((k.discAt.getD i none).getD d.now) else none) })
  d.permUpdate was i

/-- ILK.TL_RAW: levels in [8:0], qualities in [24:16]. -/
def Dev.showTl (d : Dev) : Dev :=
  d.wr Reg.ILK_TL_RAW (wn ((List.range 9).foldl (fun n k =>
    n + (if d.ilk.tlLvl.getD k false then 2 ^ k else 0) + (if d.ilk.tlQual.getD k false then 2 ^ (16 + k) else 0)) 0))

/-- TL_DEB in 5 ns units; 0 before a map is applied, as ILK.CFG then reads (R69, log 108). -/
def Dev.tlDeb (d : Dev) : Nat := d.rdF Reg.ILK_CFG 7 0 * ms 1

/-- How many of the newest samples have shown `lvl` without a break: a sample of the other level discards t₀. -/
def agreeing (lvl : Bool) (samples : List Bool) : Nat := (samples.takeWhile (fun s => s == lvl)).length

/-- The samples every 10 µs, newest first, the newest taken now, that were taken strictly after the last sag state (R257,
R268). -/
def Dev.tlFresh (d : Dev) (samples : List Bool) : List Bool :=
  samples.take (if d.fio.sagEnd = 0 then samples.length else (d.now - d.fio.sagEnd + us 10 - 1) / us 10)

/-- The debounce of R69: with samples every 10 µs, newest first, the level they show is taken once they have shown
it from t₀ on for TL_DEB, as a time span. -/
def Dev.tlTakes (d : Dev) (lvl : Bool) (samples : List Bool) : Bool :=
  let n := agreeing lvl samples
  decide (0 < n ∧ d.tlDeb ≤ (n - 1) * us 10)

/-- A channel takes a debounced level (R70, R82). A first level of TL_OVRD counts as a change only if it is 1;
the record carries the new level and LOOP_OK. -/
def Dev.tlAccept (d : Dev) (ch : Fin 9) (lvl : Bool) : Dev :=
  let old := d.ilk.tlLvl.getD ch false
  let seen := d.ilk.ovrdSeen
  let d := (d.modIlk (fun i => { i with
    tlLvl := i.tlLvl.set ch lvl, tlQual := i.tlQual.set ch true
    ovrdSeen := i.ovrdSeen || ch.val == 8 })).showTl
  if ch.val = 8 then
    let d := d.wrB Reg.ILK_STATUS 25 lvl
    if (seen && old != lvl) || (!seen && lvl) then
      d.raiseIlk 7 0xFF [wn lvl.toNat, wn (d.rdF Reg.ILK_STATUS 26 26)]
    else d
  else d.pairEval (ch.val / 2)

/-- TL_CHANNEL_ACCEPT (R69): the newest sample completes TL_DEB of samples that differ from the debounced level, or
bring the channel's first level, or one after its quality was lost. In the sag state, and from samples not taken strictly
after it, a channel's quality stays invalid (R257, R268). -/
def Dev.tlSample (d : Dev) (ch : Fin 9) (samples : List Bool) : Dev :=
  match d.tlFresh samples with
  | [] => d
  | lvl :: rest =>
    if !d.fio.sag && d.tlTakes lvl (lvl :: rest) && (d.ilk.tlLvl.getD ch false != lvl || !d.ilk.tlQual.getD ch false) then d.tlAccept ch lvl else d

/-- TL_DISC_EXPIRY (R70): a pair in TRANSIT for TL_DISC becomes DISCREPANT. -/
def Dev.tlDisc (d : Dev) (i : Fin 4) : Dev :=
  match d.ilk.discAt.getD i none with
  | none => d
  | some t0 =>
    let d := d.upTo (t0 + d.rdF Reg.ILK_CFG 15 8 * ms 10)
    let was := d.ilk.pairs
    let d := d.modIlk (fun k => { k with pairs := k.pairs.set i .discrepant, discAt := k.discAt.set i none })
    (d.permUpdate was i).raiseIlk 1 i

/-- The train-line qualities turn invalid with the sag state; each channel then reads absent (R69, R268). -/
def Dev.tlSag (d : Dev) : Dev :=
  let was := d.ilk.pairs
  let d := (d.modIlk (fun i => { i with
    tlQual := List.replicate 9 false
    pairs := List.replicate 4 .absent, discAt := List.replicate 4 none })).showTl
  d.permUpdate was 0xFF

/-! ### The door loop (R75 to R79) -/

/-- The accepted level of digital input `i` (IN_LVL). -/
def Dev.dinLvl (d : Dev) (i : Nat) : Bool := d.rdB (Reg.FIN_IN_LVL (i / 32)) (i % 32)

/-- A role byte names an input. -/
def fitted (b : Nat) : Bool := decide (b % 128 < 96)

/-- `made(x)` of R75 for a map byte: active after inversion, and not counted out as stale (R76). -/
def Dev.made (d : Dev) (b : Nat) : Bool :=
  fitted b && !d.ilk.stale.contains (b % 128) && (d.dinLvl (b % 128) != decide (128 ≤ b))

/-- The inputs a map names. -/
def IlkSlot.bytes (s : IlkSlot) : List Nat := [s.closed1, s.closed2, s.locked1, s.locked2, s.stepRet, s.isolate]
def IlkMap.dins (m : IlkMap) : List Nat := ((m.slots.flatMap IlkSlot.bytes).filter fitted).map (· % 128)

/-- The test of one slot in R75. -/
def Dev.slotSecured (d : Dev) (s : IlkSlot) : Bool :=
  let fit := fun b => !fitted b || d.made b
  fit s.closed1 && fit s.closed2 && fit s.locked1 && fit s.locked2 && (s.stepRet % 128 == 0x7F || d.made s.stepRet)

/-- LOOP_OK (R75). -/
def Dev.loopOk (d : Dev) : Bool :=
  match d.ilk.map with
  | none => false
  | some m => d.rdB Reg.ILK_STATUS 30 && m.slots.all (fun s =>
      !s.en || (s.isoExcl && d.made s.isolate) || d.slotSecured s)

/-- KILL_CONFIRM in 5 ns units. Before a map is applied it is what ILK.CFG then reads, 0, and so is TL_DISC: a cut or
DISCREPANT follows at once (log 108). -/
def Dev.killConfirm (d : Dev) : Nat := d.rdF Reg.ILK_CFG 23 16 * us 100

/-- Start or stop the confirm intervals of R77 and R78. Without the crystal DLP_KILL does not operate (R32). -/
def Dev.confirm (d : Dev) : Dev :=
  let ok := d.rdB Reg.ILK_STATUS 26
  let hold := d.rdB Reg.ILK_STATUS 27
  d.modIlk (fun i => { i with
    killAt := if i.rb && !ok && !i.kill && d.time.xtalOk then some (i.killAt.getD d.now) else none
    openAt := if hold && ok && !i.rb then some (i.openAt.getD d.now) else none })

/-- Loop evaluation (R75, R77, R81): HOLD equals LOOP_OK, and falls with the crystal (R32); a cut is released once LOOP_OK is true. -/
def Dev.loopEval (d : Dev) : Dev :=
  let ok := d.loopOk
  let was := d.rdB Reg.ILK_STATUS 26
  let d := (d.wrB Reg.ILK_STATUS 26 ok).wrB Reg.ILK_STATUS 27 (ok && d.time.xtalOk)
  let d := if ok != was then d.raiseIlk 2 else d
  let d := if ok && d.ilk.kill then
      ((d.modIlk (fun i => { i with kill := false })).wrB Reg.ILK_STATUS 29 false).raiseIlk 5
    else d
  d.confirm

/-- The filtered readback takes a level. -/
def Dev.rbChange (d : Dev) (lvl : Bool) : Dev :=
  ((d.modIlk (fun i => { i with rb := lvl })).wrB Reg.ILK_STATUS 28 lvl).confirm

/-- DLP_RB_CHANGE (R77): two consecutive 1 µs samples of DLP_RB; the filter takes their level where they agree. -/
def Dev.rbSample (d : Dev) (before lvl : Bool) : Dev := if before == lvl then d.rbChange lvl else d

/-- KILL_CONFIRM_EXPIRY (R77): DLP_KILL operates. -/
def Dev.killExpiry (d : Dev) : Dev :=
  match d.ilk.killAt with
  | none => d
  | some t0 =>
    let d := d.upTo (t0 + d.killConfirm)
    ((d.modIlk (fun i => { i with kill := true, killAt := none })).wrB Reg.ILK_STATUS 29 true).raiseIlk 4

/-- LOOP_OPEN (R78). While one condition goes on, the confirm interval starts again with the next evaluation of the
loop, so the flag can be set again; the rule does not say (log 109). -/
def Dev.loopOpen (d : Dev) : Dev :=
  match d.ilk.openAt with
  | none => d
  | some t0 => ((d.upTo (t0 + d.killConfirm)).modIlk (fun i => { i with openAt := none })).raiseIlk 3

/-- LOCK_BACKFEED (R73) of channel HS(40 + k): partner-driven back-feed while the own permission of the
channel's side has been false for longer than KILL_CONFIRM. -/
def Dev.lockBackfeed (d : Dev) (k : Fin 8) : Dev :=
  let c : Ch := ⟨40 + k.val, by omega⟩
  if d.lockClass c && !d.perm (d.lockSide c == 2) && d.fio.hs[c].diag == 5 then
    (d.upTo ((d.ilk.permOff.getD (d.lockSide c - 1) none).getD 0 + d.killConfirm)).raiseIlk 6 c
  else d

/-- LOOP_DRIVER_LIMIT_OFF and LOOP_DRIVER_RETRY (R435): a driver held in its current limit for 5 ms turns
off, and is retried every 100 ms while HOLD is true. -/
def Dev.loopLimit (d : Dev) (on : Bool) : Dev :=
  if on then d.modIlk (fun i => { i with limA := true })
  else if d.rdB Reg.ILK_STATUS 27 then d.modIlk (fun i => { i with limA := false })
  else d

/-- INPUT_STALE (R76): a map input whose quality has been invalid for 20 ms counts as not made. -/
def Dev.inputStale (d : Dev) (i : Din) : Dev :=
  match d.ilk.map with
  | none => d
  | some m =>
    let x := d.fio.dins[i]
    if m.dins.contains i.val && x.inv && !d.ilk.stale.contains i.val then
      let d := d.upTo (x.invAt + ms 20)
      ((d.modIlk (fun k => { k with stale := i.val :: k.stale })).raiseIlk 11 i).loopEval
    else d

/-! ### The interlock map (R83 to R86) -/

/-- A map byte is in range: DIN 0 to 95 or 7Fh, bit 7 inverts. -/
def mapByteOk (b : Nat) : Bool := decide (b < 256) && (fitted b || b % 128 == 0x7F)

/-- The checks of R83, R80 among them. -/
def IlkMap.ok (m : IlkMap) : Bool :=
  decide (1 ≤ m.tlDeb ∧ m.tlDeb ≤ 50 ∧ 1 ≤ m.tlDisc ∧ m.tlDisc ≤ 100 ∧ 2 ≤ m.killConfirm ∧ m.killConfirm ≤ 200
    ∧ 2 ≤ m.sample ∧ m.sample ≤ 100 ∧ 2 ≤ m.dinDeb ∧ m.dinDeb ≤ 65000)
  && m.lockClass.all (fun x => decide (x ≤ 2)) && m.lockClass.length == 8
  && m.slots.length == 12
  && m.slots.all (fun s => s.bytes.all mapByteOk)
  && m.slots.any (·.en)
  && m.slots.all (fun s => !s.en || (fitted s.closed1 && fitted s.locked1))
  && decide m.dins.Nodup
  && decide (2 * (10 * m.sample) + 50 ≤ 100 * m.killConfirm)

/-- Groups that hold an input of the map. -/
def IlkMap.governs (m : IlkMap) (g : Nat) : Bool := m.dins.any (fun i => i / 8 == g)

/-- The FIO fields that read the values of a map instead of their own (R86). -/
def Dev.mapFio (d : Dev) (m : IlkMap) : Dev :=
  let d := (List.range 12).foldl (fun d g =>
    if m.governs g then d.wr (Reg.FIN_GRP_CFG g) (wn (2 ^ 16 + m.sample)) else d) d
  (List.range 96).foldl (fun d i =>
    if m.governs (i / 8) then d.wr (Reg.FIN_DEB i) (wn (2 ^ 16 + m.dinDeb)) else d) d

/-- The ILK registers of an applied map (R84, R87 tables), and the FIO fields that it governs. -/
def Dev.mapRegs (d : Dev) (m : IlkMap) : Dev :=
  let d := d.wr Reg.ILK_CFG (wn (m.sample * 2 ^ 24 + m.killConfirm * 2 ^ 16 + m.tlDisc * 2 ^ 8 + m.tlDeb))
  let d := d.wr Reg.ILK_DIN_DEB (wn m.dinDeb)
  let d := d.wr Reg.ILK_LOCK_CLASS (wn ((List.range 8).foldl (fun n i => n + m.lockClass.getD i 0 * 4 ^ i) 0))
  let d := d.wr Reg.ILK_MAP_ID (wn m.digest)
  let d := (List.range 12).foldl (fun d n =>
    match m.slots[n]? with
    | none => d
    | some s =>
      let d := d.wr (Reg.ILK_PMAP_A n) (wn (s.closed1 + s.closed2 * 2 ^ 8 + s.locked1 * 2 ^ 16 + s.locked2 * 2 ^ 24))
      d.wr (Reg.ILK_PMAP_B n) (wn (s.stepRet + s.isolate * 2 ^ 8 + s.en.toNat * 2 ^ 16 + s.isoExcl.toNat * 2 ^ 17
        + s.right.toNat * 2 ^ 18))) d
  d.mapFio m

/-- The field die receives a map (R83, R85). Inputs with no valid level since the field die's reset, and
inputs invalid for 20 ms or more, count as not made at once, each setting INPUT_STALE (R76). -/
def Dev.applyMap (d : Dev) (m : IlkMap) : Dev :=
  match d.ilk.map with
  | some k =>
    if k.digest = m.digest then d.mapFio k
    else ((d.mapFio k).modIlk (fun i => { i with mismatch := true })).raiseIlk 10
  | none =>
    if m.ok then
      let d := d.modIlk (fun i => { i with map := some m })
      let d := (d.mapRegs m).wrB Reg.ILK_STATUS 31 true
      let d := d.raiseIlk 8
      let gone := dinsAll.filter (fun i => m.dins.contains i.val && d.fio.dins[i].inv &&
        (!d.fio.dins[i].accepted || decide (d.fio.dins[i].invAt + ms 20 ≤ d.now)))
      let d := gone.foldl (fun d i => (d.modIlk (fun k => { k with stale := i.val :: k.stale })).raiseIlk 11 i) d
      d.hsSettleAll.loopEval
    else d.raiseIlk 9

end Sys2Proof.Machine
end

