-- ==== Sys2Proof/Machine/Inputs.lean ====
section
/-!
DEFINITION. Digital inputs and sensitive edges (spec/11 R253 to R260, spec/07 R177), and the sag state as
a whole (R268).
-/

namespace Sys2Proof.Machine

/-- DEB of an input in 5 ns units. -/
def Dev.debT (d : Dev) (i : Din) : Nat := fld (d.rdSet (Reg.FIN_DEB i)) 15 0 * us 1

/-- Low 32 bits of the time counter at an instant. -/
def Dev.stampAt (d : Dev) (t : Nat) : Word :=
  match d.time.tc0 with
  | none => wn d.time.frozenTc
  | some o => wn (t - o)

/-- The latches that an edge of input `i` reaches (R114, R116): an axis armed at the last strobe instant (R34) with EDGE
matching, or a homing axis in its approach at a make. `lvl` is the level of the DIN. -/
def Dev.latchEdge (d : Dev) (i : Din) (lvl : Bool) (t0 : Nat) : Dev :=
  axes.foldl (fun (d : Dev) (a : Axis) =>
    let cfg := d.rd (Reg.MOT_LATCH_CFG a)
    if fld cfg 6 0 = i.val then
      let made := lvl != bit cfg 12
      let want := bit (d.sn (Reg.MOT_LATCH_CFG a)) 15 && (made != bit cfg 13)
      if want || (decide (d.mot[a].home = .approach) && made) then
        d.modMot a (fun m => { m with latch := m.latch ++ [⟨t0, made, none⟩] })
      else d
    else d) d

/-- Input `i` is named by the locked map. -/
def Dev.inMap (d : Dev) (i : Nat) : Bool :=
  match d.ilk.map with
  | none => false
  | some m => m.dins.contains i

/-- QUAL_BACK is due (R257): every input lost since the last one is valid again. -/
def Dev.qualBack (d : Dev) (i : Din) : Dev :=
  if d.fio.lost.isEmpty then d
  else if d.fio.lost.all (fun k => d.rdB (Reg.FIN_IN_QUAL (k / 32)) (k % 32)) then
    let inst := if d.fio.lost.all (fun k => k == i.val) then i.val else 0xFF
    (d.modFio (fun f => { f with lost := [] })).raiseIn 1 inst
  else d

/-- A change of input `i` is a wake cause (R385 code 06h): an enabled portal maps it, its thermostat included,
or PWR.WAKE_DIN names it. -/
def Dev.wakeDin (d : Dev) (i : Nat) : Bool :=
  d.rdB (Reg.PWR_WAKE_DIN (i / 32)) (i % 32)
    || slots.any (fun p => d.enabled p
        && ((List.range 12).any (fun r =>
              let b := d.rdF (Reg.PRT_INPUT_MAP p (r / 4)) (8 * (r % 4) + 7) (8 * (r % 4))
              fitted b && b % 128 == i)
            || (fitted (d.rdF (Reg.PRT_HEAT_CFG p) 31 24) && d.rdF (Reg.PRT_HEAT_CFG p) 30 24 == i)))

/-- The sampling that a GRPg_CFG word sets (R254): the interval of the samples, and the sink on-time before a sample is read. -/
def sampleEvery (w : Word) : Nat := if bit w 15 then us 1 else fld w 9 0 * us 10
def sinkOn (w : Word) : Nat := if bit w 15 then 0 else us 10
/-- The first reading instant after the time counter's origin `o` of group `g` under the setting `w` (R254). -/
def firstRead (o g : Nat) (w : Word) : Nat := o + sinkOn w + (if bit w 15 then 0 else us g)

/-- The setting in force of an input's group, and the interval of its samples. -/
def Dev.grpCfg (d : Dev) (i : Din) : Word := d.rdSet (Reg.FIN_GRP_CFG (i.val / 8))
def Dev.dinEvery (d : Dev) (i : Din) : Nat := sampleEvery (d.grpCfg i)

/-- `t` is an instant at which input `i` is read (R254): pulsed, 10 µs after k × SAMPLE + g µs on the time counter; continuous,
every 1 µs. -/
def Dev.dinReads (d : Dev) (i : Din) (t : Nat) : Bool :=
  match d.time.tc0 with
  | none => false
  | some o =>
    let b := firstRead o (i.val / 8) (d.grpCfg i)
    decide (b ≤ t) && (t - b) % max 1 (d.dinEvery i) == 0

/-- The settings of an input's group, newest first, each with the instant after which it holds (R255). -/
def Dev.grpSettings (d : Dev) (i : Din) : List (Nat × Word) :=
  let past : List (Nat × Word) := d.fio.grpPast.getD (i.val / 8) []
  (past.map Prod.fst ++ [0]).zip (d.grpCfg i :: past.map Prod.snd)

/-- The reading instants of group `g` before `hi`, the last of them, and the setting under which it was read. -/
def lastRead (o g : Nat) : List (Nat × Word) → Nat → Option (Nat × Word)
  | [], _ => none
  | (lo, w) :: past, hi =>
    let b := firstRead o g w
    let t := b + (hi - 1 - b) / max 1 (sampleEvery w) * max 1 (sampleEvery w)
    if b < hi ∧ (lo < t ∨ lo = 0) then some (t, w) else lastRead o g past (min hi (lo + 1))

/-- The samples of an input, newest first and read without a gap up to `t`, with their instants and settings. -/
def Dev.timed (d : Dev) (i : Din) (o : Nat) : List DinSample → Nat → List (DinSample × Nat × Word)
  | [], _ => []
  | s :: ss, hi => match lastRead o (i.val / 8) (d.grpSettings i) hi with
    | some (t, w) => (s, t, w) :: d.timed i o ss t
    | none => []

/-- The sampling of input groups changes from that of `o`: what was in force until now is kept while a debounce can still
reach back to it, 75 ms. -/
def Dev.noteSampling (d o : Dev) : Dev :=
  d.modFio (fun f => { f with grpPast := f.grpPast.zipIdx.map (fun x =>
    let w := o.rdSet (Reg.FIN_GRP_CFG x.2)
    if w &&& 0x83FF = d.rdSet (Reg.FIN_GRP_CFG x.2) &&& 0x83FF then x.1
    else (d.now, w) :: x.1.filter (fun p => decide (d.now < p.1 + ms 75))) })

/-- Input `i` accepts the level `lvl`, whose first sample began at `t0` (R255, R257). -/
def Dev.dinAccept (d : Dev) (i : Din) (lvl : Bool) (t0 : Nat) : Dev :=
  let k := i.val / 32
  let b := i.val % 32
  let change := d.fio.dins[i].accepted && d.dinLvl i != lvl
  let d := d.modDin i (fun x => { x with accepted := true, inv := false })
  let d := (d.wrB (Reg.FIN_IN_LVL k) b lvl).wrB (Reg.FIN_IN_QUAL k) b true
  let d := if change then ((d.wr (Reg.FIN_STAMP i) (d.stampAt t0)).raiseChg i).latchEdge i lvl t0 else d
  let d := if change && d.wakeDin i.val then d.wakeOn 6 else d
  let d := d.qualBack i
  if d.inMap i then
    (d.modIlk (fun m => { m with stale := m.stale.filter (· != i.val) })).loopEval
  else d

/-- The debounce of R255 on timed samples, newest first: the onset of the level that they show, the start of the on-time of its
first sample t₀, once they have shown it for DEB as a time span. A sample of the other level, or of a foreign voltage,
discards t₀. -/
def Dev.dinTakes (d : Dev) (i : Din) (lvl : Bool) (samples : List (DinSample × Nat × Word)) : Option Nat :=
  match samples, (samples.takeWhile (fun s => s.1 == .level lvl)).getLast? with
  | (_, t, _) :: _, some (_, t0, w) => if t0 + d.debT i ≤ t then some (t0 - sinkOn w) else none
  | _, _ => none

/-- QUAL_LOST for `lost`, the inputs that lost a valid level (R257): set at an instant, its INST the input when one lost
quality, FFh and the number of them as DATA otherwise. Rows of one instant are one occurrence, whose record then counts
them all. -/
def Dev.qualLost (d : Dev) (lost : List Nat) : Dev :=
  if lost.isEmpty then d
  else
    let d := d.modFio (fun f => { f with lost := lost ++ f.lost })
    let same := decide (d.fio.lostAt = d.now) && !d.fio.lostNow.isEmpty
    let all := if same then d.fio.lostNow ++ lost else lost
    let inst := match all with | [i] => i | _ => 0xFF
    let data := if all.length = 1 then [] else [wn all.length]
    let d := d.modFio (fun f => { f with
      lostAt := d.now, lostNow := all, lostOrder := if same then f.lostOrder else d.seq })
    if same then
      d.modRcd (fun r => { r with intake := r.intake.map (fun q =>
        if q.order = d.fio.lostOrder ∧ q.src = 43 ∧ q.body.head? = some 0 then { q with body := eventBody 0 inst data } else q) })
    else d.raiseIn 0 (inst) data

/-- Inputs lose quality together (R257). -/
def Dev.loseQual (d : Dev) (is : List Din) : Dev :=
  let valid := is.filter (fun i => d.rdB (Reg.FIN_IN_QUAL (i.val / 32)) (i.val % 32))
  let d := is.foldl (fun d i =>
    (d.modDin i (fun x => { x with inv := true, invAt := if x.inv then x.invAt else d.now, causeEnd := d.now })).wrB
      (Reg.FIN_IN_QUAL (i.val / 32)) (i.val % 32) false) d
  d.qualLost (valid.map (·.val))

/-- FOREIGN (R257): an input rises above the foreign-voltage level. -/
def Dev.foreignIn (d : Dev) (i : Din) : Dev :=
  if d.fio.dins[i].foreign then d
  else
    let d := d.loseQual [i]
    (d.modDin i (fun x => { x with foreign := true })).raiseIn 2 i

/-- DIN_ACCEPT: the samples of input `i` up to the one read at `t`, newest first (R254, R255, R257). IN_RAW takes the newest
sample; a foreign voltage reads active. A level is accepted that differs from the accepted one, or while the input has none or its quality is
invalid; nothing is accepted in the sag state or from samples not taken strictly after the cause ended. -/
def Dev.dinSample (d : Dev) (i : Din) (t : Nat) (samples : List DinSample) : Dev :=
  let d := d.upTo t
  if !d.dinReads i t then d
  else
    let raw := fun (d : Dev) (v : Bool) => d.wrB (Reg.FIN_IN_RAW (i.val / 32)) (i.val % 32) v
    match samples with
    | [] => d
    | .foreign :: _ => (raw d true).foreignIn i
    | .level lvl :: _ =>
      let d := (raw d lvl).modDin i (fun x => { x with foreign := false })
      let x := d.fio.dins[i]
      if d.fio.sag || !(x.inv || !x.accepted || d.dinLvl i != lvl) then d
      else match d.dinTakes i lvl ((d.timed i (d.time.tc0.getD 0) samples (t + 1)).filter (fun s => decide (x.causeEnd < s.2.1))) with
        | some t0 => d.dinAccept i lvl t0
        | none => d

/-! ### Edges -/

/-- The configuration as the field die has it (R259, EDG_STATUS.SLOT_MODE): it keeps it through a control-die reset. -/
def Dev.slotMode (d : Dev) : Nat := d.rdF Reg.FED_EDG_STATUS 1 0

/-- Ticks are locked to SYNC, or the member has no others (R259): Solo, the leader, or SYNC_LOCKED. -/
def Dev.syncOk (d : Dev) : Bool := d.slotMode == 0 || d.rdB Reg.CVN_STATUS 16 || d.rdB Reg.CVN_STATUS 17

/-- The edges a portal maps. -/
def Dev.portalEdges (d : Dev) (p : Slot) : List Nat :=
  if d.enabled p then
    [d.rdF (Reg.PRT_EDGE_MAP p) 4 0, d.rdF (Reg.PRT_EDGE_MAP p) 12 8].filter (· < 24)
  else []

/-- The edge is measured (R259): in Ring only where a portal maps it, and never before SYNC lock. -/
def Dev.edgeMeasured (d : Dev) (e : Edge) : Bool :=
  d.syncOk && (d.slotMode != 2 || slots.any (fun p => (d.portalEdges p).contains e.val))

/-- `r` lies on the low side of the band boundary whose nominal value is `b`, `nom` being the nominal classification: free
within 5 % of the boundary, at each measurement anew (R177, R444, log 9). -/
def Dev.lowSide (d : Dev) (r b : Rat) (nom : Bool) (site : Nat) : Bool :=
  if r < b * 95 / 100 then true else if b * 105 / 100 < r then false else if d.free site 2 = 0 then nom else !nom

/-- The band of a resistance in ohms (R177). -/
def Dev.bandOf (d : Dev) (r : Rat) : Nat :=
  if d.lowSide r 500 (decide (r < 500)) 45 then 1
  else if d.lowSide r 6560 (decide (r < 6560)) 46 then 3
  else if d.lowSide r 9840 (decide (r ≤ 9840)) 47 then 0
  else if d.lowSide r 50000 (decide (r ≤ 50000)) 48 then 4
  else 2

/-- Band register nibble of an edge. -/
def Dev.edgeBand (d : Dev) (e : Nat) : Nat := d.rdF (Reg.FED_EDG_BAND (e / 8)) (4 * (e % 8) + 2) (4 * (e % 8))

/-- A band is put in place; a change of band sets its EDG_FLAGS bit, LOW or HIGH starts the 1 s of R178, and a
mapped edge that leaves NORMAL is wake cause 07h (R385). -/
def Dev.setBand (d : Dev) (e : Edge) (b : Nat) : Dev :=
  if d.edgeBand e = b then d
  else
    let d := if d.edgeBand e = 0 && slots.any (fun p => (d.portalEdges p).contains e.val) then d.wakeOn 7 else d
    let d := d.wrF (Reg.FED_EDG_BAND (e.val / 8)) (4 * (e.val % 8) + 2) (4 * (e.val % 8)) b
    (d.modEdge e (fun x => { x with marginAt := if b = 3 ∨ b = 4 then some d.now else none })).raiseEdg e

/-- A measurement gives band `b`: a new band is accepted after two that agree (R177). None is in the sag state, whose bands
read INVALID (R268). -/
def Dev.edgeResult (d : Dev) (e : Edge) (b : Nat) : Dev :=
  let b := if d.fio.sag then 7 else b
  let d' := d.modEdge e (fun x => { x with cand := b })
  if d.fio.edges[e].cand = b then d'.setBand e b else d'

/-- Edges that are not measured read INVALID at once, and SYNC_WAIT shows that ticks are not locked (R259). -/
def Dev.edgesSettle (d : Dev) : Dev :=
  edgesAll.foldl (fun (d : Dev) (e : Edge) => if d.edgeMeasured e then d else (d.modEdge e (fun x => { x with cand := 7 })).setBand e 7)
    (d.wrB Reg.FED_EDG_STATUS 2 (!d.syncOk))

/-- Edge `e` is measured in slot B (R259): in Duo on the member with ROLE_ID[0] = 1; in Ring where slots 6 to 11 map it. -/
def Dev.edgeSlotB (d : Dev) (e : Edge) : Bool :=
  if d.slotMode = 1 then d.rdB Reg.CVN_STATUS 8
  else d.slotMode == 2 && slots.any (fun p => decide (6 ≤ p.val) && (d.portalEdges p).contains e.val)

/-- `t` is the reading instant of edge `e` (R258, R259): 44 µs into its 100 µs cycle in slot A, 94 µs in slot B. Cycles start at
multiples of 100 µs on the time counter in Solo, at the position tick and every 100 µs after it otherwise. -/
def Dev.edgeReads (d : Dev) (e : Edge) (t : Nat) : Bool :=
  let from' := if d.slotMode = 0 then d.time.tc0 else some d.time.periodStart
  match from' with
  | none => false
  | some o => decide (o ≤ t) && (t - o) % us 100 == us (if d.edgeSlotB e then 94 else 44)

/-- EDGE_MEASUREMENT (R258): an idle reading and a reading under source, in microvolts. The resistance is
10.0 kΩ × V ÷ (5.0 V − V); the integer written to EDGe_R is one of the two beside it (log 42). Where the edge is
not measured the band reads INVALID (R259); in the sag state it is measured and its band reads INVALID (R268). -/
def Dev.edgeMeasure (d : Dev) (e : Edge) (idle uv : Nat) : Dev :=
  if !d.edgeMeasured e then
    (d.modEdge e (fun x => { x with cand := 7 })).setBand e 7
  else if 200000 < idle then
    let onset := !d.fio.edges[e].foreign
    let d := d.modEdge e (fun x => { x with foreign := true })
    let d := if onset then d.raiseEdgForeign e else d
    d.edgeResult e 7
  else
    let d := d.modEdge e (fun x => { x with foreign := false })
    if 5000000 ≤ uv then (d.wr (Reg.FED_EDG_R e) 0xFFFFF).edgeResult e 2
    else
      let r : Rat := 10000 * uv / (5000000 - uv)
      let n := r.floor.toNat + (if r = (r.floor : Rat) then 0 else d.free 44 2)
      let d := d.wr (Reg.FED_EDG_R e) (wn (if r > 1048574 then 0xFFFFF else n))
      d.edgeResult e (d.bandOf r)

/-! ### Supply sag (R268) -/

/-- SAG_ENTER: channels off, input and train-line qualities invalid, edge bands INVALID. -/
def Dev.sagEnter (d : Dev) : Dev :=
  if d.fio.sag then d
  else
    let d := d.modFio (fun f => { f with sag := true })
    let d := d.wr Reg.FSW_SW_STATUS (setFld (setBit (d.rd Reg.FSW_SW_STATUS) 0 true) 3 1 7)
    let d := d.hsSag
    let d := d.loseQual dinsAll
    let d := d.tlSag
    let d := edgesAll.foldl (fun d e => (d.modEdge e (fun x => { x with cand := 7 })).setBand e 7) d
    d.raiseSw 0

/-- SAG_EXIT: the sag state ends; the six groups restart from here (GROUP_RESTART). -/
def Dev.sagExit (d : Dev) : Dev :=
  if d.fio.sag then
    let d := d.modFio (fun f => { f with sag := false, sagEnd := d.now })
    let d := dinsAll.foldl (fun d i => d.modDin i (fun x => { x with causeEnd := d.now })) d
    let d := d.wr Reg.FSW_SW_STATUS (setFld (setBit (d.rd Reg.FSW_SW_STATUS) 0 false) 3 1 0)
    (chans.foldl Dev.showHs d).raiseSw 1
  else d

/-- EDGE_MEASUREMENT at its reading instant; none at another. -/
def Dev.edgeRow (d : Dev) (t : Nat) (e : Edge) (idle uv : Nat) : Dev :=
  let d := d.upTo t
  if d.edgeReads e t then d.edgeMeasure e idle uv else d

/-- IN_EVEN_WRITE (R271): a bit going to 1 while its IN_CHG bit is set is an occurrence of the source. -/
def Dev.inEvenWrite (d : Dev) (k : Nat) (v : Word) : Dev :=
  let old := d.rd (Reg.FIN_IN_EVEN k)
  let d := d.wr (Reg.FIN_IN_EVEN k) v
  if (v &&& ~~~old &&& d.rd (Reg.FIN_IN_CHG k)) != 0 then d.occur (40 + k) else d

end Sys2Proof.Machine
end

