-- ==== Sys2Proof/Machine/Plan.lean ====
section
/-!
DEFINITION. The seven-segment profile as exact kinematics (R97, R98, R103, R106): phases of constant
jerk over rational seconds and counts. Square and cube roots are taken down to 2⁻⁴⁰; every plan ends by
being set exactly on its target (R92), so a root's rounding never accumulates.
-/

namespace Sys2Proof.Machine

/-- Square root of a non-negative rational, rounded down to 2⁻⁴⁰. -/
def sqrtR (q : Rat) : Rat := if q ≤ 0 then 0 else (isqrt (q * 2 ^ 80).floor.toNat : Rat) / 2 ^ 40
/-- Cube root of a non-negative rational, rounded down to 2⁻⁴⁰. -/
def cbrtR (q : Rat) : Rat := if q ≤ 0 then 0 else (icbrt (q * 2 ^ 120).floor.toNat : Rat) / 2 ^ 40

/-- The sign of a rational as −1, 0 or 1. -/
def sgnR (q : Rat) : Rat := if 0 < q then 1 else if q < 0 then -1 else 0

/-- Acceleration and jerk limits of one direction. -/
structure Lim where
  a : Rat
  j : Rat
  deriving DecidableEq, Repr

/-- A phase to run: jerk, duration and the number MSTAT.PHASE shows. -/
structure Ph where
  j : Rat
  dur : Rat
  no : Nat
  deriving DecidableEq, Repr

/-- Position, velocity and acceleration. -/
structure Kin where
  x : Rat
  v : Rat
  a : Rat
  deriving DecidableEq, Repr

/-- The plan at time `t` into a phase of jerk `j` (R97). -/
def Kin.at (k : Kin) (j t : Rat) : Kin :=
  ⟨k.x + k.v * t + k.a * t * t / 2 + j * t * t * t / 6, k.v + k.a * t + j * t * t / 2, k.a + j * t⟩

/-- Lay phases out as plan segments of entry `ent`; phases of no duration are dropped. -/
def layOut (ent : Nat) : Kin → List Ph → List Seg × Kin
  | k, [] => ([], k)
  | k, p :: ps =>
    if p.dur ≤ 0 then layOut ent k ps
    else
      let r := layOut ent (k.at p.j p.dur) ps
      (⟨k.x, k.v, k.a, p.j, p.dur, ent, p.no, none⟩ :: r.1, r.2)

/-- The duration and phase times of a ramp by `dv` (R97, R98). -/
def rampTimes (dv : Rat) (l : Lim) : Rat × Rat :=
  if l.a * l.a ≤ dv * l.j then (l.a / l.j, dv / l.a - l.a / l.j) else (sqrtR (dv / l.j), 0)

/-- The distance of a ramp between `v1` and `v2` of one sign (R98). -/
def rampDist (v1 v2 : Rat) (l : Lim) : Rat :=
  let (tj, ta) := rampTimes |v2 - v1| l
  (v1 + v2) / 2 * (ta + 2 * tj)

/-- The phases of a ramp from `v1` to `v2` along the motion: phases 1 to 3 up, 5 to 7 down. -/
def rampPh (v1 v2 : Rat) (l : Lim) : List Ph :=
  let (tj, ta) := rampTimes |v2 - v1| l
  let s := sgnR (v2 - v1)
  let n := if v1 ≤ v2 then 1 else 5
  if v1 = v2 then [] else [⟨s * l.j, tj, n⟩, ⟨0, ta, n + 1⟩, ⟨-s * l.j, tj, n + 2⟩]

/-- The greatest `x` between `lo` and `hi`, on a grid of 2⁻ᵇ of the interval, at which `ok` still holds. -/
def bisect (ok : Rat → Bool) : Nat → Rat → Rat → Rat
  | 0, lo, _ => lo
  | n + 1, lo, hi => let m := (lo + hi) / 2; if ok m then bisect ok n m hi else bisect ok n lo m

/-- The highest velocity up to `cap` that a ramp from `v0` reaches within distance `dist` (R103). -/
def maxVel (v0 dist cap : Rat) (l : Lim) : Rat :=
  if cap ≤ v0 then cap
  else if rampDist v0 cap l ≤ dist then cap
  else bisect (fun v => decide (rampDist v0 v l ≤ dist)) 48 v0 cap

/-- The peak velocity of a rest-to-rest move too short for its cruise (R97). -/
def shortPeak (dist : Rat) (l : Lim) : Rat :=
  let vp := (sqrtR (l.a ^ 4 / (l.j * l.j) + 4 * l.a * dist) - l.a * l.a / l.j) / 2
  if l.a * l.a / l.j ≤ vp then vp else cbrtR (dist * dist * l.j / 4)

/-- The phases from velocity `w` (no acceleration) over `dist` to exit velocity `ve`, cruising at most at
`cap` (R97, R98). A start above the cap first ramps down to it (R101), or, where that would leave no room for the exit,
to the lowest velocity above it that does. -/
def movePh (w dist ve cap : Rat) (l : Lim) : List Ph :=
  let total := fun v => rampDist w v l + rampDist v ve l
  let vp :=
    if total cap ≤ dist then cap
    else if cap < w then w - bisect (fun δ => decide (total (w - δ) ≤ dist)) 48 0 (w - cap)
    else if w = 0 ∧ ve = 0 then min cap (shortPeak dist l)
    else bisect (fun v => decide (total v ≤ dist)) 48 (max w ve) cap
  rampPh w vp l ++ [⟨0, if 0 < vp then (dist - total vp) / vp else 0, 4⟩] ++ rampPh vp ve l

/-- The motion decelerates so hard that its speed would pass through zero before its acceleration did (R106). The plan's
roots are rounded: a run-down that continues under its own limits may miss J·w = u²/2 by a part in 2²⁰. -/
def hardDecel (w u : Rat) (l : Lim) : Bool := decide (u < 0 ∧ l.j * w * (1 + 1 / 2 ^ 20) < u * u / 2)

/-- The run-down of R106 in coordinates along the motion: speed `w ≥ 0`, acceleration `u`. Answers the
three phases and whether the jerk had to be raised; a deceleration beyond A is first brought back to A. -/
def runDown (w u : Rat) (l : Lim) : List Ph × Bool :=
  if hardDecel w u l then
    let j := if 0 < w then u * u / (2 * w) else l.j
    ([⟨j, -u / j, 7⟩], true)
  else
    let p := sqrtR (l.j * w + u * u / 2)
    if p ≤ l.a then ([⟨-l.j, (u + p) / l.j, 5⟩, ⟨l.j, p / l.j, 7⟩], false)
    else if u < -l.a then
      ([⟨l.j, (-u - l.a) / l.j, 5⟩, ⟨0, (w - u * u / (2 * l.j)) / l.a, 6⟩, ⟨l.j, l.a / l.j, 7⟩], false)
    else ([⟨-l.j, (u + l.a) / l.j, 5⟩, ⟨0, (w + u * u / (2 * l.j) - l.a * l.a / l.j) / l.a, 6⟩, ⟨l.j, l.a / l.j, 7⟩], false)

/-- The distance a list of phases covers from speed `w` and acceleration `u`. -/
def phDist (w u : Rat) (ps : List Ph) : Rat := (layOut 0 ⟨0, w, u⟩ ps).2.x

/-- From `w`, `u` down to velocity `ve` and no acceleration at a chosen level of deceleration `lv` (R104). -/
def levelTo (w u lv ve : Rat) (l : Lim) : List Ph :=
  let s := if lv ≤ -u then 1 else -1
  let t1 := |lv + u| / l.j
  let v1 := w + u * t1 + s * l.j * t1 * t1 / 2
  let t3 := lv / l.j
  let t2 := if 0 < lv then (v1 - ve - lv * lv / (2 * l.j)) / lv else 0
  [⟨s * l.j, t1, 5⟩, ⟨0, t2, 6⟩, ⟨l.j, t3, 7⟩]

/-- The highest useful level of such a deceleration. -/
def topLevel (w u ve : Rat) (l : Lim) : Rat := min (sqrtR (l.j * (w - ve) + u * u / 2)) l.a

/-- What a rounded plan may miss of a distance, counts. -/
def slack : Rat := 1 / 4096

/-- The phase that brings the acceleration to zero, with the velocity it leads to and the distance it takes. -/
def zeroAcc (w u : Rat) (l : Lim) : Ph × Rat × Rat :=
  let t0 := |u| / l.j
  let j0 := -(sgnR u) * l.j
  (⟨j0, t0, if 0 ≤ u then 3 else 7⟩, max 0 (w + u * t0 + j0 * t0 * t0 / 2), w * t0 + u * t0 * t0 / 2 + j0 * t0 * t0 * t0 / 6)

/-- From `w`, `u` an exit velocity of at most `ve` can be reached within `dist`: the stop distance of R106 where the motion
decelerates too hard to be turned before rest. -/
def canReach (w u dist ve : Rat) (l : Lim) : Bool :=
  if hardDecel w u l then decide (phDist w u (runDown w u l).1 ≤ dist + slack)
  else
    let (_, v', d0) := zeroAcc w u l
    if v' ≤ ve then decide (d0 ≤ dist + slack)
    else decide (phDist w u (levelTo w u (topLevel w u ve l) ve l) ≤ dist + slack)

/-- Forward re-plan along the motion (R104, R106), where `canReach`: bring the acceleration to zero, then move on;
where that would carry past the exit, decelerate at the level that leaves at it. A deceleration that the limits cannot
turn round before rest comes to rest under a raised jerk. Answers the phases and the exit velocity. -/
def forwardPh (w u dist ve cap : Rat) (l : Lim) : List Ph × Rat :=
  if hardDecel w u l then
    let ps := (runDown w u l).1
    let left := max 0 (dist - phDist w u ps)
    let ve' := min ve (maxVel 0 left ve l)
    (ps ++ movePh 0 left ve' cap l, ve')
  else
    let (p0, v', d0) := zeroAcc w u l
    let left := max 0 (dist - d0)
    let ve' := if v' ≤ ve then min ve (maxVel v' left ve l) else ve
    if v' ≤ ve ∨ rampDist v' ve l ≤ left then (p0 :: movePh v' left ve' cap l, ve')
    else
      let hi := topLevel w u ve l
      let δ := bisect (fun δ => decide (phDist w u (levelTo w u (hi - δ) ve l) ≤ dist)) 48 0 (hi * (1 - 1 / 2 ^ 40))
      (levelTo w u (hi - δ) ve l, ve)

/-- An entry as the planner sees it: target, cruise by direction (true = increasing) and BLEND. -/
structure PEnt where
  tgt : Rat
  cap : Bool → Rat
  blend : Bool

/-- Exit velocities of entries from the last to the first: the backward pass of R103. `s` is the sign of the
entry's motion, start positions run along the list. Answers one exit velocity for each entry. -/
def backward (lim : Bool → Lim) : Rat → List PEnt → List Rat
  | _, [] => []
  | _, [_] => [0]
  | x, e :: n :: rest =>
    let outs := backward lim e.tgt (n :: rest)
    let s := sgnR (e.tgt - x)
    let s' := sgnR (n.tgt - e.tgt)
    let up := decide (0 < s')
    let v := if e.blend ∧ s = s' ∧ s ≠ 0 then
        maxVel (outs.headD 0) |n.tgt - e.tgt| (min (e.cap up) (n.cap up)) (lim up) else 0
    v :: outs

/-- Plan entries one after another from rest or a joint velocity `w` along the sign of the first entry
(forward pass of R103). -/
def planRun (lim : Bool → Lim) : Nat → Rat → Rat → List PEnt → List Rat → List Seg
  | _, _, _, [], _ => []
  | n, x, w, e :: rest, outs =>
    let s := sgnR (e.tgt - x)
    let up := decide (0 < s)
    let dist := |e.tgt - x|
    let ve := maxVel w dist (outs.headD 0) (lim up)
    let ps := (movePh w dist ve (e.cap up) (lim up)).map (fun p => { p with j := s * p.j })
    (layOut n ⟨x, s * w, 0⟩ ps).1 ++ planRun lim (n + 1) e.tgt ve rest outs.tail

/-- Put the segments that lie beyond the joint at `x` (motion of sign `s`) into the next entry. -/
def splitAt (s x : Rat) : List Seg → List Seg
  | [] => []
  | g :: rest =>
    let pos := fun t => s * (((⟨g.x, g.v, g.a⟩ : Kin).at g.j t).x - x)
    if pos g.dur ≤ 0 then g :: splitAt s x rest
    else
      let t := bisect (fun t => decide (pos t ≤ 0)) 48 0 g.dur
      let k := (⟨g.x, g.v, g.a⟩ : Kin).at g.j t
      let after := ({ g with x := k.x, v := k.v, a := k.a, dur := g.dur - t } :: rest).map (fun h => { h with ent := h.ent + 1 })
      if t ≤ 0 then after else { g with dur := t } :: after

/-- Plan entries from a state in motion of sign `s` without a run-down (R104): the running entry to its corner velocity;
where that can no longer be reached and the queue goes on in the same direction, past the joint to the next one. `none`
where the motion cannot come to rest at a joint that it must not pass. -/
def planChain (lim : Bool → Lim) (s : Rat) (k : Kin) : Nat → List PEnt → List Rat → Option (List Seg)
  | 0, _, _ => none
  | _, [], _ => none
  | n + 1, e :: rest, outs =>
    let up := decide (0 < s)
    let dist := s * (e.tgt - k.x)
    let ve := outs.headD 0
    if 0 ≤ dist ∧ canReach (s * k.v) (s * k.a) dist ve (lim up) then
      let (ps, out) := forwardPh (s * k.v) (s * k.a) dist ve (e.cap up) (lim up)
      some ((layOut 0 k (ps.map (fun p => { p with j := s * p.j }))).1 ++ planRun lim 1 e.tgt out rest outs.tail)
    else
      match rest with
      | [] => none
      | f :: fs =>
        if e.blend ∧ 0 < s * (f.tgt - e.tgt) then
          let both : PEnt := { f with cap := fun u => min (e.cap u) (f.cap u) }
          (planChain lim s k n (both :: fs) outs.tail).map (splitAt s e.tgt)
        else none

/-- The plan of a queue from the present position, velocity and acceleration (R104, R106). `rd` gives the
limits of a run-down. Answers the segments, whether a run-down comes first, and whether LIMITED is set. -/
def planQueue (lim : Bool → Lim) (rd : Bool → Lim) (k : Kin) (es : List PEnt) : List Seg × Bool × Bool :=
  match es with
  | [] => ([], false, false)
  | e :: _ =>
    let s := if k.v ≠ 0 then sgnR k.v else sgnR k.a
    if s = 0 then (planRun lim 0 k.x 0 es (backward lim k.x es), false, false)
    else
      let up := decide (0 < s)
      match planChain lim s k 9 es (backward lim k.x es) with
      | some ss => (ss, false, (runDown (s * k.v) (s * k.a) (lim up)).2)
      | none =>
        let (ps, raised) := runDown (s * k.v) (s * k.a) (rd up)
        let r := layOut 15 k (ps.map (fun p => { p with j := s * p.j }))
        let x1 := r.2.x
        (r.1 ++ planRun lim 0 x1 0 es (backward lim x1 es), true, raised || decide (0 < s * (e.tgt - k.x)))

/-- A run-down to rest with nothing after it (STOP, QSTOP, homing stops). -/
def planStop (rd : Bool → Lim) (k : Kin) : List Seg × Bool :=
  let s := if k.v ≠ 0 then sgnR k.v else sgnR k.a
  if s = 0 then ([], false)
  else
    let (ps, raised) := runDown (s * k.v) (s * k.a) (rd (decide (0 < s)))
    ((layOut 15 k (ps.map (fun p => { p with j := s * p.j }))).1, raised)

/-- Advance along a plan by `t` seconds from `clk` into its first segment. -/
def advance : List Seg → Rat → Rat → List Seg × Rat
  | [], _, _ => ([], 0)
  | s :: rest, clk, t => if s.dur ≤ clk + t then advance rest 0 (clk + t - s.dur) else (s :: rest, clk + t)

/-- The first `t` seconds of a plan. -/
def firstPart : List Seg → Rat → List Seg
  | [], _ => []
  | s :: rest, t => if t ≤ 0 then [] else if s.dur ≤ t then s :: firstPart rest (t - s.dur) else [{ s with dur := t }]

/-- The plan at its present instant; `none` once it has ended. -/
def planAt : List Seg → Rat → Option Kin
  | [], _ => none
  | s :: _, clk => some ((⟨s.x, s.v, s.a⟩ : Kin).at s.j clk)

/-- The time a plan still takes. -/
def planLeft : List Seg → Rat → Rat
  | [], _ => 0
  | ss, clk => (ss.map (·.dur)).sum - clk

/-- The stop distance from `v` at no acceleration under given limits (R117). -/
def stopDist (v : Rat) (l : Lim) : Rat := phDist v 0 (runDown v 0 l).1

end Sys2Proof.Machine
end

