-- ==== Sys2Proof/Machine/Float.lean ====
section
/-!
DEFINITION. binary32 arithmetic as R240 and R241 restrict it: round to nearest even, subnormals read and
written as zero of their sign, one NaN, no traps. Values are exact rationals between rounding steps.
-/

namespace Sys2Proof.Machine

/-- A binary32 operand as R240 reads it. -/
inductive FVal where
  | nan
  | inf (neg : Bool)
  | zero (neg : Bool)
  | num (q : Rat)
  deriving DecidableEq, Repr

/-- Powers of two with integer exponents. -/
def pow2 (e : Int) : Rat := if 0 ≤ e then ((2 ^ e.toNat : Nat) : Rat) else 1 / ((2 ^ (-e).toNat : Nat) : Rat)

/-- Nearest integer, ties to even. -/
def rne (q : Rat) : Int :=
  let f := q.floor
  let r := q - (f : Rat)
  if r < 1 / 2 then f else if 1 / 2 < r then f + 1 else if f % 2 = 0 then f else f + 1

/-- Read a word; a subnormal is zero of its sign. -/
def FVal.ofWord (w : Word) : FVal :=
  let neg := bit w 31
  let e := fld w 30 23
  let m := fld w 22 0
  if e = 255 then (if m = 0 then .inf neg else .nan)
  else if e = 0 then .zero neg
  else
    let q : Rat := ((2 ^ 23 + m : Nat) : Rat) * pow2 ((e : Int) - 150)
    .num (if neg then -q else q)

/-- The exponent `e` with `2^e ≤ q < 2^(e+1)`, for `q > 0`. -/
def expOf (q : Rat) : Int :=
  let e : Int := (q.num.natAbs.log2 : Int) - (q.den.log2 : Int)
  if pow2 e ≤ q then (if pow2 (e + 1) ≤ q then e + 1 else e) else e - 1

/-- The word of a sign and a magnitude that is not 0 (R240 rounding, subnormals, overflow). -/
def packMag (neg : Bool) (q : Rat) : Word :=
  let s := if neg then 2 ^ 31 else 0
  let e := max (expOf q) (-126)
  let m := (rne (q * pow2 (23 - e))).toNat
  let (m, e) := if m = 2 ^ 24 then (2 ^ 23, e + 1) else (m, e)
  if m < 2 ^ 23 then wn s
  else if 127 < e then wn (s + 0x7F800000)
  else wn (s + (e + 127).toNat * 2 ^ 23 + (m - 2 ^ 23))

/-- Write a value. -/
def FVal.toWord : FVal → Word
  | .nan => 0x7FC00000#32
  | .inf neg => if neg then 0xFF800000#32 else 0x7F800000#32
  | .zero neg => if neg then 0x80000000#32 else 0
  | .num q => if q = 0 then 0 else packMag (decide (q < 0)) |q|

/-- Sign of a value that is not a NaN. -/
def FVal.neg : FVal → Bool
  | .nan => false | .inf n => n | .zero n => n | .num q => decide (q < 0)

/-- The exact value of a finite operand. -/
def FVal.rat : FVal → Rat
  | .num q => q | _ => 0

/-- Negation. -/
def FVal.negate : FVal → FVal
  | .nan => .nan | .inf n => .inf (!n) | .zero n => .zero (!n) | .num q => .num (-q)

/-- Exact sum. -/
def FVal.add : FVal → FVal → FVal
  | .nan, _ => .nan
  | _, .nan => .nan
  | .inf a, .inf b => if a = b then .inf a else .nan
  | .inf a, _ => .inf a
  | _, .inf b => .inf b
  | .zero a, .zero b => .zero (a && b)
  | .zero _, .num q => .num q
  | .num q, .zero _ => .num q
  | .num p, .num q => if p + q = 0 then .zero false else .num (p + q)

/-- Exact product. -/
def FVal.mul : FVal → FVal → FVal
  | .nan, _ => .nan
  | _, .nan => .nan
  | .inf _, .zero _ => .nan
  | .zero _, .inf _ => .nan
  | .inf a, b => .inf (a != b.neg)
  | a, .inf b => .inf (a.neg != b)
  | .zero a, b => .zero (a != b.neg)
  | a, .zero b => .zero (a.neg != b)
  | .num p, .num q => .num (p * q)

/-- FADD, FSUB, FMUL, FMA, FMS (R240, R242). -/
def fadd (a b : Word) : Word := ((FVal.ofWord a).add (FVal.ofWord b)).toWord
def fsub (a b : Word) : Word := ((FVal.ofWord a).add (FVal.ofWord b).negate).toWord
def fmul (a b : Word) : Word := ((FVal.ofWord a).mul (FVal.ofWord b)).toWord
def fma (d a b : Word) : Word := ((FVal.ofWord d).add ((FVal.ofWord a).mul (FVal.ofWord b))).toWord
def fms (d a b : Word) : Word := ((FVal.ofWord d).add ((FVal.ofWord a).mul (FVal.ofWord b)).negate).toWord
/-- Sign flip. -/
def fneg (a : Word) : Word := (FVal.ofWord a).negate.toWord
/-- Magnitude. -/
def fabs (a : Word) : Word := if (FVal.ofWord a).neg then fneg a else (FVal.ofWord a).toWord

/-- `a < b` and `a ≤ b` of values that are no NaNs. -/
def FVal.lt : FVal → FVal → Bool
  | .nan, _ => false
  | _, .nan => false
  | .inf a, .inf b => a && !b
  | .inf a, _ => a
  | _, .inf b => !b
  | a, b => decide (a.rat < b.rat)
def FVal.eq : FVal → FVal → Bool
  | .nan, _ => false
  | _, .nan => false
  | .inf a, .inf b => a == b
  | .inf _, _ => false
  | _, .inf _ => false
  | a, b => decide (a.rat = b.rat)

/-- FCEQ, FCLT, FCLE (R240). -/
def fceq (a b : Word) : Bool := (FVal.ofWord a).eq (FVal.ofWord b)
def fclt (a b : Word) : Bool := (FVal.ofWord a).lt (FVal.ofWord b)
def fcle (a b : Word) : Bool := fclt a b || fceq a b

/-- FMIN and FMAX: the other operand where exactly one is a NaN (R240); of two zeros of opposite signs either one
(log 16). -/
def fmin (a b : Word) : Word :=
  match FVal.ofWord a, FVal.ofWord b with
  | .nan, y => y.toWord
  | x, .nan => x.toWord
  | .zero m, .zero n => (FVal.zero (if Config.zeroPick 0 a b then m else n)).toWord
  | x, y => if y.lt x then y.toWord else x.toWord
def fmax (a b : Word) : Word :=
  match FVal.ofWord a, FVal.ofWord b with
  | .nan, y => y.toWord
  | x, .nan => x.toWord
  | .zero m, .zero n => (FVal.zero (if Config.zeroPick 1 a b then m else n)).toWord
  | x, y => if x.lt y then y.toWord else x.toWord

/-- A relative error within 2⁻¹⁴ less what rounding adds (R240, log 3). -/
def estErr (op : Nat) (w : Word) : Rat := ((max (-65400) (min 65400 (Config.estimateError op w)) : Int) : Rat) / 2 ^ 30

/-- FRCP (R240). -/
def frcp (a : Word) : Word :=
  match FVal.ofWord a with
  | .nan => FVal.nan.toWord
  | .inf n => (FVal.zero n).toWord
  | .zero n => (FVal.inf n).toWord
  | .num q => (FVal.num (1 / q * (1 + estErr 0x32 a))).toWord

/-- Reciprocal square root of a positive rational: scaled by a power of 4 into [1, 4), then within 2⁻⁴⁰. -/
def rsqrtR (q : Rat) : Rat :=
  let k := (expOf q) / 2
  1 / sqrtR (q * pow2 (-2 * k)) * pow2 (-k)

/-- FRSQ (R240); FRSQ of −0 follows IEEE 754, −infinity (log 26). -/
def frsq (a : Word) : Word :=
  match FVal.ofWord a with
  | .nan => FVal.nan.toWord
  | .inf n => if n then FVal.nan.toWord else 0
  | .zero n => (FVal.inf n).toWord
  | .num q => if q < 0 then FVal.nan.toWord else (FVal.num (rsqrtR q * (1 + estErr 0x33 a))).toWord

/-- CVTXF (R241): a signed value with `k` fraction bits. -/
def cvtxf (i : Int) (k : Nat) : Word := (if i = 0 then FVal.zero false else .num ((i : Rat) / 2 ^ k)).toWord
/-- CVTFX and CVTFXR (R241). -/
def cvtfxBy (round : Rat → Int) (a : Word) (k : Nat) : Word :=
  match FVal.ofWord a with
  | .nan => 0
  | .inf n => if n then 0x80000000#32 else 0x7FFFFFFF#32
  | .zero _ => 0
  | .num q => wi (satS 32 (round (q * 2 ^ k)))
def cvtfx (a : Word) (k : Nat) : Word := cvtfxBy Rat.floor a k
def cvtfxr (a : Word) (k : Nat) : Word := cvtfxBy rne a k

/-- The binary32 nearest a rational. -/
def fofRat (q : Rat) : Word := (if q = 0 then FVal.zero false else .num q).toWord
/-- The value of a word; 0 for a NaN or an infinity. -/
def ftoRat (w : Word) : Rat := (FVal.ofWord w).rat

/-- A reciprocal refined by one Newton step of two FMA words, as the standard programs divide (R240). -/
def frecip (b : Word) : Word :=
  let x := frcp b
  let e := fms 0x3F800000#32 b x
  fma x x e
/-- Division by a refined reciprocal. -/
def fdiv (a b : Word) : Word := fmul a (frecip b)

/-- A value clamped to ±`lim`: FMAX(FMIN(x, hi), lo). -/
def fclamp (x lo hi : Word) : Word := fmax (fmin x hi) lo

end Sys2Proof.Machine
end

