-- ==== Sys2Proof/Machine/Sinc3.lean ====
section
/-!
DEFINITION. Arithmetic of the front ends' hard logic: the sinc3 filter of a sigma-delta bitstream (spec/06 R145,
spec/08 R193) and the 16-bit cosine of the coil references (spec/08 R194).
-/

namespace Sys2Proof.Machine

/-- The number of pairs of naturals with sum below `n`. -/
def tri (n : Nat) : Nat := n * (n + 1) / 2

/-- Weight of the sample `i` clocks before the newest in a sinc3 filter of ratio `n`: the third convolution power of
a window of `n` ones. -/
def sincWeight (n i : Nat) : Nat := if 3 * n ≤ i + 2 then 0 else (tri (i + 1) + 3 * tri (i + 1 - 2 * n)) - 3 * tri (i + 1 - n)

/-- The raw output r of a bitstream, newest first: from 0 to n³ (R145). -/
def sincRaw (n : Nat) (bits : List Bool) : Nat :=
  (bits.zipIdx.map (fun p => if p.1 then sincWeight n p.2 else 0)).sum

/-- q = (2r − n³) ÷ n³ (R145). -/
def sincQ (n : Nat) (bits : List Bool) : Rat :=
  if n = 0 then 0 else ((2 * sincRaw n bits : Nat) - (n ^ 3 : Nat) : Rat) / (n ^ 3 : Nat)

/-- q in Q1.31, saturating at 7FFF_FFFFh (R145); a value between two steps is one of the two (log 42). -/
def Dev.sincWord (d : Dev) (site n : Nat) (bits : List Bool) : Word := wi (min 0x7FFFFFFF (d.near (sincQ n bits * 2 ^ 31) site))

/-- Terms of the cosine series in units of 2⁻⁶⁰ for x² in those units, the term for `k` given, `f` more to come. -/
def cosTerms (x2 : Int) : Nat → Nat → Int → Int
  | 0, _, _ => 0
  | f + 1, k, term => term + cosTerms x2 f (k + 1) (-(term * x2 / 2 ^ 60) / (((2 * k + 1) * (2 * k + 2) : Nat) : Int))

/-- Cosine of `alpha` × 2⁻³⁰ quarter turns, in units of 2⁻⁶⁰, from its series. -/
def cosFx (alpha : Nat) : Int :=
  let x : Int := (alpha * 1811004864519280710 / 2 ^ 30 : Nat)   -- π/2 in units of 2⁻⁶⁰
  cosTerms (x * x / 2 ^ 60) 14 0 (2 ^ 60)

/-- Magnitude of the cosine to 16 bits, in units of 2⁻¹⁵: exact at its ends, elsewhere one of the two values beside it,
the same for the same angle (R194, log 125). -/
def cos16 (alpha : Nat) : Nat :=
  if alpha = 0 then 2 ^ 15 else if 2 ^ 30 ≤ alpha then 0
  else (cosFx alpha / 2 ^ 45).toNat + (if Config.refRound alpha then 1 else 0)

/-- The angle of the first quadrant with the same magnitude of the cosine as `th`, 2³² to the turn, in units of 2⁻³⁰
quarter turns. -/
def foldAngle (th : Word) : Nat :=
  let r := th.toNat % 2 ^ 31
  if r ≤ 2 ^ 30 then r else 2 ^ 31 - r

/-- Sign of the cosine of an angle; the sine's is that of the angle less a quarter turn. -/
def cosSign (th : Word) : Int :=
  let t := th.toNat
  if t = 2 ^ 30 ∨ t = 3 * 2 ^ 30 then 0 else if t < 2 ^ 30 ∨ 3 * 2 ^ 30 < t then 1 else -1

end Sys2Proof.Machine
end

