-- ==== Sys2Proof/Machine/Sequencer.lean ====
section
/-!
DEFINITION. The microstep sequencer and the coil references of a step axis (spec/08 R192, R194, R195, R199): what
runs between two strobe instants without a command. A microstep comes about when the next command that can see it
runs, at its own instant.
-/

namespace Sys2Proof.Machine

/-- M = 2^MRES (R194). -/
def Dev.mres (d : Dev) (n : Stx) : Nat := 2 ^ d.rdF (Reg.STX_CFG n) 2 0

/-- The bridges are on: enabled, not silenced, driven by this member, in RUN (R198, R207, R380). -/
def Dev.bridgesOn (d : Dev) (n : Stx) : Bool :=
  decide (d.pwr.st = .run) && d.rdB (Reg.STX_CTRL n) 0 && !d.stepd[n].silenced && d.drivesAx (Stx.axis n)

/-- Electrical angle of an issued count, 2³² to the turn (R194). -/
def Dev.stepAngle (d : Dev) (n : Stx) (m : Int) : Word :=
  let m := if d.rdB (Reg.STX_CFG n) 5 then -m else m
  let r := d.mres n
  if r = 1 then wi (2 ^ 29 + m * 2 ^ 30) else wi (m * 2 ^ 30 / r)

/-- A coil reference I × cos θ (R194): a cosine of 16 bits times the current. -/
def refWord (i th : Word) : Word := fmul i (fofRat ((cosSign th : Rat) * cos16 (foldAngle th) / 2 ^ 15))

/-! ### A coil's bridge state (R192, R197, R200) -/

/-- The time since `mark` is counted for the voltage that the coil sees (R200). -/
def Coil.account (c : Coil) (now : Nat) : Coil :=
  let dt := now - c.mark
  match c.phase with
  | .blank | .on => { c with mark := now, hi := c.hi + (if c.plus then dt else 0), lo := c.lo + (if c.plus then 0 else dt) }
  | .fast => { c with mark := now, hi := c.hi + (if c.plus then 0 else dt), lo := c.lo + (if c.plus then dt else 0) }
  | .slow | .off => { c with mark := now }

/-- An on phase starts, blanking first. -/
def Coil.start (c : Coil) (plus : Bool) (now : Nat) : Coil :=
  { c.account now with phase := .blank, plus := plus, onAt := now }

/-- The off-time starts, with fast decay where FD is not 0. -/
def Coil.turnOff (c : Coil) (fd now : Nat) : Coil :=
  { c.account now with phase := if fd = 0 then .slow else .fast, offAt := now }

/-- A coil obeys a new reference sign (R197): at 0 it is in slow decay; a change of sign ends an on phase with an
ordinary off-time; a coil that was off, or whose off-time ran out at a reference of 0, starts an on phase. -/
def Coil.follow (c : Coil) (s : Int) (fd toff now : Nat) : Coil :=
  let plus := decide (0 < s)
  match c.phase with
  | .off => if s = 0 then { c.account now with phase := .slow, offAt := now } else { c.start plus now with shorts := 0 }
  | .blank | .on =>
    if s = 0 then { c.account now with phase := .slow, offAt := now } else if c.plus = plus then c else c.turnOff fd now
  | .fast => if s = 0 then { c.account now with phase := .slow } else c
  | .slow => if s ≠ 0 ∧ c.offAt + toff ≤ now then c.start plus now else c

/-- FD of CHOP_CFG. -/
def Dev.fd (d : Dev) (n : Stx) : Nat := d.rdF (Reg.STX_CHOP_CFG n) 20 16
/-- TOFF and BLANK in 5 ns units. -/
def Dev.toffT (d : Dev) (n : Stx) : Nat := 100 * d.rdF (Reg.STX_CHOP_CFG n) 6 0
def Dev.blankT (d : Dev) (n : Stx) : Nat := 50 * d.rdF (Reg.STX_CHOP_CFG n) 12 8

/-- References in force from the issued count, and the coils' reaction at `now` (R194, R199, R207). -/
def Dev.stepRefsAt (d : Dev) (n : Stx) (now : Nat) : Dev :=
  if d.bridgesOn n then
    let th := d.stepAngle n d.stepd[n].issued
    let i := d.rd (Reg.STX_I_RUN n)
    let i := if d.rdB (Reg.STX_STATUS n) 1 then fmul i (fofRat ((d.rdF (Reg.STX_CUR_CFG n) 23 16 : Rat) / 100)) else i
    let tb := th - 0x40000000#32
    let d := (d.wr (Reg.STX_REF_AB n 0) (refWord i th)).wr (Reg.STX_REF_AB n 1) (refWord i tb)
    (d.modStep n (fun s => { s with
      coilA := s.coilA.follow (cosSign th) (d.fd n) (d.toffT n) now
      coilB := s.coilB.follow (cosSign tb) (d.fd n) (d.toffT n) now })).wrB (Reg.STX_STATUS n) 0 true
  else
    let off := fun (c : Coil) => { c.account now with phase := .off, shorts := 0 }
    let d := (d.wr (Reg.STX_REF_AB n 0) 0).wr (Reg.STX_REF_AB n 1) 0
    (d.modStep n (fun s => { s with coilA := off s.coilA, coilB := off s.coilB })).wrB (Reg.STX_STATUS n) 0 false

/-- The references at the present time. -/
def Dev.stepRefs (d : Dev) (n : Stx) : Dev := d.stepRefsAt n d.now

/-! ### The sequencer (R195) -/

/-- Microsteps of the current period due by `now`: the i-th of k comes (2i − 1) P ÷ 2k after its strobe. -/
def Dev.stepsDue (d : Dev) (n : Stx) (now : Nat) : Nat :=
  let s := d.stepd[n]
  let k := s.seqBy.natAbs
  if d.pwmP = 0 then k else min k ((2 * k * (now - s.seqT0) / d.pwmP + 1) / 2)

/-- The instant of microstep `i` of the period, on the 5 ns grid. -/
def Dev.stepTime (d : Dev) (n : Stx) (i : Nat) : Nat :=
  let k := d.stepd[n].seqBy.natAbs
  d.stepd[n].seqT0 + ((2 * i - 1) * d.pwmP + 2 * k - 1) / (2 * k)

/-- One microstep (R195, R199): the issued count, STEPS_ISSUED, the standstill timer and the references. -/
def Dev.microstep (d : Dev) (n : Stx) : Dev :=
  let s := d.stepd[n]
  let t := d.stepTime n (s.seqDone + 1)
  let k : Int := s.seqDone + 1
  let m := s.seqFrom + (if 0 ≤ s.seqBy then k else -k)
  let d := d.modStep n (fun s => { s with issued := m, seqDone := s.seqDone + 1, standAt := t, stood := false })
  ((d.wr (Reg.STX_STEPS_ISSUED n) (wi (m - s.origin))).wrB (Reg.STX_STATUS n) 1 false).stepRefsAt n t

/-- `k` microsteps, one after the other. -/
def Dev.microstepRun (d : Dev) (n : Stx) : Nat → Dev
  | 0 => d
  | k + 1 => (d.microstep n).microstepRun n k

/-- The sequencer up to the present time. -/
def Dev.sequence (d : Dev) (n : Stx) : Dev := d.microstepRun n (d.stepsDue n d.now - d.stepd[n].seqDone)

/-- Every axis's sequencer up to the present time, as a host read finds it (R195, log 32). -/
def Dev.sequenceNow (d : Dev) : Dev := stxes.foldl Dev.sequence d

/-- Every microstep of the period that a strobe instant ends. -/
def Dev.sequenceAll (d : Dev) (n : Stx) : Dev := d.microstepRun n (d.stepd[n].seqBy.natAbs - d.stepd[n].seqDone)

/-- The sequencer stands: nothing more is issued before the next strobe instant. -/
def Dev.sequenceStop (d : Dev) (n : Stx) : Dev := d.modStep n (fun s => { s with seqFrom := s.issued, seqBy := 0, seqDone := 0 })

/-- A current period starts whose microsteps take the issued count to `m`. -/
def Dev.sequenceTo (d : Dev) (n : Stx) (m : Int) : Dev :=
  d.modStep n (fun s => { s with seqFrom := s.issued, seqBy := m - s.issued, seqDone := 0, seqT0 := d.now })

end Sys2Proof.Machine
end

