-- ==== Sys2Proof/Machine/Motion.lean ====
section
/-!
DEFINITION. The profile generators (spec/04): set-points, limits and the governor, the queue and its
requests, coordinated plug entries, compares, the position latch, homing, and the displacement ledger.
-/

namespace Sys2Proof.Machine

/-! ### Axis facts -/

/-- The step axis of a generator, if it is one. -/
def stxOf (a : Axis) : Option Stx := if h : 16 ≤ a.val then some ⟨a.val - 16, by omega⟩ else none
/-- The servo axis of a generator, if it is one. -/
def saxOf (a : Axis) : Option Sax := if h : a.val < 16 then some ⟨a.val, h⟩ else none

/-- CTRL.EN of the axis (R93). -/
def Dev.axEn (d : Dev) (a : Axis) : Bool :=
  match stxOf a with
  | some n => d.rdB (Reg.STX_CTRL n) 0
  | none => d.rdB (Reg.SAX_CTRL a) 0

/-- The count of a channel as R33 latches it: COUNT + ALIGN (R128). -/
def Dev.encCount (d : Dev) (c : Enc) : Int := (d.rd (Reg.ENC_COUNT c) + d.rd (Reg.ENC_ALIGN c)).toInt

/-- The axis position's integer part (R89), live. -/
def Dev.posInt (d : Dev) (a : Axis) : Int :=
  let base := match stxOf a with
    | some n => d.stepd[n].issued
    | none => d.encCount a
  (wi base + d.rd (Reg.MOT_POS_OFFSET a)).toInt

/-- The same as it stood at the last strobe instant: what the programs' tasks read (R33, R250). -/
def Dev.posSnap (d : Dev) (a : Axis) : Int :=
  let base := match stxOf a with
    | some n => wi d.stepd[n].issuedSnap
    | none => d.sn (Reg.ENC_COUNT a) + d.sn (Reg.ENC_ALIGN a)
  (base + d.sn (Reg.MOT_POS_OFFSET a)).toInt

/-- Motion in increasing direction (`up`) is toward closed (R90). -/
def Dev.closing (d : Dev) (a : Axis) (up : Bool) : Bool := up != d.rdB (Reg.MOT_MCFG a) 2
/-- MCFG.MODE is FOLLOW. -/
def Dev.follow (d : Dev) (a : Axis) : Bool := d.rdF (Reg.MOT_MCFG a) 1 0 == 1

/-- Velocity limit of a direction (R90, R99). -/
def Dev.limV (d : Dev) (a : Axis) (up : Bool) : Rat :=
  ((d.rd (if d.closing a up then Reg.MOT_LIM_C_V a else Reg.MOT_LIM_O_V a)).toNat : Rat)
/-- Acceleration and jerk limits of a direction. -/
def Dev.lim (d : Dev) (a : Axis) (up : Bool) : Lim :=
  if d.closing a up then ⟨((d.rd (Reg.MOT_LIM_C_A a)).toNat : Rat), ((d.rd (Reg.MOT_LIM_C_J a)).toNat : Rat)⟩
  else ⟨((d.rd (Reg.MOT_LIM_O_A a)).toNat : Rat), ((d.rd (Reg.MOT_LIM_O_J a)).toNat : Rat)⟩
/-- Run-down limits: STOP_A and STOP_J where asked for and non-zero, else the direction's (R105, R106). -/
def Dev.rdLim (d : Dev) (a : Axis) (quick : Bool) (up : Bool) : Lim :=
  let l := d.lim a up
  let sa := (d.rd (Reg.MOT_STOP_A a)).toNat
  let sj := (d.rd (Reg.MOT_STOP_J a)).toNat
  ⟨if quick && sa != 0 then sa else l.a, if quick && sj != 0 then sj else l.j⟩

/-- The limits of the axis have been committed (R96): none of the six is 0. -/
def Dev.limitsSet (d : Dev) (a : Axis) : Bool :=
  [Reg.MOT_LIM_O_V a, Reg.MOT_LIM_O_A a, Reg.MOT_LIM_O_J a, Reg.MOT_LIM_C_V a, Reg.MOT_LIM_C_A a,
    Reg.MOT_LIM_C_J a].all (fun r => d.rd r != 0)

/-- The governor speed of a direction (R100), 0 where it does not apply. -/
def Dev.governor (d : Dev) (a : Axis) (up : Bool) : Rat := if d.closing a up then d.mot[a].vKeC else d.mot[a].vKeO
/-- v_KE from SCALE, a cap in 0.1 J and a mass in 0.1 kg; 0 = no governor (R100). -/
def vKe (scale cap mass : Nat) : Rat :=
  if cap = 0 ∨ mass = 0 then 0 else (scale : Rat) / 65536 * 1000 * sqrtR (2 * cap / mass)
/-- The governor is computed at commit (R100). -/
def Dev.setGovernor (d : Dev) (a : Axis) : Dev :=
  let sc := (d.rd (Reg.MOT_SCALE a)).toNat
  let m := d.rdF (Reg.MOT_MASS a) 15 0
  d.modMot a (fun x => { x with
    vKeO := vKe sc (d.rdF (Reg.MOT_KE_CAP a) 31 16) m, vKeC := vKe sc (d.rdF (Reg.MOT_KE_CAP a) 15 0) m })

/-- SPEED/256 of the velocity limit; never beyond the limit (R99). -/
def Dev.speedV (d : Dev) (a : Axis) (speed : Nat) (up : Bool) : Rat := (min speed 256 : Nat) * d.limV a up / 256
/-- The cruise speed of an uncoordinated entry (R99, R116). -/
def Dev.cruise (d : Dev) (a : Axis) (e : Entry) (up : Bool) : Rat :=
  let v := match e.vcap with
    | some c => min (c : Rat) (d.limV a up)
    | none => d.speedV a e.speed up
  let g := d.governor a up
  if 0 < g then min v g else v
/-- The governor lowers this entry's cruise (R100). -/
def Dev.clamped (d : Dev) (a : Axis) (e : Entry) (up : Bool) : Bool :=
  decide (0 < d.governor a up ∧ d.governor a up < d.speedV a e.speed up) && e.vcap.isNone

/-! ### Coordinated plug entries (R108 to R110) -/

/-- The swing axis of the enabled PLUG portal whose slide axis this is (R108). -/
def Dev.swingOf (d : Dev) (a : Axis) : Option Axis :=
  match saxOf a with
  | none => none
  | some n =>
    match slots.find? (fun p => d.ptype p == 1 && d.slideAx p == some n) with
    | none => none
    | some p => (d.swingAx p).map Sax.axis

/-- Scale a plan's contribution: the displacement of one axis for a path plan. -/
def scaleSegs (k x0 : Rat) (ss : List Seg) : List Seg :=
  ss.map (fun s => { s with x := x0 + k * s.x, v := k * s.v, a := k * s.a, j := k * s.j })

/-- Two plans that run at once, as one plan: positions of the second count as displacements from its start
(R110), and what it contributes is kept with the sum. Where the first has ended, the second goes on from `off`. `n` bounds
the number of pieces. -/
def sumSegs : Nat → List Seg → Rat → List Seg → Rat → Rat → List Seg
  | 0, _, _, _, _, _ => []
  | n + 1, [], _, t :: ts, ct, off =>
    let k := (⟨t.x, t.v, t.a⟩ : Kin).at t.j ct
    ⟨off + k.x, k.v, k.a, t.j, t.dur - ct, t.ent, t.phase, none⟩ :: sumSegs n [] 0 ts 0 off
  | _ + 1, ss, _, [], _, _ => ss
  | n + 1, s :: ss, cs, t :: ts, ct, off =>
    let ks := (⟨s.x, s.v, s.a⟩ : Kin).at s.j cs
    let kt := (⟨t.x, t.v, t.a⟩ : Kin).at t.j ct
    let dt := min (s.dur - cs) (t.dur - ct)
    let here : Seg := ⟨ks.x + kt.x, ks.v + kt.v, ks.a + kt.a, s.j + t.j, dt, s.ent, s.phase, some ⟨kt.x, kt.v, kt.a, t.j⟩⟩
    here :: (if s.dur - cs ≤ t.dur - ct then
        (if t.dur - ct ≤ s.dur - cs then sumSegs n ss 0 ts 0 off else sumSegs n ss 0 (t :: ts) (ct + dt) off)
      else sumSegs n (s :: ss) (cs + dt) ts 0 off)

/-- The part of a phase that belongs to the running entry itself. -/
def Seg.own (g : Seg) : Seg := match g.fol with
  | none => g
  | some o => { g with x := g.x - o.x, v := g.v - o.v, a := g.a - o.a, j := g.j - o.j, fol := none }

/-- The entries after the running one have started in this phase, by superposition. -/
def Seg.overlaps (g : Seg) : Bool := g.fol.any (fun o => decide (o.v ≠ 0 ∨ o.a ≠ 0 ∨ o.j ≠ 0))

/-- What a queue plan answers: the plans of the slide and of the swing. -/
structure Both where
  slide : List Seg
  swing : List Seg
  deriving DecidableEq, Repr

/-- A pause at `x` for `dur`. -/
def holdSeg (x dur : Rat) (ent : Nat) : List Seg := if dur ≤ 0 then [] else [⟨x, 0, 0, 0, dur, ent, 0, none⟩]

/-- Total time of a plan. -/
def segsDur (ss : List Seg) : Rat := (ss.map (·.dur)).sum
/-- Where a plan ends. -/
def segsEnd (x : Rat) (ss : List Seg) : Rat :=
  match ss.getLast? with
  | none => x
  | some s => ((⟨s.x, s.v, s.a⟩ : Kin).at s.j s.dur).x

/-- What R109 fixes of a COORD entry from the present states of slide and swing: the master's length, what a count of it
moves on slide and swing, the path's cruise without and with the governor, and its limits. -/
structure CoordPath where
  dist : Rat
  ks : Rat
  kw : Rat
  plain : Rat
  cruise : Rat
  lim : Lim
  deriving DecidableEq, Repr

/-- The path of a COORD entry (R109). With moves of equal length the slide is master (log 121). -/
def Dev.coordPath (d : Dev) (a w : Axis) (e : Entry) (xs xw : Rat) : CoordPath :=
  let ds := (e.tgt : Rat) / 256 - xs
  let dw := (e.tgt2 : Rat) / 256 - xw
  let ss := max 1 ((d.rd (Reg.MOT_SCALE a)).toNat)
  let sw := max 1 ((d.rd (Reg.MOT_SCALE w)).toNat)
  let mmS := |ds| / ss
  let mmW := |dw| / sw
  let slideMaster := decide (mmW ≤ mmS)
  let (m, sl, dm, dsl) := if slideMaster then (a, w, ds, dw) else (w, a, dw, ds)
  let upM := decide (0 < dm)
  let upS := decide (0 < dsl)
  let r := if dm = 0 then 0 else |dsl| / |dm|
  let lm := d.lim m upM
  let ls := d.lim sl upS
  let low := fun (own slave : Rat) => if r = 0 then own else min own (slave / r)
  let v := low (d.speedV m e.speed upM) (d.speedV sl 256 upS)
  let mass := max (d.rdF (Reg.MOT_MASS a) 15 0) (d.rdF (Reg.MOT_MASS w) 15 0)
  let cap := if d.closing m upM then d.rdF (Reg.MOT_KE_CAP m) 15 0 else d.rdF (Reg.MOT_KE_CAP m) 31 16
  let g := vKe (d.rd (Reg.MOT_SCALE m)).toNat cap mass
  let rmm := if slideMaster then (if mmS = 0 then 0 else mmW / mmS) else (if mmW = 0 then 0 else mmS / mmW)
  let k := if dm = 0 then 0 else dsl / |dm|
  { dist := |dm|
    ks := if slideMaster then sgnR dm else k
    kw := if slideMaster then k else sgnR dm
    plain := v
    cruise := if 0 < g then min v (g / sqrtR (1 + rmm * rmm)) else v
    lim := ⟨low lm.a ls.a, low lm.j ls.j⟩ }

/-- The plans of slide and swing for a COORD entry from their present states, which move along its path; `none` where
the path cannot be ended at its targets from there. -/
def Dev.coordSegs (d : Dev) (a w : Axis) (e : Entry) (xs xw : Kin) (ent : Nat) : Option (List Seg × List Seg) :=
  let c := d.coordPath a w e xs.x xw.x
  let along := fun (s m : Rat) => if c.ks = 0 then (if c.kw = 0 then 0 else m / c.kw) else s / c.ks
  let v := along xs.v xw.v
  let u := along xs.a xw.a
  let lay := fun (ps : List Ph) =>
    let path := (layOut ent ⟨0, v, u⟩ ps).1
    some (scaleSegs c.ks xs.x path, scaleSegs c.kw xw.x path)
  if c.dist = 0 then some ([], [])
  else if v = 0 ∧ u = 0 then lay (movePh 0 c.dist 0 c.cruise c.lim)
  else if 0 ≤ v ∧ canReach v u c.dist 0 c.lim then lay (forwardPh v u c.dist 0 c.cruise c.lim).1
  else none

/-- Slide and swing move along the path of a COORD entry: their velocities and accelerations stand in its ratio (R109). -/
def Dev.onPath (d : Dev) (a w : Axis) (e : Entry) (xs xw : Kin) : Bool :=
  let c := d.coordPath a w e xs.x xw.x
  decide (xs.v * c.kw = xw.v * c.ks ∧ xs.a * c.kw = xw.a * c.ks ∧ 0 ≤ xs.v * c.ks ∧ 0 ≤ xw.v * c.kw)

/-- Start of phase 5 in a plan, and the time left from there. -/
def phase5 : List Seg → Rat × Rat
  | [] => (0, 0)
  | s :: ss => if 5 ≤ s.phase then (0, segsDur (s :: ss)) else (let r := phase5 ss; (s.dur + r.1, r.2))

/-- The first position tick at or after `t`. -/
def ceilTo (t period : Rat) : Rat := if period ≤ 0 then t else ((t / period).ceil : Rat) * period

/-- The limits left for the entries after a COORD entry while its remaining phases `ov` run (R110): those of the axis less
the largest magnitude that it contributes; velocity, and acceleration and jerk. -/
def Dev.leftOver (d : Dev) (a : Axis) (ov : List Seg) (up : Bool) : Rat × Lim :=
  let last := fun (g : Seg) => (⟨g.x, g.v, g.a⟩ : Kin).at g.j g.dur
  let vc := (ov.map (fun g => max |g.v| |(last g).v|)).foldl max 0
  let ac := (ov.map (fun g => max |g.a| |(last g).a|)).foldl max 0
  let jc := (ov.map (fun g => |g.j|)).foldl max 0
  let l := d.lim a up
  (d.limV a up - vc, ⟨l.a - ac, l.j - jc⟩)

/-- The slide-only run that follows a COORD entry by superposition (R110), from rest: its first ramp runs under limits
lowered by what the COORD entry contributes on the slide axis during the overlap. -/
def Dev.overlapRun (d : Dev) (a : Axis) (x : Rat) (es : List PEnt) (ov : List Seg) (tov : Rat) (ent : Nat) : List Seg :=
  match es with
  | [] => []
  | e :: rest =>
    let s := sgnR (e.tgt - x)
    let up := decide (0 < s)
    let l := d.lim a up
    let (vtop, low) := d.leftOver a ov up
    let outs := backward (d.lim a) x es
    let ve := outs.headD 0
    let dist := |e.tgt - x|
    let top := min (e.cap up) vtop
    if low.a ≤ 0 ∨ low.j ≤ 0 ∨ top ≤ 0 then
      holdSeg x tov ent ++ planRun (d.lim a) ent x 0 es outs
    else
      let need := fun v => rampDist 0 v low + v * max 0 (tov - (let (tj, ta) := rampTimes v low; ta + 2 * tj))
        + rampDist v (min v ve) l
      let v1 := if need top ≤ dist then top else bisect (fun v => decide (need v ≤ dist)) 48 0 top
      let r1 := rampPh 0 v1 low
      let t1 := (r1.map (·.dur)).sum
      let hold := max 0 (tov - t1)
      let d1 := rampDist 0 v1 low + v1 * hold
      let ve' := min ve (maxVel v1 (dist - d1) ve l)
      let ps := r1 ++ [⟨0, hold, 3⟩] ++ movePh v1 (dist - d1) ve' (e.cap up) l
      (layOut ent ⟨x, 0, 0⟩ (ps.map (fun p => { p with j := s * p.j }))).1 ++
        planRun (d.lim a) (ent + 1) e.tgt ve' rest outs.tail

/-- Number a plan's entries from `ent` on; a run-down counts with its first entry. -/
def renumber (ent : Nat) (ss : List Seg) : List Seg :=
  ss.map (fun g => { g with ent := if g.ent = 15 then ent else g.ent + ent })

/-- The entries after a COORD entry planned anew while they are superposed on it (R101, R104, R110): from their present
state `k` under the limits left over for the `tov` seconds that it still lasts, then under those of the axis. Where nothing
is left over, what they do until then stays as planned, `old`. -/
def Dev.overlapGo (d : Dev) (a : Axis) (k : Kin) (es : List PEnt) (ov : List Seg) (tov : Rat) (old : List Seg) (ent : Nat) :
    List Seg :=
  let lows := fun up => (d.leftOver a ov up).2
  let ok := [true, false].all (fun up => decide (0 < (lows up).a ∧ 0 < (lows up).j ∧ 0 < (d.leftOver a ov up).1))
  let capped := es.map (fun e => { e with cap := fun up => min (e.cap up) (d.leftOver a ov up).1 })
  let (q, _, _) := planQueue lows lows k capped
  let first := if ok then firstPart (renumber 0 q) tov else old.map (fun g => { g with ent := 0 })
  let k1 := match first.getLast? with
    | none => k
    | some g => (⟨g.x, g.v, g.a⟩ : Kin).at g.j g.dur
  let done := (first.getLast?.map (·.ent)).getD 0
  let (r, _, _) := planQueue (d.lim a) (d.lim a) k1 (es.drop done)
  renumber ent first ++ renumber (ent + done) r

/-- Entries as the planner sees them. -/
def Dev.pents (d : Dev) (a : Axis) (es : List Entry) : List PEnt :=
  es.map (fun e => ⟨(e.tgt : Rat) / 256, d.cruise a e, e.blend⟩)

/-- A plan from `clk` into its first segment on. -/
def cutSegs : List Seg → Rat → List Seg
  | [], _ => []
  | s :: rest, clk =>
    let k := (⟨s.x, s.v, s.a⟩ : Kin).at s.j clk
    { s with
      x := k.x, v := k.v, a := k.a, dur := s.dur - clk
      fol := s.fol.map (fun o => let q := (⟨o.x, o.v, o.a⟩ : Kin).at o.j clk; ⟨q.x, q.v, q.a, o.j⟩) } :: rest

/-- Superpose the run `fol`, which starts `start` seconds from now at `x1`, on the slide's part `own` of a COORD entry (R110).
Answers the sum and the time by which it outlasts the COORD entry. -/
def superpose (own : List Seg) (x1 start : Rat) (fol : List Seg) (ent : Nat) : List Seg × Rat :=
  let total := segsDur own
  let folD := fol.map (fun g => { g with x := g.x - x1 })
  let rest := holdSeg (segsEnd x1 fol - x1) (total - start - segsDur fol) (ent + 1)
  (sumSegs 64 own 0 (holdSeg 0 start (ent + 1) ++ folD ++ rest) 0 x1, max 0 (start + segsDur fol - total))

/-- The slide's part of a COORD entry joined by superposition to the slide-only run that follows (R110): the run starts at
the first position tick at or after phase 5, or at once where that has passed (log 122). `own` starts `t` seconds after a
position tick, and ends at `x1`. -/
def Dev.joinCoord (d : Dev) (a : Axis) (t : Rat) (own : List Seg) (x1 : Rat) (run : List Entry) (ent : Nat) : List Seg × Rat :=
  let total := segsDur own
  let start := min total (ceilTo (t + (phase5 own).1) d.posTs - t)
  let (rest, c) := advance own 0 start
  superpose own x1 start (d.overlapRun a x1 (d.pents a run) (cutSegs rest c) (total - start) (ent + 1)) ent

/-- The run after a COORD entry is blended into it: BLEND, and no turn of the slide (R110). `s` is the sign of the COORD
entry's slide move. -/
def joins (e : Entry) (s : Rat) : List Entry → Bool
  | [] => false
  | f :: _ => e.blend && decide (sgnR ((f.tgt : Rat) / 256 - (e.tgt : Rat) / 256) = s ∨ s = 0)

/-- Plan a queue from rest at `xs`, `xw` (R103, R109, R110). Joints between COORD entries, and from a
slide-only entry into a COORD entry, are passed at rest (log 22). The plan starts `t` seconds after a position tick. -/
def Dev.planFromRest (d : Dev) (a : Axis) (w? : Option Axis) : Nat → Rat → Rat → Rat → Nat → List Entry → Both
  | 0, _, _, _, _, _ => ⟨[], []⟩
  | _ + 1, _, _, _, _, [] => ⟨[], []⟩
  | n + 1, t, xs, xw, ent, e :: es =>
    match w?, e.coord with
    | some w, true =>
      let (cs, cw) := (d.coordSegs a w e ⟨xs, 0, 0⟩ ⟨xw, 0, 0⟩ ent).getD ([], [])
      let run := es.takeWhile (fun f => !f.coord)
      let xs1 := (e.tgt : Rat) / 256
      let xw1 := (e.tgt2 : Rat) / 256
      if joins e (sgnR (xs1 - xs)) run then
        let (both, late) := d.joinCoord a t cs xs1 run ent
        let r := d.planFromRest a w? n (t + segsDur both) (segsEnd xs1 both) xw1 (ent + 1 + run.length) (es.drop run.length)
        ⟨both ++ r.slide, cw ++ (if r.swing.isEmpty then [] else holdSeg xw1 late (ent + 1) ++ r.swing)⟩
      else
        let r := d.planFromRest a w? n (t + max (segsDur cs) (segsDur cw)) xs1 xw1 (ent + 1) es
        ⟨cs ++ r.slide, cw ++ r.swing⟩
    | _, _ =>
      let run := (e :: es).takeWhile (fun f => !f.coord)
      let rest := (e :: es).drop run.length
      let pe := d.pents a run
      let ss := planRun (d.lim a) ent xs 0 pe (backward (d.lim a) xs pe)
      let xs1 := segsEnd xs ss
      let r := if run.isEmpty then ⟨[], []⟩ else d.planFromRest a w? n (t + segsDur ss) xs1 xw (ent + run.length) rest
      ⟨ss ++ r.slide, if r.swing.isEmpty then [] else holdSeg xw (segsDur ss) ent ++ r.swing⟩

/-! ### The governor's flags (R100) -/

/-- The governor lowers an entry's cruise; `prev`, `prevW` are where slide and swing are before it. -/
def Dev.clampedAt (d : Dev) (a : Axis) (e : Entry) (prev prevW : Rat) : Bool :=
  match e.coord, d.swingOf a with
  | true, some w => let c := d.coordPath a w e prev prevW; decide (c.cruise < c.plain)
  | _, _ => d.clamped a e (decide (prev < (e.tgt : Rat) / 256))

/-- Mark the entries of a queue that the governor lowers, planned from `p` and `q` on (R100). -/
def Dev.markClamp (d : Dev) (a : Axis) : Rat → Rat → List Entry → List Entry
  | _, _, [] => []
  | p, q, e :: es => { e with clamp := d.clampedAt a e p q }
      :: d.markClamp a ((e.tgt : Rat) / 256) (if e.coord then (e.tgt2 : Rat) / 256 else q) es

/-- Position of the swing axis that the queue of `a` may drive. -/
def Dev.swingX (d : Dev) (a : Axis) : Rat := match d.swingOf a with
  | none => 0
  | some w => d.mot[w].x

/-- The queue of `a` is planned: which of its entries the governor lowers is marked from the present positions on, and
KE_CLAMP tells of them (R100). A COORD entry that goes on under its plan keeps its mark. -/
def Dev.noteClamp (d : Dev) (a : Axis) (keep : Bool) : Dev :=
  let m := d.mot[a]
  let q := match keep, m.queue with
    | true, e :: es => e :: d.markClamp a ((e.tgt : Rat) / 256) ((e.tgt2 : Rat) / 256) es
    | _, es => d.markClamp a (((m.segs.head?.map (fun g => g.own.x)).getD m.x)) (d.swingX a) es
  let d := d.modMot a (fun x => { x with queue := q })
  if q.any (·.clamp) then d.raiseMot a 11 else d

/-- The velocity of the running entry's own motion. -/
def MotAxis.ownV (m : MotAxis) : Rat := match m.segs with
  | [] => m.v
  | g :: _ => match g.fol with
    | none => m.v
    | some o => m.v - (o.v + o.a * m.clk + o.j * m.clk * m.clk / 2)

/-- The bound on the velocity of the running motion: the running entry's cruise, the direction's limit in a run-down
(R99, R101). -/
def Dev.boundNow (d : Dev) (a : Axis) : Rat :=
  let m := d.mot[a]
  let s := if m.v ≠ 0 then sgnR m.v else sgnR m.a
  let up := decide (0 < s)
  match m.queue with
  | [] => d.limV a up
  | e :: _ =>
    if m.segs.head?.any (fun g => g.ent == 15) then d.limV a up
    else match e.coord, d.swingOf a with
      | true, some w => let c := d.coordPath a w e ((cutSegs (m.segs.take 1) m.clk).head?.map (fun g => g.own.x) |>.getD m.x) d.mot[w].x
                        c.cruise * |c.ks|
      | _, _ => d.cruise a e up

/-- The axis moves faster than the bound of its running motion, or a superposition than the axis' limit (R101). -/
def Dev.tooFast (d : Dev) (a : Axis) : Bool :=
  let m := d.mot[a]
  decide (d.boundNow a < |m.ownV|) || (m.segs.head?.any Seg.overlaps && decide (d.limV a (decide (0 < m.v)) < |m.v|))

/-! ### Registers of the motion page -/

/-- Set-point of an axis moved by a displacement: LEDGER_EXE follows (R120). -/
def Dev.addReg (d : Dev) (r : Nat) (k : Int) : Dev := d.wr r (d.rd r + wi k)

/-- The axis is at the run-down part of a plan. -/
def MotAxis.inRundown (m : MotAxis) : Bool := match m.segs with
  | [] => false
  | s :: _ => s.ent == 15

/-- Not at rest at the last target (R95 BUSY). -/
def MotAxis.busy (m : MotAxis) : Bool := m.running || !m.queue.isEmpty

def HomeStep.code : HomeStep → Nat
  | .idle => 0 | .seek => 1 | .seekStop => 1 | .backOff => 2 | .approach => 3 | .approachStop => 3 | .park => 4

/-- Form SP_*, and the computed fields of MSTAT; REF_VALID, POS_UNCERTAIN, HOME_ERR and LIMITED_NOW are
kept as they stand. -/
def Dev.showMot (d : Dev) (a : Axis) : Dev :=
  let m := d.mot[a]
  let d := d.wr (Reg.MOT_SP_INT a) (wi (m.sp / 256))
  let d := d.wr (Reg.MOT_SP_FRAC a) (wi (m.sp % 256))
  let d := d.wr (Reg.MOT_SP_VEL a) (wi (d.near m.v (100 + a)))
  let d := d.wr (Reg.MOT_SP_ACC a) (wi (d.near m.a (130 + a)))
  let s := if m.v ≠ 0 then sgnR m.v else sgnR m.a
  let w := d.rd (Reg.MOT_MSTAT a)
  let w := setFld w 23 20 m.queue.length
  let w := setFld w 19 17 (match m.segs with | [] => 0 | g :: _ => g.phase)
  let w := setBit w 16 (decide (s ≠ 0) && d.closing a (decide (0 < s)))
  let w := setFld w 15 13 m.home.code
  let w := setBit w 10 (m.inRundown || m.above)
  let w := setBit w 9 m.slaveOf.isSome
  let w := setBit w 5 (!m.segs.isEmpty && !m.inRundown && m.queue.head?.any (·.clamp))
  let w := setBit w 4 m.busy
  d.wr (Reg.MOT_MSTAT a) w

/-- POS_UNCERTAIN, REF_VALID, LIMITED_NOW. -/
def Dev.uncertain (d : Dev) (a : Axis) : Bool := d.rdB (Reg.MOT_MSTAT a) 7
def Dev.refValid (d : Dev) (a : Axis) : Bool := d.rdB (Reg.MOT_MSTAT a) 8

/-- Residual of an abort or retarget (R105, R106, R119). -/
def Dev.residual (d : Dev) (a : Axis) (k : Int) : Dev :=
  ((d.addReg (Reg.MOT_LEDGER_RES a) k).wr (Reg.MOT_LAST_RES a) (wi k)).raiseMot a 13

/-! ### Planning -/

/-- Put a plan on the swing axis of `a`: its part of the queue while that holds a COORD entry, its own run-down
otherwise (R108). -/
def Dev.setSwing (d : Dev) (a : Axis) (ss : List Seg) (clk : Rat) : Dev :=
  let coord := d.mot[a].queue.any (·.coord)
  match d.swingOf a with
  | none => d
  | some w =>
    if coord || d.mot[w].slaveOf == some a.val then
      (d.modMot w (fun x => { x with
        segs := ss, clk := clk, running := x.running || !ss.isEmpty || coord
        slaveOf := if coord then some a.val else none })).showMot w
    else d

/-- The plan of an axis is replaced by a run-down under the limits chosen, its last target kept. Answers whether the jerk
was raised and where the axis comes to rest. -/
def Dev.layRunDown (d : Dev) (a : Axis) (quick : Bool) : Dev × Bool × Rat :=
  let m := d.mot[a]
  let (ss, raised) := planStop (d.rdLim a quick) ⟨m.x, m.v, m.a⟩
  (d.modMot a (fun x => { x with segs := ss, clk := 0, quick := quick, running := true }), raised, segsEnd m.x ss)

/-- Slide and swing of a COORD entry that its path can no longer end at its targets: both run down along the path, and the
queue starts from rest where they stop (R101, R106). -/
def Dev.pathRunDown (d : Dev) (a w : Axis) (e : Entry) (es : List Entry) (xs xw : Kin) : Dev :=
  let c := d.coordPath a w e xs.x xw.x
  let v := if c.ks = 0 then (if c.kw = 0 then 0 else xw.v / c.kw) else xs.v / c.ks
  let u := if c.ks = 0 then (if c.kw = 0 then 0 else xw.a / c.kw) else xs.a / c.ks
  let path := (layOut 15 ⟨0, v, u⟩ (runDown v u c.lim).1).1
  let ss := scaleSegs c.ks xs.x path
  let sw := scaleSegs c.kw xw.x path
  let r := d.planFromRest a (some w) 16 (segsDur ss) (segsEnd xs.x ss) (segsEnd xw.x sw) 0 (e :: es)
  let d := d.modMot a (fun x => { x with segs := ss ++ r.slide, clk := 0, running := true })
  (d.setSwing a (sw ++ r.swing) 0).raiseMot a 10

/-- The running COORD entry goes on: its plan as it stands, or laid anew from its present state where limits changed (R101);
then what follows is planned from its end or joined to it, or goes on from where the superposition has brought it (R104,
R110). -/
def Dev.replanCoord (d : Dev) (a w : Axis) (e : Entry) (es : List Entry) (limits : Bool) : Dev :=
  let m := d.mot[a]
  let mw := d.mot[w]
  let cur := cutSegs (m.segs.takeWhile (fun g => g.ent == 0)) m.clk
  let own := cur.map Seg.own
  let ownW := cutSegs (mw.segs.takeWhile (fun g => g.ent == 0)) mw.clk
  let begun := cur.head?.any Seg.overlaps
  let xs : Kin := match own with | [] => ⟨m.x, m.v, m.a⟩ | g :: _ => ⟨g.x, g.v, g.a⟩
  let xw : Kin := ⟨mw.x, mw.v, mw.a⟩
  let run := es.takeWhile (fun f => !f.coord)
  let x1 := (e.tgt : Rat) / 256
  let w1 := (e.tgt2 : Rat) / 256
  match if limits then d.coordSegs a w e xs xw 0 else some (own, ownW) with
  | none =>
    if begun then
      let (d, _, _) := d.layRunDown a false
      let (d, _, _) := d.layRunDown w false
      let m := d.mot[a]
      let x2 := segsEnd m.x m.segs
      let xw2 := segsEnd xw.x d.mot[w].segs
      let t := max (segsDur m.segs) (segsDur d.mot[w].segs)
      let r := d.planFromRest a (some w) 16 t x2 xw2 0 (e :: es)
      let sw := d.mot[w].segs ++ holdSeg xw2 (t - segsDur d.mot[w].segs) 0 ++ r.swing
      let d := d.modMot a (fun x => { x with segs := x.segs ++ holdSeg x2 (t - segsDur x.segs) 0 ++ r.slide, clk := 0 })
      (d.setSwing a sw 0).raiseMot a 10
    else d.pathRunDown a w e es xs xw
  | some (own, ownW) =>
    let t := max (segsDur own) (segsDur ownW)
    if begun || joins e (sgnR (x1 - xs.x)) run then
      let o := (cur.head?.bind (·.fol)).getD ⟨0, 0, 0, 0⟩
      let old := cur.map (fun g => match g.fol with
        | none => { g with x := x1, v := 0, a := 0, j := 0 }
        | some o => { g with x := x1 + o.x, v := o.v, a := o.a, j := o.j, fol := none })
      let (both, late) := if begun then
          superpose own x1 0 (d.overlapGo a ⟨x1 + o.x, o.v, o.a⟩ (d.pents a run) own (segsDur own) old 1) 0
        else d.joinCoord a 0 own x1 run 0
      let r := d.planFromRest a (some w) 16 (segsDur both) (segsEnd x1 both) w1 (1 + run.length) (es.drop run.length)
      let d := d.modMot a (fun x => { x with segs := both ++ r.slide, clk := 0, running := true })
      d.setSwing a (ownW ++ (if r.swing.isEmpty then [] else holdSeg w1 late 1 ++ r.swing)) 0
    else
      let r := d.planFromRest a (some w) 16 t x1 w1 1 es
      let d := d.modMot a (fun x => { x with segs := own ++ r.slide, clk := 0, running := true })
      d.setSwing a (ownW ++ r.swing) 0

/-- Plans of the queue of `a` laid down anew from the present state (R101, R104, R106). A run-down in progress is
finished first; slide and swing wait for each other where a COORD entry follows it. -/
def Dev.replanAx (d : Dev) (a : Axis) (limits : Bool) : Dev :=
  let m := d.mot[a]
  let w? := d.swingOf a
  let (swRd, swClk, swX) : List Seg × Rat × Rat := match w? with
    | none => ([], 0, 0)
    | some w => (d.mot[w].segs.takeWhile (fun (g : Seg) => g.ent == 15), d.mot[w].clk, (d.mot[w].sp : Rat) / 256)
  let xw := segsEnd swX swRd
  let swLeft := planLeft swRd swClk
  let d := match m.queue with
    | [] => d
    | e :: es =>
      if m.segs.head?.all (fun (g : Seg) => g.ent == 15) then
        let rd := m.segs.takeWhile (fun (g : Seg) => g.ent == 15)
        let clk := if rd.isEmpty then 0 else m.clk
        let x1 := segsEnd m.x rd
        let late := swLeft - planLeft rd clk
        let r := d.planFromRest a w? 16 (max (planLeft rd clk) (if m.queue.any (·.coord) then swLeft else 0)) x1 xw 0 (e :: es)
        let wait := if m.queue.any (·.coord) then holdSeg x1 late 0 else []
        let d := d.modMot a (fun x => { x with segs := rd ++ wait ++ r.slide, clk := clk, running := true })
        let sw := if r.swing.isEmpty then swRd else swRd ++ holdSeg xw (-late) 0 ++ r.swing
        d.setSwing a sw (if swRd.isEmpty then 0 else swClk)
      else
        match e.coord, w? with
        | true, some w => d.replanCoord a w e es limits
        | _, _ =>
          let run := m.queue.takeWhile (fun (f : Entry) => !f.coord)
          let rest := m.queue.drop run.length
          let (q, _, lim) := planQueue (d.lim a) (d.rdLim a m.quick) ⟨m.x, m.v, m.a⟩ (d.pents a run)
          let x1 := segsEnd m.x q
          let late := swLeft - segsDur q
          let r := d.planFromRest a w? 16 (max (segsDur q) swLeft) x1 xw run.length rest
          let wait := if r.swing.isEmpty then [] else holdSeg x1 late run.length
          let d := d.modMot a (fun x => { x with segs := q ++ wait ++ r.slide, clk := 0, running := true })
          let sw := if r.swing.isEmpty then swRd else swRd ++ holdSeg xw (-late) 0 ++ r.swing
          let d := d.setSwing a sw (if swRd.isEmpty then 0 else swClk)
          if lim then (d.raiseMot a 10).wrB (Reg.MOT_MSTAT a) 6 true else d
  let keep := !limits && (m.queue.head?.any (·.coord)) && !(m.segs.head?.all (fun (g : Seg) => g.ent == 15))
  (d.noteClamp a keep).showMot a

/-- The plan of an axis has ended in the period that is over: its entries are complete and BUSY clears (R92). The direct
following of a target is no plan (R107). -/
def Dev.profileDone (d : Dev) (a : Axis) : Dev :=
  let m := d.mot[a]
  if m.running && m.segs.isEmpty && !(d.follow a && m.queue.isEmpty && m.home == .idle) then
    let d := d.modMot a (fun x => { x with
      running := false, quick := false, queue := if x.slaveOf.isNone then [] else x.queue
      x := (x.lastTgt : Rat) / 256, v := 0, a := 0, sp := x.lastTgt, slaveOf := none, above := false })
    ((d.addReg (Reg.MOT_LEDGER_EXE a) (m.lastTgt - m.sp)).wrB (Reg.MOT_MSTAT a) 6 false).showMot a
  else d

/-- PROFILE_END (R92): the first position tick at or after the plan's end. A strobe that reaches that tick ends the profile
itself. -/
def Dev.profileEnd (d : Dev) (a : Axis) : Dev :=
  if d.mot[a].running && d.mot[a].segs.isEmpty then (d.upTo (d.time.periodStart + d.posT)).profileDone a else d

/-! ### Alignment, freezing and silence (R93, R119, R205) -/

/-- A new ledger origin: all three registers at zero (R120). -/
def Dev.ledgerOrigin (d : Dev) (a : Axis) : Dev :=
  let d := ((d.wr (Reg.MOT_LEDGER_CMD a) 0).wr (Reg.MOT_LEDGER_EXE a) 0).wr (Reg.MOT_LEDGER_RES a) 0
  match stxOf a with
  | none => d
  | some n =>
    (d.modStep n (fun s => { s with origin := s.issued, encOrigin := d.encCount a })).wr (Reg.STX_STEPS_ISSUED n) 0

/-- The generator stands at the set-point `p`, at rest with nothing queued and a new ledger origin (R93, R119, R120). -/
def Dev.standAt (d : Dev) (a : Axis) (p : Int) : Dev :=
  let d := d.modMot a (fun x => { x with
    sp := p, x := (p : Rat) / 256, v := 0, a := 0, segs := [], clk := 0, queue := []
    lastTgt := p, running := false, quick := false, above := false, slaveOf := none, silenced := false, alignDue := false })
  (d.ledgerOrigin a).showMot a

/-- REALIGN sets the set-point to the axis position at once (R119). -/
def Dev.alignAx (d : Dev) (a : Axis) : Dev :=
  let p := 256 * d.posInt a
  (d.modMot a (fun x => { x with spPrev := p, spPrev2 := p })).standAt a p

/-- At a position tick the set-point of a disabled axis, or of one enabled since the last, is the axis position (R93); the
interpolated set-point moves there from the one before, so live compares see it pass (R91, R112). -/
def Dev.trackAx (d : Dev) (a : Axis) : Dev :=
  (d.modMot a (fun x => { x with spPrev2 := x.spPrev, spPrev := x.sp })).standAt a (256 * d.posInt a)

/-- Homing ends without success (R116): HOME_FAIL and HOME_ERR; POS_UNCERTAIN stays as it is. -/
def Dev.homeFail (d : Dev) (a : Axis) (err : Nat) : Dev :=
  (((d.modMot a (fun x => { x with home := .idle })).wrF (Reg.MOT_MSTAT a) 12 11 err).raiseMot a 18).showMot a

/-- HOME_ABORT (R116). -/
def Dev.homeAbort (d : Dev) (a : Axis) : Dev := if d.mot[a].home = .idle then d else d.homeFail a 0

/-- A run-down of one axis with nothing after it: the queue is aborted, the axis ends at rest wherever the
run-down ends, and the residual is the old last target less the rest position (R106). -/
def Dev.stopOne (d : Dev) (a : Axis) (quick : Bool) : Dev :=
  let m := d.mot[a]
  if m.busy then
    let (ss, raised) := planStop (d.rdLim a quick) ⟨m.x, m.v, m.a⟩
    let rest : Int := if ss.isEmpty then m.sp else roundAway (segsEnd m.x ss * 256)
    let d := d.modMot a (fun x => { x with
      segs := ss, clk := 0, queue := [], lastTgt := rest, quick := quick, running := !ss.isEmpty
      v := if ss.isEmpty then 0 else x.v, a := if ss.isEmpty then 0 else x.a, slaveOf := none })
    let d := if raised then (d.raiseMot a 10).wrB (Reg.MOT_MSTAT a) 6 true else d
    (d.residual a (m.lastTgt - rest)).showMot a
  else d

/-- Release a swing axis that the queue of `a` drives, with a run-down of its own (R108). -/
def Dev.stopSlave (d : Dev) (a : Axis) (quick : Bool) : Dev :=
  match d.swingOf a with
  | none => d
  | some w => if d.mot[w].slaveOf = some a.val then d.stopOne w quick else d

/-- STOP and QSTOP (R106, R108, R116): both axes of a coordinated queue stop; homing is aborted. One written to the slaved
swing axis itself stops that axis alone and releases it; the slide goes on (log 124). -/
def Dev.stopAx (d : Dev) (a : Axis) (quick : Bool) : Dev :=
  (((d.homeAbort a).stopSlave a quick).stopOne a quick)

/-- Freeze the set-point and flush the queue (R119, R205): a servo axis keeps its set-point, a step axis
freezes at the issued count in whole microsteps. ABORTED and a residual are set where something was queued
or the set-point had not reached the last target (log 23). A step axis whose velocity in the present period, that of the
set-points around it (R91), exceeds START_V loses its position (R118). -/
def Dev.freezeAx (d : Dev) (a : Axis) : Dev :=
  let d := match stxOf a with
    | none => d
    | some n => (d.sequence n).sequenceStop n
  let d := (d.homeAbort a).stopSlave a false
  let m := d.mot[a]
  let f : Int := if (stxOf a).isSome then 256 * d.posInt a else m.sp
  let lost := (stxOf a).isSome
    && decide (((d.rd (Reg.MOT_START_V a)).toNat : Rat) * d.posTs < ((m.sp - m.spPrev).natAbs : Rat) / 256)
  let d := d.modMot a (fun x => { x with
    sp := f, spPrev := f, spPrev2 := f, x := (f : Rat) / 256, v := 0, a := 0, segs := [], clk := 0, queue := []
    lastTgt := f, running := false, quick := false, above := false, slaveOf := none })
  let d := d.addReg (Reg.MOT_LEDGER_EXE a) (f - m.sp)
  let d := if m.busy || m.lastTgt != f then d.residual a (m.lastTgt - f) else d
  let d := if lost then d.wrB (Reg.MOT_MSTAT a) 7 true else d
  (d.wrB (Reg.MOT_MSTAT a) 6 false).showMot a

/-- Gate or step outputs of an axis are silenced (R119, R161, R198, R204): the generator freezes, the
outputs go off, and the axis waits for enable or REALIGN. A HALT that would take effect at the next strobe instant falls
to the silence (R206). -/
def Dev.silenceAx (d : Dev) (a : Axis) : Dev :=
  let d := (d.freezeAx a).modMot a (fun x => { x with silenced := true, mcmds := x.mcmds.filter (fun c => c.code != 5) })
  match stxOf a with
  | some n => ((d.modStep n (fun s => { s with silenced := true, zeroed := false })).stepRefs n).raiseStx n 5
  | none =>
    match saxOf a with
    | none => d
    | some n =>
      let d := d.modServo n (fun s => { s with silenced := true, zeroed := false })
      (d.wrB (Reg.SAX_STATUS n) 0 false).raiseSax n 4

/-- REALIGN (R119): on an enabled axis, at rest or silenced. -/
def Dev.realign (d : Dev) (a : Axis) : Dev :=
  let m := d.mot[a]
  if d.axEn a && (m.silenced || (!m.busy && m.home == .idle)) then
    let d := ((d.alignAx a).wrB (Reg.MOT_MSTAT a) 8 false).raiseMot a 14
    match stxOf a with
    | none => d
    | some n => d.wrB (Reg.STX_STATUS n) 2 false
  else d.raiseMot a 19

/-! ### Commands (R102, R105, R106, R116, R121) -/

/-- The move registers as an MCMD write copies them (R102). -/
def Dev.mcmdOf (d : Dev) (a : Axis) (code : Nat) (eng : Bool) : McmdWrite :=
  let at' := d.rd (Reg.MOT_MV_ATTR a)
  ⟨code, 256 * (d.rd (Reg.MOT_MV_TGT a)).toInt + fld at' 7 0, at', 256 * (d.rd (Reg.MOT_MV_TGT2 a)).toInt, eng⟩

/-- The queue entry of a write. -/
def McmdWrite.entry (c : McmdWrite) : Entry := ⟨c.tgt, fld c.attr 16 8, bit c.attr 17, bit c.attr 18, c.tgt2, none, false⟩

/-- A COORD entry may be queued (R108): the slide axis of an enabled PLUG portal, its swing axis enabled
and either at rest with an empty queue or already driven by this queue. -/
def Dev.coordOk (d : Dev) (a : Axis) : Bool :=
  match d.swingOf a with
  | none => false
  | some w => d.axEn w && !d.mot[w].silenced && (d.mot[w].slaveOf == some a.val || (!d.mot[w].busy && d.mot[w].queue.isEmpty))

/-- The refusals that PUSH and RETARGET share (R96, R102, R105, R119). -/
def Dev.moveRefused (d : Dev) (a : Axis) (e : Entry) : Bool :=
  let m := d.mot[a]
  !d.axEn a || d.follow a || m.slaveOf.isSome || m.home != .idle || e.speed == 0 || !d.limitsSet a || m.silenced
    || (e.coord && !d.coordOk a)

/-- A commanded displacement (R102, R120); COORD commands the swing axis as well. -/
def Dev.command (d : Dev) (a : Axis) (e : Entry) : Dev :=
  let d := d.addReg (Reg.MOT_LEDGER_CMD a) (e.tgt - d.mot[a].lastTgt)
  let d := d.modMot a (fun x => { x with lastTgt := e.tgt })
  match e.coord, d.swingOf a with
  | true, some w =>
    (d.addReg (Reg.MOT_LEDGER_CMD w) (e.tgt2 - d.mot[w].lastTgt)).modMot w (fun x => { x with lastTgt := e.tgt2 })
  | _, _ => d

/-- An entry that joins the queue restores the run current (R199). -/
def Dev.unstand (d : Dev) (a : Axis) : Dev :=
  match stxOf a with
  | none => d
  | some n => (d.modStep n (fun s => { s with joinAt := some d.now })).wrB (Reg.STX_STATUS n) 1 false

/-- STATUS.HALTED clears at the next accepted push, REALIGN or HOME (R205); their entry restores the run current. -/
def Dev.unhalt (d : Dev) (a : Axis) : Dev :=
  match stxOf a with
  | none => d
  | some n => (d.wrB (Reg.STX_STATUS n) 2 false).unstand a

/-- PUSH (R102): the entry joins the queue. -/
def Dev.pushAx (d : Dev) (a : Axis) (c : McmdWrite) : Dev :=
  let e := c.entry
  let d := if d.mot[a].slaveOf.isNone then d.profileDone a else d
  if d.moveRefused a e || decide (8 ≤ d.mot[a].queue.length) then d.raiseMot a 12
  else
    let d := (d.command a e).unhalt a
    (d.modMot a (fun x => { x with queue := x.queue ++ [e] })).replanAx a false

/-- RETARGET with COORD = 1 (R105, R108): both axes get new targets. Where they move along the new path and can end at
its targets, the path goes on from where they are; otherwise both run down first, and the path starts from rest (log 120). -/
def Dev.retargetCoord (d : Dev) (a w : Axis) (e : Entry) (quick : Bool) : Dev :=
  let m := d.mot[a]
  let mw := d.mot[w]
  let d := (d.residual a (m.lastTgt - e.tgt)).residual w (mw.lastTgt - e.tgt2)
  let d := d.modMot a (fun x => { x with queue := [e], lastTgt := e.tgt, quick := quick })
  let d := d.modMot w (fun x => { x with queue := [], lastTgt := e.tgt2, quick := quick, slaveOf := some a.val })
  let xs : Kin := ⟨m.x, m.v, m.a⟩
  let xw : Kin := ⟨mw.x, mw.v, mw.a⟩
  match d.onPath a w e xs xw, d.coordSegs a w e xs xw 0 with
  | true, some (cs, cw) =>
    let d := d.modMot a (fun x => { x with segs := cs, clk := 0, running := true })
    ((d.setSwing a cw 0).noteClamp a false).showMot a
  | _, _ =>
    let (d, r1, x1) := d.layRunDown a quick
    let (d, r2, w1) := d.layRunDown w quick
    let past := fun (x t x' : Rat) => decide ((x < t ∧ t < x') ∨ (t < x ∧ x' < t))
    let d := if r1 || past m.x ((e.tgt : Rat) / 256) x1 then d.raiseMot a 10 else d
    (if r2 || past mw.x ((e.tgt2 : Rat) / 256) w1 then d.raiseMot w 10 else d).replanAx a false

/-- RETARGET (R105, R106, R108). One without COORD stops a swing axis that the queue drives. -/
def Dev.retargetAx (d : Dev) (a : Axis) (c : McmdWrite) : Dev :=
  let e := c.entry
  let d := if d.mot[a].slaveOf.isNone then d.profileDone a else d
  if d.moveRefused a e then d.raiseMot a 19
  else
    let quick := bit c.attr 19
    let d := d.unstand a
    match e.coord, d.swingOf a with
    | true, some w => d.retargetCoord a w e quick
    | _, _ =>
      let d := (d.residual a (d.mot[a].lastTgt - e.tgt)).stopSlave a quick
      let d := d.modMot a (fun x => { x with
        queue := [e], lastTgt := e.tgt, quick := quick
        segs := if x.v = 0 ∧ x.a = 0 then [] else [⟨x.x, x.v, x.a, 0, 0, 0, 0, none⟩], clk := 0 })
      d.replanAx a false

/-- HALT (R118, R205): only on a step axis; at rest it issues nothing and sets no residual. -/
def Dev.haltAx (d : Dev) (a : Axis) : Dev :=
  match stxOf a with
  | none => d.raiseMot a 19
  | some n =>
    if d.axEn a then
      let d := (d.sequence n).homeAbort a
      let d := if d.mot[a].busy then d.freezeAx a else d
      (d.raiseStx n 6).wrB (Reg.STX_STATUS n) 2 true
    else d.raiseMot a 19

/-! ### Homing (R116) -/

/-- The retracted switch is made: LATCH_CFG.DIN after LATCH_CFG.INV, in the snapshot. -/
def Dev.retMade (d : Dev) (a : Axis) : Bool :=
  let cfg := d.rd (Reg.MOT_LATCH_CFG a)
  let i := fld cfg 6 0
  decide (i < 96) && (bit (d.sn (Reg.FIN_IN_LVL (i / 32))) (i % 32) != bit cfg 12)

/-- Sign of retracting, which is toward closed (R90). -/
def Dev.retSign (d : Dev) (a : Axis) : Int := if d.rdB (Reg.MOT_MCFG a) 2 then -1 else 1

/-- Start a homing move to `tgt` (1/256 count) at no more than `vmax`; its displacement is commanded (R120). -/
def Dev.homeMove (d : Dev) (a : Axis) (st : HomeStep) (tgt : Int) (vmax : Nat) : Dev :=
  let d := d.addReg (Reg.MOT_LEDGER_CMD a) (tgt - d.mot[a].lastTgt)
  let d := d.modMot a (fun x => { x with
    home := st, lastTgt := tgt, queue := [⟨tgt, 256, false, false, 0, some vmax, false⟩], segs := [], running := true })
  d.replanAx a false

/-- A homing run-down under the limits of the direction: the commanded total follows the rest point. -/
def Dev.homeStop (d : Dev) (a : Axis) (st : HomeStep) : Dev :=
  let m := d.mot[a]
  let (ss, raised) := planStop (d.lim a) ⟨m.x, m.v, m.a⟩
  let rest : Int := if ss.isEmpty then m.sp else roundAway (segsEnd m.x ss * 256)
  let d := d.modMot a (fun x => { x with
    home := st, segs := ss, clk := 0, queue := [], lastTgt := rest, running := !ss.isEmpty
    v := if ss.isEmpty then 0 else x.v, a := if ss.isEmpty then 0 else x.a })
  let d := if raised then d.raiseMot a 10 else d
  (d.addReg (Reg.MOT_LEDGER_CMD a) (rest - m.lastTgt)).showMot a

/-- HOME (R116). -/
def Dev.homeAx (d : Dev) (a : Axis) : Dev :=
  let d := d.profileDone a
  let m := d.mot[a]
  let r := fun x => (d.rd x).toNat
  let din := d.rdF (Reg.MOT_LATCH_CFG a) 6 0
  let named := match d.portalOf a with
    | some p => decide (din = d.rdF (Reg.PRT_INPUT_MAP p 1) 14 8)
    | none => true
  if (stxOf a).isSome && d.axEn a && !m.busy && m.home == .idle && !m.silenced && m.slaveOf.isNone && decide (din < 96) && named
      && r (Reg.MOT_HOME_SEEK_V a) != 0 && r (Reg.MOT_HOME_CREEP_V a) != 0 && r (Reg.MOT_HOME_BACKOFF a) != 0
      && r (Reg.MOT_HOME_MAX a) != 0 then
    let d := d.unhalt a
    if d.retMade a then
      d.homeMove a .backOff (m.sp - d.retSign a * 256 * r (Reg.MOT_HOME_BACKOFF a)) (r (Reg.MOT_HOME_SEEK_V a))
    else d.homeMove a .seek (m.sp + d.retSign a * 256 * r (Reg.MOT_HOME_MAX a)) (r (Reg.MOT_HOME_SEEK_V a))
  else d.raiseMot a 19

/-- Add to a register as it stood at the last strobe instant. -/
def Dev.addSnap (d : Dev) (r : Nat) (k : Int) : Dev := { d with snap := Cells.write resetOf d.snap r (d.sn r + wi k) }

/-- The axis frame moves by `k` counts (R115, R116): every physical point keeps its place and the ledger is
unchanged. What front ends and tasks still hold from the last strobe instant moves with it. -/
def Dev.shiftFrame (d : Dev) (a : Axis) (k : Int) : Dev :=
  let q := 256 * k
  let d := d.addReg (Reg.MOT_POS_OFFSET a) k
  let d := d.modMot a (fun m => { m with
    sp := m.sp + q, spPrev := m.spPrev + q, spPrev2 := m.spPrev2 + q, x := m.x + k
    segs := m.segs.map (fun s => { s with x := s.x + k })
    queue := m.queue.map (fun e => { e with tgt := e.tgt + q }), lastTgt := m.lastTgt + q
    hist := m.hist.map (fun p => (p.1, p.2 + k)) })
  let d := match (d.mot[a].slaveOf).bind (toFin? 28) with
    | none => d
    | some s => d.modMot s (fun (m : MotAxis) =>
        { m with queue := m.queue.map (fun (e : Entry) => { e with tgt2 := e.tgt2 + q }) })
  let d := (List.range 4).foldl (fun (d : Dev) i =>
    let d := if d.rdB (Reg.MOT_CMP_CTRL a i) 15 then d.addReg (Reg.MOT_CMP_POS a i) k else d
    if d.mot[a].cmpLive.contains i then d.addSnap (Reg.MOT_CMP_POS a i) k else d) d
  (d.addSnap (Reg.MOT_POS_OFFSET a) k).showMot a

/-- HOME_STEP_COMPLETE (R116): the condition on which the present step ends holds, and the sequence moves
to its next step; with no condition met nothing changes. -/
def Dev.homeStep (d : Dev) (a : Axis) : Dev :=
  let m := d.mot[a]
  let r := fun x => (d.rd x).toNat
  let ended := m.segs.isEmpty
  let back := fun (d : Dev) => d.homeMove a .backOff (d.mot[a].sp - d.retSign a * 256 * r (Reg.MOT_HOME_BACKOFF a))
    (r (Reg.MOT_HOME_SEEK_V a))
  let rest := fun (d : Dev) => d.modMot a (fun x => { x with
    sp := x.lastTgt, x := (x.lastTgt : Rat) / 256, v := 0, a := 0, queue := [], running := false })
  match m.home with
  | .idle => d
  | .seek =>
    if d.retMade a then d.homeStop a .seekStop
    else if ended then (rest d).homeFail a 1 else d
  | .seekStop => if ended then back (rest d) else d
  | .backOff =>
    if ended then
      let d := rest d
      if d.retMade a then d.homeFail a 2
      else d.homeMove a .approach (d.mot[a].sp + d.retSign a * 512 * r (Reg.MOT_HOME_BACKOFF a)) (r (Reg.MOT_HOME_CREEP_V a))
    else d
  | .approach => if ended then (rest d).homeFail a 3 else d
  | .approachStop =>
    if ended then
      let d := (rest d).shiftFrame a (-(d.rd (Reg.MOT_LATCH_POS a)).toInt)
      let d := d.ledgerOrigin a
      d.homeMove a .park (d.retSign a * 256 * r (Reg.MOT_RET_DEPTH a)) (r (Reg.MOT_HOME_CREEP_V a))
    else d
  | .park =>
    if ended then
      let d := (rest d).modMot a (fun x => { x with home := .idle })
      ((d.raiseMot a 17).wrB (Reg.MOT_MSTAT a) 7 false).showMot a
    else d

/-- Execute one MCMD write (R93, R95, R121). On an axis enabled since the last position tick the alignment comes first. -/
def Dev.mcmdExec (d : Dev) (a : Axis) (c : McmdWrite) : Dev :=
  let d := if d.axEn a && d.drivesAx a && d.mot[a].alignDue then d.trackAx a else d
  if !d.drivesAx a then d.raiseMot a 19
  else if !d.axEn a then d.raiseMot a (if c.code = 1 then 12 else 19)
  else
    match c.code with
    | 1 => d.pushAx a c
    | 2 => d.retargetAx a c
    | 3 => d.stopAx a false
    | 4 => d.stopAx a true
    | 5 => d.haltAx a
    | 6 => d.realign a
    | 7 => if (stxOf a).isSome then d.homeAx a else d.raiseMot a 19
    | _ => d.raiseMot a 19

/-- The engine of the axis' portal is halted: MCMD writes are dropped (R231). -/
def Dev.mcmdDead (d : Dev) (a : Axis) : Bool :=
  match d.portalOf a with
  | none => false
  | some p => d.rdF (Reg.ENG_STATUS p) 1 0 == 2

/-- FWD of an accepted MCMD write (R280). -/
def Dev.forward (d : Dev) (a : Axis) (c : McmdWrite) : Dev :=
  match d.portalOf a with
  | none => d
  | some p => d.send 6 0 (d.carPortal p) (.fwd a c ((d.time.posTicks + 1) % 65536)) (some (d.otherWest p))

/-- An MCMD write is taken (R121): up to eight a period, a ninth is dropped with CMD_ERR; on a member that
does not drive the portal every one is. -/
def Dev.mcmdTake (d : Dev) (a : Axis) (code : Nat) (eng : Bool) : Dev :=
  if !d.drivesAx a || d.mcmdDead a || decide (8 ≤ d.mot[a].mcmdCnt) then d.raiseMot a 19
  else
    let c := d.mcmdOf a code eng
    (d.modMot a (fun m => { m with mcmds := m.mcmds ++ [c], mcmdCnt := m.mcmdCnt + 1 })).forward a c

/-- An MCMD row: the write and its effect at the tick that executes it, as one step (log 6). -/
def Dev.mcmdRow (d : Dev) (a : Axis) (code : Nat) (tgt : Word) (attr : Word) (tgt2 : Word) : Dev :=
  let d := ((d.wr (Reg.MOT_MV_TGT a) tgt).wr (Reg.MOT_MV_ATTR a) (attr &&& 0xFFFFF)).wr (Reg.MOT_MV_TGT2 a) tgt2
  if !d.drivesAx a || d.mcmdDead a || decide (8 ≤ d.mot[a].mcmdCnt) then d.raiseMot a 19
  else ((d.modMot a (fun m => { m with mcmdCnt := m.mcmdCnt + 1 })).forward a (d.mcmdOf a code false)).mcmdExec a (d.mcmdOf a code false)

/-- An MCMD row that leaves the move registers as they stand. -/
def Dev.mcmdPlain (d : Dev) (a : Axis) (code : Nat) : Dev :=
  d.mcmdRow a code (d.rd (Reg.MOT_MV_TGT a)) (d.rd (Reg.MOT_MV_ATTR a)) (d.rd (Reg.MOT_MV_TGT2 a))

/-! ### Compares (R111 to R113) -/

/-- The compare's fields: SRC, DIR, ACT, CH. -/
def Dev.cmpSrc (d : Dev) (a : Axis) (i : Nat) : Bool := d.rdB (Reg.MOT_CMP_CTRL a i) 14
def Dev.cmpDir (d : Dev) (a : Axis) (i : Nat) : Nat := d.rdF (Reg.MOT_CMP_CTRL a i) 13 12
def Dev.cmpAct (d : Dev) (a : Axis) (i : Nat) : Nat := d.rdF (Reg.MOT_CMP_CTRL a i) 11 10
def Dev.cmpCh (d : Dev) (a : Axis) (i : Nat) : Nat := d.rdF (Reg.MOT_CMP_CTRL a i) 5 0
/-- CMPi_POS in 1/256 count. -/
def Dev.cmpPos (d : Dev) (a : Axis) (i : Nat) : Int := 256 * (d.rd (Reg.MOT_CMP_POS a i)).toInt

/-- Arming with an action fails (R113). -/
def Dev.cmpArmFails (d : Dev) (a : Axis) (i : Nat) : Bool :=
  d.cmpAct a i != 0 &&
  (match toFin? 48 (d.cmpCh a i) with
    | none => true
    | some c => d.lockClass c || (d.mappers c).any (fun p => d.portalOf a != some p)
        || (!d.cmpSrc a i && (stxOf a).isSome))

/-- The front end drops compare `i`. -/
def MotAxis.dropCmp (m : MotAxis) (i : Nat) : MotAxis :=
  { m with cmpLive := m.cmpLive.filter (· != i), cmpWait := m.cmpWait.filter (· != i) }

/-- The front end holds compare `i`, waiting on the far side or live; CMPi_CTRL.WAITING shows which. -/
def Dev.holdCmp (d : Dev) (a : Axis) (i : Nat) (waits : Bool) : Dev :=
  (d.modMot a (fun m => { m.dropCmp i with
    cmpLive := i :: m.cmpLive.filter (· != i)
    cmpWait := (if waits then [i] else []) ++ m.cmpWait.filter (· != i) })).wrB (Reg.MOT_CMP_CTRL a i) 7 waits

/-- Classify a compare from the snapshot (R111): live, waiting, or missed. -/
def Dev.cmpClassify (d : Dev) (a : Axis) (i : Nat) : Dev :=
  let r := Reg.MOT_CMP_CTRL a i
  if !d.rdB r 15 then d
  else
    let src : Int := if d.cmpSrc a i then d.mot[a].sp else 256 * d.posInt a
    let vel : Int := if d.cmpSrc a i then (sgnR d.mot[a].v).floor else (d.rd (Reg.ENC_SPEED a)).toInt
    let pos := d.cmpPos a i
    let missed := fun (d : Dev) =>
      ((d.modMot a (·.dropCmp i)).wr r (setBit (setBit (d.rd r) 15 false) 7 false)).raiseMot a (4 + i)
    match d.cmpDir a i with
    | 1 => if src < pos then d.holdCmp a i false else if 0 < vel then missed d else d.holdCmp a i true
    | 2 => if pos < src then d.holdCmp a i false else if vel < 0 then missed d else d.holdCmp a i true
    | 3 => if src = pos then missed d else d.holdCmp a i false
    | _ => d

/-- A write of CMPi_CTRL.ARM (R34, R111, R113): 1 arms for the next strobe or fails with CMD_ERR; after 0 the front end
holds the compare until the next strobe. -/
def Dev.cmpArmWrite (d : Dev) (a : Axis) (i : Nat) (on : Bool) : Dev :=
  let r := Reg.MOT_CMP_CTRL a i
  if !on then (d.wr r (setBit (setBit (d.rd r) 15 false) 7 false)).modMot a (fun m => { m with cmpArm := m.cmpArm.filter (· != i) })
  else if d.cmpArmFails a i then (d.wrB r 15 false).raiseMot a 19
  else (d.wrB r 15 true).modMot a (fun m => { m with cmpArm := i :: m.cmpArm.filter (· != i) })

/-- COMPARE_ARM: the write of ARM and the classification of an armed compare at the strobe, as one step (R111, log 6). -/
def Dev.compareRow (d : Dev) (a : Axis) (i : Nat) (on : Bool) : Dev :=
  let d := d.cmpArmWrite a i on
  if d.mot[a].cmpArm.contains i then
    (d.modMot a (fun m => { m with cmpArm := m.cmpArm.filter (· != i) })).cmpClassify a i
  else d

/-- Writes of ARM reach the front end at a strobe (R34): compares whose ARM is 0 are dropped. -/
def Dev.cmpStrobe (d : Dev) (a : Axis) : Dev :=
  d.mot[a].cmpLive.foldl (fun (d : Dev) i =>
    if d.rdB (Reg.MOT_CMP_CTRL a i) 15 then d else d.modMot a (·.dropCmp i)) d

/-- COMPARE_FIRE (R112, R113): FIRED, ARM cleared, and on the driving member the channel's request bit. A compare armed
again since the last strobe stays so. -/
def Dev.cmpFire (d : Dev) (a : Axis) (i : Nat) : Dev :=
  let r := Reg.MOT_CMP_CTRL a i
  let again := d.mot[a].cmpArm.contains i
  let d := ((d.modMot a (·.dropCmp i)).wr r (setBit (setBit (d.rd r) 15 again) 7 false)).raiseMot a i
  match toFin? 48 (d.cmpCh a i) with
  | none => d
  | some c =>
    if d.drivesAx a then
      match d.cmpAct a i with
      | 1 => d.setReq c (.put true) (2 + i)
      | 2 => d.setReq c (.put false) (2 + i)
      | 3 => d.setReq c .toggle (2 + i)
      | _ => d
    else d

/-- A source moved from `old` to `new` (1/256 count): live compares it reached or passed fire, waiting ones
whose approach side it is on again become live (R111, R112). The encoder front end compares between strobes with the
CMPi_POS of the last strobe instant (R34). -/
def Dev.cmpEval (d : Dev) (a : Axis) (src : Bool) (old new : Int) : Dev :=
  (List.range 4).foldl (fun d i =>
    let r := Reg.MOT_CMP_CTRL a i
    if d.mot[a].cmpLive.contains i && d.cmpSrc a i == src && !(src && d.mot[a].cmpArm.contains i) then
      let pos := if src then d.cmpPos a i else 256 * (d.sn (Reg.MOT_CMP_POS a i)).toInt
      if d.mot[a].cmpWait.contains i then
        if (d.cmpDir a i = 1 ∧ new < pos) ∨ (d.cmpDir a i = 2 ∧ pos < new) then
          (d.modMot a (fun m => { m with cmpWait := m.cmpWait.filter (· != i) })).wrB r 7 false
        else d
      else
        let up := decide (old < pos ∧ pos ≤ new)
        let dn := decide (pos < old ∧ new ≤ pos)
        match d.cmpDir a i with
        | 1 => if up then d.cmpFire a i else d
        | 2 => if dn then d.cmpFire a i else d
        | 3 => if up || dn then d.cmpFire a i else d
        | _ => d
    else d) d

/-! ### The position latch (R114, R115) -/

/-- Position at time `t` from the history, newest first, and whether `t` is older than all of it. -/
def latchAt (t : Nat) : List (Nat × Int) → Int × Bool
  | [] => (0, true)
  | [p] => (p.2, decide (t < p.1))
  | p :: q :: rest =>
    if p.1 ≤ t then (p.2, false)
    else if q.1 ≤ t then
      (((q.2 : Rat) + ((p.2 - q.2 : Int) : Rat) * ((t : Rat) - q.1) / ((p.1 : Rat) - q.1)).floor, false)
    else latchAt t (q :: rest)

/-- The closed switch has latched an axis: once it has for each of the portal's door axes that the reference close
armed, REF_NEEDED clears (R57). -/
def Dev.refLatched (d : Dev) (a : Axis) : Dev :=
  let d := d.modMot a (fun m => { m with refDue := false })
  match d.portalOf a with
  | none => d
  | some p => if (d.servosOf p).any (fun n => d.mot[Sax.axis n].refDue) then d else d.wrB (Reg.PRT_STATE p) 19 false

/-- Take a latch whose onset is `stamp` (R114). -/
def Dev.takeLatch (d : Dev) (a : Axis) (stamp : Nat) : Dev :=
  let (p, stale) := latchAt stamp d.mot[a].hist
  let d := (d.wr (Reg.MOT_LATCH_POS a) (wi p)).wr (Reg.MOT_LATCH_TIME a) (d.stampAt stamp)
  let d := (d.wrB (Reg.MOT_MSTAT a) 8 true).raiseMot a 15
  if stale then d.raiseMot a 16 else d

/-- A latch uses up the arm (R114), in the front end too. -/
def Dev.latchUsed (d : Dev) (a : Axis) : Dev :=
  let d := d.wrB (Reg.MOT_LATCH_CFG a) 15 false
  { d with snap := Cells.write resetOf d.snap (Reg.MOT_LATCH_CFG a) (setBit (d.sn (Reg.MOT_LATCH_CFG a)) 15 false) }

/-- LATCH_READY (R114 to R116): the oldest edge seen in a snapshot before the present position tick is
latched; with REBASE the frame moves; in the approach of homing the axis stops. A latch that clears ARM drops the edges
after it. -/
def Dev.latchReady (d : Dev) (a : Axis) : Dev :=
  match d.mot[a].latch with
  | [] => d
  | l :: rest =>
    match l.seenAt with
    | none => d
    | some t =>
      if d.time.periodStart ≤ t then d
      else
        let cont := d.rdB (Reg.MOT_LATCH_CFG a) 14 || d.mot[a].home != .idle
        let d := d.modMot a (fun m => { m with latch := if cont then rest else [] })
        if d.mot[a].home = .approach then
          if l.made then (d.takeLatch a l.stamp).homeStop a .approachStop else d
        else
          let d := d.takeLatch a l.stamp
          let d := if d.mot[a].refDue then d.refLatched a else d
          let d := if d.rdB (Reg.MOT_LATCH_CFG a) 14 then d else d.latchUsed a
          if d.rdB (Reg.MOT_MCFG a) 3 then
            d.shiftFrame a ((d.rd (Reg.MOT_LATCH_REF a)).toInt - (d.rd (Reg.MOT_LATCH_POS a)).toInt)
          else d

/-! ### The position tick (R91 to R94, R101, R107, R121) -/

/-- The set-point nearest a plan position, within 1/256 count of it (R98, log 21). -/
def Dev.spOf (d : Dev) (a : Axis) (x : Rat) : Int := d.near (x * 256) (200 + a)

/-- FOLLOW (R107): the target is issued directly where the successive differences of the last set-points
stay within the limits and the governor, else followed at the limits; a target that asks for more than the governor's
speed sets KE_CLAMP (log 123). The displacement issued counts as commanded (log 24). -/
def Dev.followTick (d : Dev) (a : Axis) : Dev :=
  let m := d.mot[a]
  let t := d.posTs
  let tgt := 256 * (d.rd (Reg.MOT_MV_TGT a)).toInt + d.rdF (Reg.MOT_MV_ATTR a) 7 0
  let d1 : Rat := ((tgt - m.sp : Int) : Rat) / 256
  let d2 : Rat := d1 - ((m.sp - m.spPrev : Int) : Rat) / 256
  let d3 : Rat := d2 - (((m.sp - m.spPrev) - (m.spPrev - m.spPrev2) : Int) : Rat) / 256
  let up := decide (0 < d1)
  let l := d.lim a up
  let g := d.governor a up
  let vmax := if 0 < g then min (d.limV a up) g else d.limV a up
  let held := decide (0 < g ∧ g < d.limV a up ∧ g * t < |d1|)
  let ok := t > 0 ∧ |d1| ≤ vmax * t ∧ |d2| ≤ l.a * t * t ∧ |d3| ≤ l.j * t * t * t
  let put := fun (d : Dev) (sp : Int) (x v ac : Rat) (ss : List Seg) (clk : Rat) =>
    (d.modMot a (fun y => { y with
      sp := sp, spPrev := y.sp, spPrev2 := y.spPrev, x := x, v := v, a := ac, segs := ss, clk := clk, lastTgt := sp
      running := decide (v ≠ 0) }))
  if ok then
    let d := put d tgt ((tgt : Rat) / 256) (d1 / t) (d2 / (t * t)) [] 0
    let d := (d.addReg (Reg.MOT_LEDGER_CMD a) (tgt - m.sp)).addReg (Reg.MOT_LEDGER_EXE a) (tgt - m.sp)
    (d.wrB (Reg.MOT_MSTAT a) 6 false).showMot a
  else
    let e : PEnt := ⟨(tgt : Rat) / 256, fun u => let g := d.governor a u; if 0 < g then min (d.limV a u) g else d.limV a u, false⟩
    let (ss, _, _) := planQueue (d.lim a) (d.lim a) ⟨m.x, m.v, m.a⟩ [e]
    let (ss', clk) := advance (renumber 0 ss) 0 t
    let k := (planAt ss' clk).getD ⟨(tgt : Rat) / 256, 0, 0⟩
    let sp := d.spOf a k.x
    let d := put d sp k.x k.v k.a ss' clk
    let d := (d.addReg (Reg.MOT_LEDGER_CMD a) (sp - m.sp)).addReg (Reg.MOT_LEDGER_EXE a) (sp - m.sp)
    let d := ((d.raiseMot a 10).wrB (Reg.MOT_MSTAT a) 6 true).showMot a
    if held then (d.raiseMot a 11).wrB (Reg.MOT_MSTAT a) 5 true else d

/-- One position period of a plan: S_k is the plan at the end of the period (R91); a plan that ends within
it issues its target exactly (R92). Entries whose joint has been passed leave the queue. -/
def Dev.planTick (d : Dev) (a : Axis) : Dev :=
  let m := d.mot[a]
  let (ss, clk) := advance m.segs m.clk d.posTs
  let k := (planAt ss clk).getD ⟨(m.lastTgt : Rat) / 256, 0, 0⟩
  let sp := if ss.isEmpty then (if m.segs.isEmpty then m.sp else m.lastTgt) else d.spOf a k.x
  let done := match ss with
    | [] => 0
    | s :: _ => if s.ent = 15 then 0 else s.ent
  let d := d.modMot a (fun x => { x with
    segs := (if done = 0 then ss else ss.map (fun s => if s.ent = 15 then s else { s with ent := s.ent - done }))
    clk := clk, x := if ss.isEmpty then (sp : Rat) / 256 else k.x, v := k.v, a := k.a
    spPrev2 := x.spPrev, spPrev := x.sp, sp := sp
    queue := if x.slaveOf.isNone then x.queue.drop done else x.queue })
  let d := d.addReg (Reg.MOT_LEDGER_EXE a) (sp - m.sp)
  let d := if d.rdB (Reg.MOT_MSTAT a) 6 && (m.above || !d.mot[a].inRundown) && !d.tooFast a then
    (d.wrB (Reg.MOT_MSTAT a) 6 false).modMot a (fun x => { x with above := false }) else d
  d.showMot a

/-- A run-down in progress goes on under changed limits (R101, R106): the axis comes to rest elsewhere, and what the
ledger holds for it follows. -/
def Dev.runDownAnew (d : Dev) (a : Axis) : Dev :=
  let m := d.mot[a]
  let (d, raised, x1) := d.layRunDown a m.quick
  let d := if raised then d.raiseMot a 10 else d
  if m.queue.isEmpty then
    let rest := roundAway (x1 * 256)
    let k := m.lastTgt - rest
    let d := d.modMot a (fun x => { x with lastTgt := rest })
    if m.home = .idle then (d.addReg (Reg.MOT_LEDGER_RES a) k).addReg (Reg.MOT_LAST_RES a) k
    else d.addReg (Reg.MOT_LEDGER_CMD a) (-k)
  else d.replanAx a true

/-- MODE left FOLLOW while the axis moves after its target: it runs down, and the rest point counts as commanded; the spec
does not say (log 24). -/
def Dev.leaveFollow (d : Dev) (a : Axis) : Dev :=
  let m := d.mot[a]
  if m.running then
    let (ss, _) := planStop (d.lim a) ⟨m.x, m.v, m.a⟩
    let rest : Int := if ss.isEmpty then m.sp else roundAway (segsEnd m.x ss * 256)
    let d := d.modMot a (fun x => { x with segs := ss, clk := 0, lastTgt := rest, running := !ss.isEmpty })
    (d.addReg (Reg.MOT_LEDGER_CMD a) (rest - m.lastTgt)).showMot a
  else d

/-- A commit changed a limit, MASS or KE_CAP of a moving axis (R101): it goes on under the new ones, with LIMITED while it
is faster than the new bound. -/
def Dev.newLimits (d : Dev) (a : Axis) : Dev :=
  let m := d.mot[a]
  if m.queue.isEmpty && !m.inRundown then (if d.follow a then d else d.leaveFollow a)
  else
    let above := d.tooFast a
    let d := d.modMot a (fun x => { x with above := above })
    let d := if m.inRundown then d.runDownAnew a else d.replanAx a true
    (if above then (d.raiseMot a 10).wrB (Reg.MOT_MSTAT a) 6 true else d).showMot a

/-- The part of a position tick that takes the period's commands, alignment and changed limits (R93, R101, R121). Limits
of a slaved swing axis count with the slide's queue. -/
def Dev.motCommands (d : Dev) (a : Axis) : Dev :=
  let d := if d.mot[a].slaveOf.isNone then d.profileDone a else d
  let m := d.mot[a]
  let d := d.modMot a (fun x => { x with mcmds := [], mcmdCnt := 0 })
  let d := if d.axEn a && d.drivesAx a && m.alignDue then d.trackAx a else d
  let slave : Option Axis := (d.swingOf a).filter (fun w => d.mot[w].slaveOf == some a.val && d.mot[w].replan)
  let due := (m.replan || slave.isSome) && m.slaveOf.isNone
  let d := if due then
      let d := d.modMot a (fun x => { x with replan := false })
      let d := match slave with | none => d | some w => d.modMot w (fun x => { x with replan := false })
      d.newLimits a
    else d
  m.mcmds.foldl (fun d c => d.mcmdExec a c) d

/-- The set-point of an enabled generator for the period that starts (R91, R107). -/
def Dev.issueAx (d : Dev) (a : Axis) : Dev :=
  let m := d.mot[a]
  if d.follow a && (!m.busy || (m.queue.isEmpty && !m.inRundown)) then d.followTick a else d.planTick a

/-- SETPOINT_ISSUE of one generator at a position tick (R91, R93, R107). On a member that does not drive it runs in
parallel, until a copy replaces it (R94, R282). -/
def Dev.motIssue (d : Dev) (a : Axis) : Dev :=
  if !d.axEn a then d.trackAx a
  else if d.mot[a].silenced then d.modMot a (fun x => { x with spPrev2 := x.spPrev, spPrev := x.sp })
  else d.issueAx a

/-- The interpolated set-point at current tick `j` of a period of `n` (R91), rounded toward S_(k−1). -/
def Dev.spInterp (d : Dev) (a : Axis) (j n : Nat) : Int :=
  let m := d.mot[a]
  let δ := (m.sp - m.spPrev) * j
  m.spPrev + (if n = 0 then 0 else if 0 ≤ δ then δ / n else -((-δ) / n))

/-- HALTs waiting for this strobe take effect (R205, R206). -/
def Dev.haltsDue (d : Dev) (a : Axis) : Dev :=
  let hs := d.mot[a].mcmds.filter (fun c => c.code == 5)
  if hs.isEmpty then d
  else
    let d := d.modMot a (fun x => { x with mcmds := x.mcmds.filter (fun c => c.code != 5) })
    hs.foldl (fun d c => d.mcmdExec a c) d

end Sys2Proof.Machine
end

