-- ==== Sys2Proof/Machine/Encoder.lean ====
section
/-!
DEFINITION. Encoder channels (spec/05): lines and their acceptance, counting, speed, index and drift, Hall sectors, wire
faults, and untrusted positions.
-/

namespace Sys2Proof.Machine

/-- The generator that a channel serves (R122); channel and generator numbers are the same. -/
def Enc.axisOf (c : Enc) : Axis := c
/-- The channel of a servo axis. -/
def isServoCh (c : Enc) : Bool := decide (c.val < 16)

/-- Quadrature code of accepted levels along increasing count: 00, 10, 11, 01 (R126). -/
def quad (a b : Bool) : Nat := match a, b with
  | false, false => 0 | true, false => 1 | true, true => 2 | false, true => 3

/-- The change a transition makes, or `none` where it is illegal (R126). -/
def quadStep (old new : Nat) : Option Int :=
  match (new + 4 - old) % 4 with
  | 0 => some 0 | 1 => some 1 | 3 => some (-1) | _ => none

/-- SPD_TIMEOUT in 5 ns units. -/
def Dev.spdTimeout (d : Dev) (c : Enc) : Nat := d.rdF (Reg.ENC_CFG c) 15 8 * ms 1

/-- The position of the channel's axis is not to be trusted: POS_UNCERTAIN of a servo axis on the member
that drives its portal (R135). -/
def Dev.untrust (d : Dev) (c : Enc) : Dev :=
  if isServoCh c && d.drivesAx (Enc.axisOf c) then d.wrB (Reg.MOT_MSTAT (Enc.axisOf c)) 7 true else d

/-- An illegal transition in the sample at `t` (R126, R127): the count holds, the speed measurement restarts, and a window
whose count exceeds ILL_LIMIT trips. -/
def Dev.encIllegal (d : Dev) (c : Enc) (t : Nat) : Dev :=
  let d := d.incSat (Reg.ENC_ILL_TOTAL c) 0xFFFFFFFF
  let d := d.raiseEnc c 2
  let d := d.modEnc c (fun e => { e with restart := true, illAt := some t })
  let n := d.rdF (Reg.ENC_STATUS c) 15 8 + 1
  let d := d.wrF (Reg.ENC_STATUS c) 15 8 (min 255 n)
  if d.rdF (Reg.ENC_CFG c) 31 24 < n then (d.modEnc c (fun e => { e with uncPend := true })).raiseEnc c 3 else d

/-- The counts of the last microsecond, and the one before them (R134). -/
def recentCounts (t : Nat) : List (Nat × Int) → List (Nat × Int)
  | [] => []
  | p :: ps => if p.1 + us 1 ≤ t then [p] else p :: recentCounts t ps

/-- The count in the sample at `t0`. -/
def countAt (t0 : Nat) (now : Int) : List (Nat × Int) → Int
  | [] => now
  | p :: ps => if p.1 ≤ t0 then p.2 else countAt t0 now ps

/-- A legal transition by `k` stamped `t` (R126, R129); a servo axis's live position compares see the change
at once (R112). -/
def Dev.encLegal (d : Dev) (c : Enc) (k : Int) (t : Nat) : Dev :=
  let k := if d.rdB (Reg.ENC_CFG c) 1 then -k else k
  let old := d.posInt (Enc.axisOf c)
  let d := d.addReg (Reg.ENC_COUNT c) k
  let n := (d.rd (Reg.ENC_COUNT c)).toInt
  let tmo := d.spdTimeout c
  let d := d.modEnc c (fun e =>
    let first := e.restart || decide (k ≠ e.lastDir)
    { e with
      cRef := if first then n else e.cRef
      tRef := if first then t else e.tRef
      lastDir := k, restart := false
      per := if first then (tmo : Rat) else e.per
      recent := recentCounts t ((t, n) :: (if e.recent.isEmpty then [(0, n - k)] else e.recent))
      cLast := n, tLast := t, newEdge := true })
  let d := (d.wr (Reg.ENC_EDGE_TIME c) (d.stampAt t)).wrB (Reg.ENC_STATUS c) 3 false
  let d := d.wrB (Reg.ENC_STATUS c) 16 (decide (k < 0))
  if isServoCh c then d.cmpEval (Enc.axisOf c) false (256 * old) (256 * d.posInt (Enc.axisOf c)) else d

/-- Line `i` in one sample (R123): complementary wires give the level of the _P wire, wires that agree keep it. -/
def EncCh.lineIn (e : EncCh) (i : Nat) (w : Wires) : EncCh :=
  let v := if w.p != w.n then w.p else e.lvl.getD i false
  let k := if v == e.lvl.getD i false then min 4 (e.run.getD i 0 + 1) else 1
  { e with lvl := e.lvl.set i v, run := e.run.set i k }

/-- The accepted level of line `i`: a level that 1 + FILT samples have shown, else the one before (R124). -/
def Dev.lineLvl (d : Dev) (c : Enc) (i : Nat) (old : Bool) : Bool :=
  if d.rdF (Reg.ENC_CFG c) 7 6 < d.enc[c].run.getD i 0 then d.enc[c].lvl.getD i false else old

/-- The decoder at one sample (R126): the accepted levels against those of the sample before. Step channels have no
index line (R122). -/
def Dev.encDecode (d : Dev) (c : Enc) (t : Nat) : Dev :=
  let w := d.rd (Reg.ENC_STATUS c)
  let a := d.lineLvl c 0 (bit w 0)
  let b := d.lineLvl c 1 (bit w 1)
  let z := isServoCh c && d.lineLvl c 2 (bit w 2)
  let d := d.wr (Reg.ENC_STATUS c) (setBit (setBit (setBit w 0 a) 1 b) 2 z)
  let d := if z then d else d.modEnc c (fun e => { e with zArmed := true })
  if d.rdB (Reg.ENC_CFG c) 0 then
    match quadStep (quad (bit w 0) (bit w 1)) (quad a b) with
    | none => d.encIllegal c t
    | some 0 => d
    | some k => d.encLegal c k t
  else d

/-- One sample at `t` (R123, R124, R126). -/
def Dev.encSample (d : Dev) (c : Enc) (t : Nat) (s : EncSample) : Dev :=
  (d.modEnc c (fun e => { (((e.lineIn 0 s.a).lineIn 1 s.b).lineIn 2 s.z) with sampAt := t })).encDecode c t

/-- The wires as they stand: lines at their levels. -/
def EncCh.steady (e : EncCh) : EncSample :=
  let w := fun i => let v := e.lvl.getD i false; (⟨v, !v⟩ : Wires)
  ⟨w 0, w 1, w 2⟩

/-- Samples that no command names, between the last one and `t`: the lines stand, until every level is accepted. -/
def Dev.encSteady (d : Dev) (c : Enc) (t : Nat) : Nat → Dev
  | 0 => d
  | k + 1 =>
    let n := d.enc[c].sampAt + 2
    if n < t then (d.encSample c n d.enc[c].steady).encSteady c t k else d

/-- Round to nearest, ties toward zero (R132). -/
def roundTieZero (q : Rat) : Int := if 0 ≤ q then (q - 1 / 2).ceil else -((-q - 1 / 2).ceil)

/-- DRIFT_CHECK (R132) between the latches `prev` and `latch`, not taken modulo 2^32 (log 139). -/
def Dev.driftCheck (d : Dev) (c : Enc) (prev latch : Int) : Dev :=
  let cpr : Int := d.rdF (Reg.ENC_INDEX_CFG c) 23 0
  let k := latch - prev
  let drift := if cpr = 0 then k else k - roundTieZero ((k : Rat) / cpr) * cpr
  let d := (d.wr (Reg.ENC_DRIFT c) (wi drift)).addReg (Reg.ENC_DRIFT_SUM c) drift
  if (d.rdF (Reg.ENC_INDEX_CFG c) 31 24 : Int) < |drift| then
    (d.modEnc c (fun e => { e with uncPend := true })).raiseEnc c 5
  else d

/-- An index event in the sample at `t` (R131, R132): Z accepted active with AB at ZQUAL, after Z was inactive; a wire
fault on Z suspends it, and a sample that held an illegal transition makes it suspect. -/
def Dev.encIndex (d : Dev) (c : Enc) (t : Nat) : Dev :=
  let w := d.rd (Reg.ENC_STATUS c)
  let cfg := d.rd (Reg.ENC_CFG c)
  if isServoCh c && bit cfg 0 && bit cfg 2 && !bit w 6 && bit w 2 && d.enc[c].zArmed
      && (bit w 0 == bit cfg 17) && (bit w 1 == bit cfg 16) then
    let known := d.enc[c].latchKnown
    let prev := d.rd (Reg.ENC_INDEX_LATCH c)
    let d := (d.wr (Reg.ENC_INDEX_PREV c) prev).wr (Reg.ENC_INDEX_LATCH c) (d.rd (Reg.ENC_COUNT c))
    let d := d.wr (Reg.ENC_INDEX_CNT c) (d.rd (Reg.ENC_INDEX_CNT c) + 1)
    let d := (d.modEnc c (fun e => { e with zArmed := false, latchKnown := true })).raiseEnc c 4
    if d.enc[c].illAt = some t then d.raiseEnc c 6
    else if known then d.driftCheck c prev.toInt (d.rd (Reg.ENC_INDEX_LATCH c)).toInt else d
  else d

/-- A line's level stands that is not yet accepted. -/
def Dev.encUnsettled (d : Dev) (c : Enc) : Bool :=
  [0, 1, 2].any (fun i => (d.enc[c].lvl.getD i false) != d.rdB (Reg.ENC_STATUS c) i)

/-- The samples before `t` that no command names: a level that stands is accepted on time (R124). -/
def Dev.encUpTo (d : Dev) (c : Enc) (t : Nat) : Dev := if d.encUnsettled c then d.encSteady c t 3 else d

/-- A sample or the look for an index in the sample at `t`, once no strobe instant comes before it. -/
def Dev.encEvent (d : Dev) (c : Enc) : EncEvt → Dev
  | .sample t s => (d.encSteady c t 3).encSample c t s
  | .index t => (d.encUpTo c (t + 1)).encIndex c t

/-- The carrier runs: strobe instants come about. -/
def Dev.ticking (d : Dev) : Bool := d.time.tc0.isSome && d.time.xtalOk && !decide (d.pwr.st = .dormant)

/-- The awaited strobe instant comes at or before `t`: what a sample at `t` shows belongs to the tick after it (R128). -/
def Dev.afterStrobe (d : Dev) (t : Nat) : Bool := d.ticking && decide (d.time.nextValley ≤ t)

/-- A sample or an index event of the channel at `t`; one on or after the awaited strobe instant waits for it. In DORMANT
the front end is stopped (R380). -/
def Dev.encTake (d : Dev) (c : Enc) (t : Nat) (e : EncEvt) : Dev :=
  if d.pwr.st = .dormant then d
  else if d.afterStrobe t then d.modEnc c (fun x => { x with held := x.held ++ [e] }) else d.encEvent c e

/-- What waited for the strobe instant that has passed. -/
def Dev.encHeld (d : Dev) (c : Enc) : Dev :=
  d.enc[c].held.foldl (fun d e => d.encEvent c e) (d.modEnc c (fun e => { e with held := [] }))

/-- Consecutive samples from `t` on. -/
def Dev.encSamples (d : Dev) (c : Enc) : Nat → List EncSample → Dev
  | _, [] => d
  | t, s :: ss => ((d.upTo t).encTake c t (.sample t s)).encSamples c (t + 2) ss

/-- INDEX_EVENT at `t`. -/
def Dev.indexEvent (d : Dev) (c : Enc) (t : Nat) : Dev := (d.upTo t).encTake c t (.index t)

/-- ILL_WINDOW_END (R127): a window of ILL_WIN position periods has run since a position tick; a new one starts, and its
count restarts at 0. -/
def Dev.illWindowEnd (d : Dev) (c : Enc) : Dev :=
  if d.enc[c].winAt + d.rdF (Reg.ENC_CFG c) 23 18 ≤ d.time.posRun then
    (d.modEnc c (fun e => { e with winAt := d.time.posRun })).wrF (Reg.ENC_STATUS c) 15 8 0
  else d

/-- Per-tick part of the speed measurement (R129), at strobe time `ts`. Speeds are counts/s; SPEED is in
1/16 count/s. A COUNT that wrapped between two edges gives their difference unwrapped (log 139). -/
def Dev.speedTick (d : Dev) (c : Enc) (ts : Nat) : Dev :=
  let e := d.enc[c]
  let put := fun (d : Dev) (v : Rat) => d.wr (Reg.ENC_SPEED c) (wi (satS 32 (d.near (v * 16) (300 + c))))
  let d :=
    if e.newEdge && e.cLast != e.cRef && decide (e.tRef < e.tLast) then
      let dc := e.cLast - e.cRef
      let dt : Rat := (e.tLast : Rat) - e.tRef
      let d := put d ((dc : Rat) * 200000000 / dt)
      d.modEnc c (fun e => { e with per := dt / |(dc : Rat)|, cRef := e.cLast, tRef := e.tLast })
    else if e.newEdge then put d 0
    else if d.spdTimeout c ≤ ts - e.tLast then (put d 0).wrB (Reg.ENC_STATUS c) 3 true
    else if e.per < ((ts - e.tLast : Nat) : Rat) then put d ((e.lastDir : Rat) * 200000000 / ((ts - e.tLast : Nat) : Rat))
    else d
  let d := d.modEnc c (fun e => { e with newEdge := false })
  d.wr (Reg.ENC_PERIOD c) (wn (min 0xFFFFFFFF (d.near d.enc[c].per (330 + c)).toNat))

/-- SPD_TIMEOUT_EXPIRY (R129): no edge for SPD_TIMEOUT. -/
def Dev.spdExpiry (d : Dev) (c : Enc) : Dev :=
  ((d.upTo (d.enc[c].tLast + d.spdTimeout c)).wr (Reg.ENC_SPEED c) 0).wrB (Reg.ENC_STATUS c) 3 true

/-- STATUS bit of the wire fault on line 0 A, 1 B, 2 Z. -/
def wireBit (line : Fin 3) : Nat := 4 + line.val

/-- WIRE_FAULT (R123, R135); step channels have no line Z (R122). -/
def Dev.wireFault (d : Dev) (c : Enc) (line : Fin 3) : Dev :=
  if line.val = 2 then
    if isServoCh c then (d.wrB (Reg.ENC_STATUS c) 6 true).raiseEnc c 1 else d
  else ((d.wrB (Reg.ENC_STATUS c) (wireBit line) true).raiseEnc c 0).untrust c

/-- WIRE_FAULT_END (R123, R129): the live bit clears; on A or B the speed measurement restarts. -/
def Dev.wireFaultEnd (d : Dev) (c : Enc) (line : Fin 3) : Dev :=
  let d := d.wrB (Reg.ENC_STATUS c) (wireBit line) false
  if line.val = 2 then d else d.modEnc c (fun e => { e with restart := true })

/-- Sector of a Hall code (R133); 7 = invalid. -/
def hallSector (code : Nat) (rev : Bool) : Nat :=
  let s := match code with | 1 => 0 | 3 => 1 | 2 => 2 | 6 => 3 | 4 => 4 | 5 => 5 | _ => 7
  if s = 7 then 7 else if rev then 5 - s else s

/-- HALL_SECTOR_CHANGE (R133, R134): the inputs accept `code` after 1 µs of agreeing samples, the first of them at `t0`,
whose count the latch takes. A first valid sector after none is neither an edge nor an error (log 25). -/
def Dev.hallChange (d : Dev) (c : Enc) (code : BitVec 3) (t0 : Nat) : Dev :=
  let d := d.upTo (t0 + us 1)
  if isServoCh c && !decide (d.pwr.st = .dormant) && d.rdB (Reg.ENC_CFG c) 3 then
    let old := d.rdF (Reg.ENC_HALL c) 6 4
    let s := hallSector code.toNat (d.rdB (Reg.ENC_CFG c) 4)
    let d := (d.wrF (Reg.ENC_HALL c) 2 0 code.toNat).wrF (Reg.ENC_HALL c) 6 4 s
    if s = 7 then d.raiseEnc c 8
    else if old = 7 ∨ s = old then d
    else if (s + 6 - old) % 6 = 1 ∨ (s + 6 - old) % 6 = 5 then
      let cnt := countAt t0 (d.rd (Reg.ENC_COUNT c)).toInt d.enc[c].recent
      let d := d.modEnc c (fun e => { e with hallB := if (s + 6 - old) % 6 = 1 then s else old })
      ((d.wr (Reg.ENC_HALL_LATCH c) (wi cnt)).wrB (Reg.ENC_HALL c) 8 true).raiseEnc c 7
    else d.raiseEnc c 8
  else d

/-- A commit of HALL_REV re-forms the sector reported (R133). -/
def Dev.hallReform (d : Dev) (c : Enc) : Dev :=
  if isServoCh c then
    d.wrF (Reg.ENC_HALL c) 6 4 (hallSector (d.rdF (Reg.ENC_HALL c) 2 0) (d.rdB (Reg.ENC_CFG c) 4))
  else d

/-- UNC_CLR (R136): a clear that may be accepted waits for the strobe instant; a step channel refuses at once. -/
def Dev.uncClr (d : Dev) (c : Enc) : Dev :=
  if isServoCh c then d.modEnc c (fun e => { e with uncReq := true }) else d.raiseEnc c 10

/-- The strobe instant at which a write of UNC_CLR becomes visible (R136). -/
def Dev.uncClrDue (d : Dev) (c : Enc) : Dev :=
  if d.enc[c].uncReq then
    let a := Enc.axisOf c
    let w := d.rd (Reg.ENC_STATUS c)
    let d := d.modEnc c (fun e => { e with uncReq := false })
    if d.drivesAx a && !bit w 4 && !bit w 5 && (d.mot[a].silenced || !d.mot[a].busy) then
      let d := (d.wrB (Reg.MOT_MSTAT a) 7 false).wrB (Reg.MOT_MSTAT a) 8 false
      (d.modEnc c (fun e => { e with latchKnown := false, winAt := d.time.posRun })).wrF (Reg.ENC_STATUS c) 15 8 0
    else d.raiseEnc c 10
  else d

/-- DRIFT_CLR (R138): DRIFT_SUM is zeroed and INDEX_PREV forgotten; step channels ignore it. -/
def Dev.driftClr (d : Dev) (c : Enc) : Dev :=
  if isServoCh c then (d.wr (Reg.ENC_DRIFT_SUM c) 0).modEnc c (fun e => { e with latchKnown := false }) else d

/-- POS_UNCERTAIN_SET at a position tick (R127, R132, R135), after a clear that takes effect at the same instant: a cause
that tripped before it still acts (R136). -/
def Dev.encPosTick (d : Dev) (c : Enc) : Dev :=
  if d.enc[c].uncPend then (d.modEnc c (fun e => { e with uncPend := false })).untrust c else d

/-- A STATE copy carries the driver's count, latched at the same position tick as `own` (R137): the first
aligns; a difference of more than 2 on two consecutive copies sets XREAD and re-aligns. Answers whether the
members disagree. -/
def Dev.encCopy (d : Dev) (c : Enc) (copied own : Int) : Dev × Bool :=
  if !d.enc[c].aligned then
    ((d.modEnc c (fun e => { e with aligned := true, xreadBad := false })).wr (Reg.ENC_ALIGN c) (wi (copied - own)), false)
  else
    let e := (wi copied - (wi own + d.rd (Reg.ENC_ALIGN c))).toInt
    let bad := decide (2 < |e|)
    let d := d.wr (Reg.ENC_XREAD_ERR c) (wi e)
    if bad && d.enc[c].xreadBad then
      (((d.modEnc c (fun x => { x with xreadBad := false })).wr (Reg.ENC_ALIGN c) (wi (copied - own))).raiseEnc c 9, true)
    else (d.modEnc c (fun x => { x with xreadBad := bad }), false)

/-- A rising edge of CFG.EN (R128, R129, R132, R134, R137). It is this enable that clears HALL_SYNC (log 142). -/
def Dev.encEnable (d : Dev) (c : Enc) : Dev :=
  (d.modEnc c (fun e => { e with restart := true, latchKnown := false, aligned := false })).wrB (Reg.ENC_HALL c) 8 false

end Sys2Proof.Machine
end

