-- ==== Sys2Proof/Machine/Servo.lean ====
section
/-!
DEFINITION. Servo axes (spec/06): the standard servo program's three loops with their feed-forward, the
shadow registers and the hardware's bends, the coefficient banks, and the gate shut-off. Where R151 to R156
leave the order of binary32 operations open, one order is fixed here (log 43).
-/

namespace Sys2Proof.Machine

/-! ### Constants in binary32 -/

def f0 : Word := 0x00000000#32
def f1 : Word := 0x3F800000#32
def fHalf : Word := 0x3F000000#32
def f2 : Word := 0x40000000#32
/-- 2π, 1 ÷ √3 and √3 ÷ 2, rounded. -/
def fTwoPi : Word := fofRat (6283185307179586 / 1000000000000000)
def fInvSqrt3 : Word := fofRat (577350269189626 / 1000000000000000)
def fSqrt3Half : Word := fofRat (866025403784439 / 1000000000000000)

/-! ### Banks (R153, R158) -/

/-- BANK_CTRL.ACTIVE: bank B is in force. -/
def Dev.bankB (d : Dev) (n : Sax) : Bool := d.rdB (Reg.SAX_BANK_CTRL n) 16
/-- Address of bank register `i`. -/
def bankAddr (n : Sax) (b : Bool) (i : Nat) : Nat := if b then Reg.SAX_BANK_B n i else Reg.SAX_BANK_A n i
/-- Bank register `i` of a bank. -/
def Dev.bankReg (d : Dev) (n : Sax) (b : Bool) (i : Nat) : Word := d.rd (bankAddr n b i)
/-- Bank register `i` of the active bank. -/
def Dev.bk (d : Dev) (n : Sax) (i : Nat) : Word := d.bankReg n (d.bankB n) i
/-- SEALED_A and SEALED_B. -/
def Dev.sealed (d : Dev) (n : Sax) (b : Bool) : Bool := d.rdB (Reg.SAX_BANK_CTRL n) (if b then 18 else 17)
/-- Offset of a bank's table region in table memory. -/
def bankTbl (n : Sax) (b : Bool) : Nat := n.val * 0x4000 + (if b then 0x2000 else 0)
/-- A byte of table memory, by its offset from 20_0000h. -/
def Dev.tb (d : Dev) (ofs : Nat) : Nat := (Cells.read zeroCell d.tmem ofs).toNat
/-- Signed 16-bit table entry `i` of the array at `arr` in the active bank (R153). -/
def Dev.tblEnt (d : Dev) (n : Sax) (arr i : Nat) : Int :=
  let o := bankTbl n (d.bankB n) + arr + 2 * i
  sext 16 (d.tb o + 256 * d.tb (o + 1))

/-- The 20 bank registers in offset order, then the table region (R158, log 44). -/
def Dev.bankBytes (d : Dev) (n : Sax) (b : Bool) : List Byte :=
  (List.range 20).flatMap (fun i => leBytes 4 (d.bankReg n b i).toNat)
    ++ Cells.readRun zeroCell 1 d.tmem (bankTbl n b) 0x2000

/-- Interpolation of R154 at `u`, clamped to 0 to 1 023; with `wrap`, for an index below 1 024, the entry after the last is
T[0] (R156). The result is in 0.1 N. -/
def Dev.interp (d : Dev) (n : Sax) (arr : Nat) (u : Word) (wrap : Bool) : Word :=
  let u := if wrap then u else fclamp u f0 0x447FC000#32
  let i := (cvtfx u 0).toNat % 1024
  let t0 := d.tblEnt n arr i
  if i = 1023 ∧ !wrap then cvtxf t0 0
  else
    let t1 := d.tblEnt n arr ((i + 1) % 1024)
    fma (cvtxf t0 0) (fsub u (cvtxf (i : Int) 0)) (cvtxf (t1 - t0) 0)

/-! ### The step function of the loops (R151) -/

/-- `pi_step`: output, saturation and the integrator for the next update. -/
def piStep (e kp ki dt ff lo hi integ : Word) : Word × Bool × Word :=
  let u := fadd (fma integ kp e) ff
  if fclt hi u then (hi, true, integ)
  else if fclt u lo then (lo, true, integ)
  else (u, false, fclamp (fma integ (fmul ki dt) e) lo hi)

/-- A period in 5 ns units as seconds in binary32. -/
def secF (t : Nat) : Word := fofRat ((t : Rat) / 200000000)

/-- STATUS.SAT_I [7], SAT_V [8], SAT_X [9]. -/
def Dev.setSat (d : Dev) (n : Sax) (i : Nat) (s : Bool) : Dev := d.wrB (Reg.SAX_STATUS n) i s

/-- Velocity set-point of R91 in counts/s. -/
def Dev.vSet (d : Dev) (a : Axis) : Word :=
  let m := d.mot[a]
  if d.posT = 0 then f0 else fofRat ((m.sp - m.spPrev : Int) / 256 / d.posTs)

/-- The position task (R152): e is s₀ − x in 32.8. -/
def Dev.servoPos (d : Dev) (n : Sax) : Dev :=
  let a := Sax.axis n
  let s := d.servo[n]
  let e := cvtxf (d.mot[a].spPrev - 256 * d.posSnap a) 8
  let lim := d.bk n 7
  let (u, sat, i) := piStep e (d.bk n 4) (d.bk n 5) (secF d.posT) f0 (fneg lim) lim s.intX
  ((d.modServo n (fun s => { s with intX := i, eX := e, vc := u, pub := (s.pub.set 6 u).set 9 i })).setSat n 9 sat).wr
    (Reg.SAX_LAST n 7) u

/-- KT × RATIO. -/
def Dev.ktRatio (d : Dev) (n : Sax) : Word := fmul (d.rd (Reg.SAX_KT n)) (d.rd (Reg.SAX_RATIO n))

/-- SCALE ÷ 65.536, counts per metre (R155). -/
def Dev.perMetre (d : Dev) (a : Axis) : Rat := ((d.rd (Reg.MOT_SCALE a)).toNat : Rat) * 1000 / 65536

/-- FF_CFG bits: ACC_EN 0, FRIC_EN 1, COG_EN 2, DECOUPLE 3. -/
def Dev.ffOn (d : Dev) (n : Sax) (i : Nat) : Bool := d.rdB (bankAddr n (d.bankB n) 17) i

/-- The friction force F_f of R155 in newtons, for a velocity `vref`. -/
def Dev.friction (d : Dev) (n : Sax) (vref : Word) : Word :=
  let a := Sax.axis n
  let neg := fclt vref f0
  let tenths :=
    if d.refValid a then
      let x := cvtxf (d.posSnap a - (d.bk n 13).toInt) 0
      d.interp n (if d.closing a (!neg) then 0x800 else 0) (fmul x (d.bk n 14)) false
    else cvtxf (sfld (d.bk n 16) 15 0) 0
  let mag := fmul tenths (fofRat (1 / 10))
  let av := fabs vref
  let mag := if fclt av (d.bk n 15) then fmul mag (fdiv av (d.bk n 15)) else mag
  if fceq vref f0 then f0 else if neg then fneg mag else mag

/-- M_FF × a with a the planned acceleration in m/s² (R155). -/
def Dev.massForce (d : Dev) (n : Sax) : Word :=
  fmul (d.bk n 12) (fdiv (cvtxf (d.rd (Reg.MOT_SP_ACC (Sax.axis n))).toInt 0) (fofRat (d.perMetre (Sax.axis n))))

/-- The speed task (R151, R155). -/
def Dev.servoSpd (d : Dev) (n : Sax) : Dev :=
  let a := Sax.axis n
  let s := d.servo[n]
  let vmeas := cvtxf (d.rd (Reg.ENC_SPEED n)).toInt 4
  let vref := fadd (d.vSet a) s.vc
  let e := fsub vref vmeas
  let ff := d.friction n vref
  let acc := if d.ffOn n 0 then d.massForce n else f0
  let iff := fdiv (fadd acc (if d.ffOn n 1 then ff else f0)) (d.ktRatio n)
  let lim := d.bk n 6
  let (u, sat, i) := piStep e (d.bk n 2) (d.bk n 3) (secF d.spdT) iff (fneg lim) lim s.intV
  (d.modServo n (fun s => { s with
    intV := i, eV := e, vref := vref, iff := iff, ffFric := ff, iqRef := u, pub := (s.pub.set 8 i).set 10 ff })).setSat n 8 sat

/-- The electrical angle of R150 at the snapshot count, setting ANG_OFS at the first task that sees an
adjacent sector change since enable. Without a valid sector, and with CPR = 0, the spec states no angle: it
is a free value. θe and ANG_OFS are rounded down to Q1.31; ANG_OFS is formed anew after each enable of the axis (log 142). -/
def Dev.theta (d : Dev) (n : Sax) : Dev × Word :=
  let c : Enc := Sax.axis n
  let cpr := d.rdF (Reg.ENC_INDEX_CFG c) 23 0
  let pp := d.rdF (Reg.SAX_CFG n) 4 0
  let phase := d.rdF (Reg.SAX_HALL_PHASE n) 15 0 * 65536
  let turn := fun (cnt : Int) => ((pp : Int) * (cnt % cpr) * 2 ^ 32) / cpr
  let d := if !d.servo[n].angSet && d.rdB (Reg.ENC_HALL c) 8 && cpr != 0 then
      let b : Int := (phase : Int) + ((2 * d.enc[c].hallB : Int) - 1) * 2 ^ 32 / 12
      (d.wr (Reg.SAX_ANG_OFS n) (wi (b - turn (d.rd (Reg.ENC_HALL_LATCH c) + d.rd (Reg.ENC_ALIGN c)).toInt))).modServo n
        (fun s => { s with angSet := true })
    else d
  let sec := d.rdF (Reg.ENC_HALL c) 6 4
  if d.servo[n].angSet && cpr != 0 then (d, d.rd (Reg.SAX_ANG_OFS n) + wi (turn (d.encCount c)))
  else if sec = 7 ∨ d.servo[n].angSet then (d, wn (d.free (400 + n) (2 ^ 32)))
  else (d, wi ((phase : Int) + (sec : Int) * 2 ^ 32 / 6))

/-- A binary32 duty as Q0.16 (R142): rounded to nearest even and saturated, which the spec leaves open (log 140). -/
def Dev.duty (v : Word) : Nat := satU 16 (rne (ftoRat v * 65536))

/-- The cogging force COG(c) of R156 in newtons at the snapshot count. -/
def Dev.cogging (d : Dev) (n : Sax) : Word :=
  let cpr := d.rdF (Reg.ENC_INDEX_CFG (Sax.axis n)) 23 0
  if cpr ≠ 0 then
    let c := d.encCount (Sax.axis n) % cpr
    let u := fdiv (fmul (cvtxf c 0) 0x44800000#32) (cvtxf (cpr : Int) 0)
    fmul (d.interp n 0x1000 u true) (fofRat (1 / 10))
  else f0

/-- The duties of R149 from phase voltages with min-max injection. -/
def svDuties (vu vv vw vbus : Word) : List Word :=
  let voff := fneg (fmul fHalf (fadd (fmax (fmax vu vv) vw) (fmin (fmin vu vv) vw)))
  let r := frecip vbus
  [vu, vv, vw].map (fun v => fma fHalf (fadd v voff) r)

/-- The front end of a servo axis at a current tick (R33, R145): the sinc3 outputs of SXn_IU and SXn_IV completed at the
valley, from their bitstreams. -/
def Dev.servoLatch (d : Dev) (n : Sax) (bu bv : List Bool) : Dev :=
  let osr := d.rdF (Reg.SAX_DSM_CFG n) 8 0
  (d.wr (Reg.SAX_LAST n 0) (d.sincWord (620 + n.val) osr bu)).wr (Reg.SAX_LAST n 1) (d.sincWord (640 + n.val) osr bv)

/-- The current task (R151, R156) on the snapshot's phase currents. It writes the next period's duties into the
shadow. With PHASE_SWAP the input SXn_IV carries the current of phase W (R168). -/
def Dev.servoCur (d : Dev) (n : Sax) : Dev :=
  let qu := d.sn (Reg.SAX_LAST n 0)
  let qv := d.sn (Reg.SAX_LAST n 1)
  let cfg := d.rd (Reg.SAX_CFG n)
  let ifs := d.rd (Reg.SAX_IFS n)
  let vbus := d.rd (Reg.SAX_VBUS n)
  let dt := secF d.pwmP
  let s := d.servo[n]
  let iu := fmul (cvtxf qu.toInt 31) ifs
  let ix := fmul (cvtxf qv.toInt 31) ifs
  let iv := if bit cfg 9 then fneg (fadd iu ix) else ix
  let cog := d.cogging n
  let icog := if d.ffOn n 2 then fdiv cog (d.ktRatio n) else f0
  let lim := d.bk n 6
  let iref := fclamp (fadd s.iqRef icog) (fneg lim) lim
  let put := fun (d : Dev) (th id iq vd vq : Word) (eD eQ iD iQ : Word) (sat : Bool) (ds : List Nat) =>
    let d := d.modServo n (fun s => { s with
      intD := iD, intQ := iQ, eD := eD, eQ := eQ, fCog := cog, iqs := (iq :: s.iqs).take 8
      pub := ((((((((s.pub.set 0 th).set 1 id).set 2 iq).set 3 iref).set 4 vd).set 5 vq).set 7 iQ).set 11 cog) })
    let d := d.setSat n 7 sat
    let d := (List.range 3).foldl (fun (d : Dev) i => d.wr (Reg.SAX_PWM_UVW n i) (wn (ds.getD i 0))) d
    [id, iq, vd, vq, iref].zipIdx.foldl (fun (d : Dev) p => d.wr (Reg.SAX_LAST n (p.2 + 2)) p.1) d
  if bit cfg 8 then
    let vlim := fmul (d.bk n 8) vbus
    let e := fsub iref iu
    let (v, sat, i) := piStep e (d.bk n 0) (d.bk n 1) dt f0 (fneg vlim) vlim s.intQ
    let h := fmul v (frecip (fmul f2 vbus))
    put d f0 f0 iu f0 v s.eD e s.intD i sat [Dev.duty (fadd fHalf h), Dev.duty (fsub fHalf h), 0]
  else
    let (d, th) := d.theta n
    let cs := Config.fcos th
    let sn := Config.fsin th
    let ia := iu
    let ib := fmul fInvSqrt3 (fma iu f2 iv)
    let id := fma (fmul ib sn) ia cs
    let iq := fms (fmul ib cs) ia sn
    let vmeas := cvtxf (d.rd (Reg.ENC_SPEED n)).toInt 4
    let cpr := d.rdF (Reg.ENC_INDEX_CFG (Sax.axis n)) 23 0
    let we := fdiv (fmul (fmul (cvtxf (fld cfg 4 0 : Int) 0) fTwoPi) vmeas) (cvtxf (cpr : Int) 0)
    let dec := d.ffOn n 3
    let ffd := if dec then fneg (fmul (fmul we (d.bk n 10)) iq) else f0
    let ffq := if dec then fmul we (fma (d.bk n 11) (d.bk n 9) id) else f0
    let vlim := fmul (fmul (d.bk n 8) vbus) fInvSqrt3
    let eD := fneg id
    let (vd, satD, iD) := piStep eD (d.bk n 0) (d.bk n 1) dt ffd (fneg vlim) vlim s.intD
    let rest := Config.fsqrt (fms (fmul vlim vlim) vd vd)
    let eQ := fsub iref iq
    let (vq, satQ, iQ) := piStep eQ (d.bk n 0) (d.bk n 1) dt ffq (fneg rest) rest s.intQ
    let va := fms (fmul vd cs) vq sn
    let vb := fma (fmul vd sn) vq cs
    let h := fneg (fmul fHalf va)
    let k := fmul fSqrt3Half vb
    let ds := (svDuties va (fadd h k) (fsub h k) vbus).map Dev.duty
    put d th id iq vd vq eD eQ iD iQ (satD || satQ) ds

/-- Publication of SAT at the end of a task: SAT_I [0], SAT_V [1], SAT_X [2] (R164). -/
def Dev.pubSat (d : Dev) (n : Sax) : Dev :=
  let v := wn (d.rdF (Reg.SAX_STATUS n) 9 7)
  d.modServo n (fun s => { s with pub := s.pub.set 13 v })

/-! ### Shadow registers (R31, R147, R148) -/

/-- MIN_LOW in 5 ns units. -/
def Dev.minLow (d : Dev) (n : Sax) : Nat := d.rdF (Reg.SAX_PWM_CFG n) 28 18 * 10 + 10

/-- The shadow becomes the duties in force; short pulses are dropped and short low-side times are clamped
(R148). A clamped duty that is no multiple of 2⁻¹⁶ is one of the two beside it (log 42). -/
def Dev.servoShadow (d : Dev) (n : Sax) : Dev :=
  let p := d.pwmP
  let dt := d.rdF (Reg.SAX_PWM_CFG n) 8 0
  let minP := d.rdF (Reg.SAX_PWM_CFG n) 17 9
  let minL := d.minLow n
  let legs := if d.rdB (Reg.SAX_CFG n) 8 then 2 else 3
  let ds := (List.range 3).map (fun i => d.rdF (Reg.SAX_PWM_UVW n i) 15 0)
  let drop := fun (x : Nat) => decide (((x : Rat) * p / 65536 - dt) < minP)
  let clamp := fun (x : Nat) => decide (((65536 - x : Nat) : Rat) * p / 65536 - dt < minL)
  let used := ds.take legs
  let lim := if p = 0 then 0 else (d.near (65536 * (1 - ((minL + dt : Nat) : Rat) / p)) (450 + n)).toNat
  let act := ds.zipIdx.map (fun q => if legs ≤ q.2 then 0 else if drop q.1 then 0 else if clamp q.1 then lim else q.1)
  let d := d.modServo n (fun s => { s with act := act, actPrev := s.act, pubPrev := s.pub })
  let w := d.rd (Reg.SAX_STATUS n)
  d.wr (Reg.SAX_STATUS n) (setBit (setBit w 5 (used.any drop)) 6 (used.any clamp))

/-! ### Gate shut-off (R146, R161, R162) -/

/-- A cause of R161 is latched on the axis: its bridge fault, over-current or stuck bitstream, the halted engine of its
portal (an exception, a late shadow write among them), a spine trip, or the loss of the crystal. -/
def Dev.causeLatched (d : Dev) (n : Sax) : Bool :=
  d.rdB (Reg.SAX_STATUS n) 1 || d.rdB (Reg.SAX_STATUS n) 2 || d.servo[n].dsmLatch
    || d.mcmdDead (Sax.axis n) || d.fio.tripDn || !d.time.xtalOk

/-- This member's OWNER lets CTRL and BANK_CTRL be written (R168). -/
def Dev.mayDrive (d : Dev) (n : Sax) : Bool := d.drivesAx (Sax.axis n)

/-- BRIDGE_FAULT (R161). -/
def Dev.bridgeFault (d : Dev) (n : Sax) : Dev :=
  let w := d.rd (Reg.SAX_STATUS n)
  ((d.wr (Reg.SAX_STATUS n) (setBit (setBit w 1 true) 4 false)).raiseSax n 1).silenceAx (Sax.axis n)

/-- OVER_CURRENT (R161), active with CFG.OC_EN = 1 and OSR_OC not 0. -/
def Dev.overCurrent (d : Dev) (n : Sax) : Dev :=
  if d.rdB (Reg.SAX_CFG n) 11 && d.rdF (Reg.SAX_DSM_CFG n) 15 10 != 0 then
    ((d.wrB (Reg.SAX_STATUS n) 2 true).raiseSax n 2).silenceAx (Sax.axis n)
  else d

/-- DSM_STUCK of a servo axis (R146). -/
def Dev.servoStuck (d : Dev) (n : Sax) : Dev :=
  let d := (d.wrB (Reg.SAX_STATUS n) 3 true).raiseSax n 3
  if d.rdB (Reg.SAX_CFG n) 10 then
    (d.modServo n (fun s => { s with dsmLatch := true })).silenceAx (Sax.axis n)
  else d

/-- DSM_TRANSITIONS_RESUME of a servo axis (R146). -/
def Dev.servoResume (d : Dev) (n : Sax) : Dev := d.wrB (Reg.SAX_STATUS n) 3 false

/-- A write of CTRL on a member that does not drive the portal is ignored and sets EN_REJ (R168). -/
def Dev.servoCtrl (d : Dev) (n : Sax) (f : Dev → Dev) : Dev := if d.mayDrive n then f d else d.raiseSax n 9

/-- FLT_ACK while SXn_FLT_N stands at `high` (R161). -/
def Dev.fltAck (d : Dev) (n : Sax) (high : Bool) : Dev :=
  d.servoCtrl n (fun d =>
    let d := d.wrB (Reg.SAX_STATUS n) 4 high
    if high then d.wrB (Reg.SAX_STATUS n) 1 false else d)

/-- OC_ACK (R161). -/
def Dev.ocAck (d : Dev) (n : Sax) : Dev := d.servoCtrl n (fun d => d.wrB (Reg.SAX_STATUS n) 2 false)

/-- DSM_ACK (R161): once transitions resume. -/
def Dev.dsmAck (d : Dev) (n : Sax) : Dev :=
  d.servoCtrl n (fun d => if d.rdB (Reg.SAX_STATUS n) 3 then d else d.modServo n (fun s => { s with dsmLatch := false }))

/-- STATUS.GATES_ON of a servo axis as its gates now are (R168). -/
def Dev.showGates (d : Dev) (n : Sax) : Dev :=
  d.wrB (Reg.SAX_STATUS n) 0
    (decide (d.pwr.st = .run) && d.axEn (Sax.axis n) && !d.servo[n].silenced && d.drivesAx (Sax.axis n))

/-- A write of SERVO_EN at the strobe instant that makes it visible (R34, R93, R119, R162, R168, R169). Enabling clears
POS_OFFSET and REF_VALID with the frame (R400); disabling freezes the generator and turns the gates off. -/
def Dev.servoEnDue (d : Dev) (n : Sax) (on : Bool) : Dev :=
  let a := Sax.axis n
  if !d.mayDrive n then d.raiseSax n 9
  else if on then
    if d.causeLatched n || !d.sealed n (d.bankB n) || d.heldOff then d.raiseSax n 9
    else if d.rdB (Reg.SAX_CTRL n) 0 then d
    else
      let d := d.wrB (Reg.SAX_CTRL n) 0 true
      let d := d.modServo n (fun s => { s with silenced := false, zeroed := false, angSet := false })
      let d := ((d.wr (Reg.MOT_POS_OFFSET a) 0).wrB (Reg.MOT_MSTAT a) 8 false).wrB (Reg.SAX_STATUS n) 0 true
      d.modMot a (fun m => { m with alignDue := true })
  else if d.rdB (Reg.SAX_CTRL n) 0 then
    let d := d.freezeAx a
    let d := (d.wrB (Reg.SAX_CTRL n) 0 false).wrB (Reg.SAX_STATUS n) 0 false
    d.modServo n (fun s => { s with zeroed := true })
  else d

/-- The writes of CTRL.EN that wait for this strobe instant, in order. -/
def Dev.servoEnsDue (d : Dev) (n : Sax) : Dev :=
  d.servo[n].enReqs.foldl (fun d on => d.servoEnDue n on) (d.modServo n (fun s => { s with enReqs := [] }))

/-- SERVO_EN: a write of CTRL.EN becomes visible at the next strobe instant (R34). -/
def Dev.servoEn (d : Dev) (n : Sax) (on : Bool) : Dev :=
  d.servoCtrl n (fun d => d.modServo n (fun s => { s with enReqs := s.enReqs ++ [on] }))

/-! ### Bank rows (R158 to R160) -/

/-- SEAL: the seal of the inactive bank starts. -/
def Dev.sealStart (d : Dev) (n : Sax) : Dev :=
  if d.mayDrive n then d.wrB (Reg.SAX_BANK_CTRL n) 19 true else d.raiseSax n 7

/-- SEAL_COMPLETE: CRC and SEALED of the inactive bank, and a journal entry. -/
def Dev.sealDone (d : Dev) (n : Sax) : Dev :=
  if d.rdB (Reg.SAX_BANK_CTRL n) 19 then
    let b := !d.bankB n
    let crc := crc32c (d.bankBytes n b)
    let d := d.wr (Reg.SAX_BANK_CRC n b.toNat) crc
    let w := d.rd (Reg.SAX_BANK_CTRL n)
    (d.wr (Reg.SAX_BANK_CTRL n) (setBit (setBit w (if b then 18 else 17) true) 19 false)).journal (.bankSeal n b.toNat crc)
  else d

/-- The reason a swap to bank `b` is rejected, 0 where it is accepted (R160). NOT_OWNER is seen first, then
the others in the order of their codes (log 45). `gate` says that the request came as a gated write
(R346). -/
def Dev.swapReject (d : Dev) (n : Sax) (b gate : Bool) : Nat :=
  let p? := d.portalOf (Sax.axis n)
  let mism := match p? with
    | none => false
    | some _ => !d.solo && (match d.servo[n].partner with
        | none => true
        | some (sa, ca, sb, cb) =>
          if b then !sb || cb != d.rd (Reg.SAX_BANK_CRC n 1) else !sa || ca != d.rd (Reg.SAX_BANK_CRC n 0))
  let quiet := match p? with
    | none => true
    | some p => [0, 1, 9, 10].contains (d.rdF (Reg.PRT_STATE p) 3 0)
  if !d.mayDrive n then 4
  else if !d.sealed n b || d.rdB (Reg.SAX_BANK_CTRL n) 19 then 1
  else if mism then 2
  else if d.rdB (Reg.SAX_CTRL n) 0 && !quiet && !(gate && d.hasRight 2) then 3
  else 0

/-- BANK_SWAP (R159): bank `b` comes into force, with bumpless integrators, or is rejected. The drift means
of the portal restart (R187). -/
def Dev.bankSwap (d : Dev) (n : Sax) (b gate : Bool) : Dev :=
  if d.mayDrive n && d.bankB n == b then d
  else
    match d.swapReject n b gate with
    | 0 =>
      let old := d.bankB n
      let dk := fun i => fsub (d.bankReg n old i) (d.bankReg n b i)
      let d := if d.rdB (Reg.SAX_BANK_CTRL n) 4 then
          d.modServo n (fun s => { s with
            intX := fma s.intX (dk 4) s.eX, intV := fma s.intV (dk 2) s.eV
            intD := fma s.intD (dk 0) s.eD, intQ := fma s.intQ (dk 0) s.eQ })
        else d
      let d := d.wrB (Reg.SAX_BANK_CTRL n) 16 b
      let d := match d.portalOf (Sax.axis n) with
        | none => d
        | some p => d.modPrt p (fun x => { x with fresh := List.replicate 16 true })
      (d.journal (.bankSwap n b.toNat)).raiseSax n 6
    | r => (d.wrF (Reg.SAX_BANK_CTRL n) 31 28 r).raiseSax n 7

/-- Bits of bank register `i` that its fields take up: FRIC_FLAT[15:0] and FF_CFG[3:0] (R18, R168). -/
def bankMask (i : Nat) : Word := if i = 16 then 0xFFFF#32 else if i = 17 then 0xF#32 else 0xFFFFFFFF#32

/-- BANK_WRITE (R158, R425): a word of a bank register or of the table region, at `addr`; the active bank is
not written. Answers the error code of the write, 0 where it has none. -/
def Dev.bankWrite (d : Dev) (addr : Nat) (v : Word) : Dev × Nat :=
  let hit : Option (Nat × Bool × Bool × Nat) :=   -- axis, bank, is table, offset
    if 0x200000 ≤ addr ∧ addr < 0x240000 then
      let o := addr - 0x200000
      some (o / 0x4000, decide (o % 0x4000 ≥ 0x2000), true, o % 0x2000 / 4 * 4)
    else if 0x020000 ≤ addr ∧ addr < 0x028000 then
      let o := (addr - 0x020000) % 0x800
      if 0x200 ≤ o ∧ o < 0x250 then some ((addr - 0x020000) / 0x800, false, false, (o - 0x200) / 4 * 4)
      else if 0x280 ≤ o ∧ o < 0x2D0 then some ((addr - 0x020000) / 0x800, true, false, (o - 0x280) / 4 * 4)
      else none
    else none
  match hit with
  | none => (d, 0)
  | some (k, b, tbl, o) =>
    match toFin? 16 k with
    | none => (d, 0)
    | some n =>
      if (tbl && decide (0x1800 ≤ o)) || (!tbl && decide (0x48 ≤ o)) then (d, 0)
      else if d.bankB n == b then (d.raiseSax n 8, 0)
      else if tbl && d.rdB (Reg.SAX_BANK_CTRL n) 19 then (d, 8)
      else
        let d := if tbl then { d with tmem := Cells.writeRun zeroCell 1 d.tmem (bankTbl n b + o) (leBytes 4 v.toNat) }
          else d.wr (bankAddr n b (o / 4)) (v &&& bankMask (o / 4))
        let d := d.wrB (Reg.SAX_BANK_CTRL n) (if b then 18 else 17) false
        (d.journal (.bankData n b.toNat (if tbl then 0x80 + o else o) (leBytes 4 v.toNat)), 0)

end Sys2Proof.Machine
end

