-- ==== Sys2Proof/Machine/Trace.lean ====
section
/-!
DEFINITION. The trace unit (spec/06 R164 to R167): nodes, triggers, rings and the trace port.
-/

namespace Sys2Proof.Machine

def TrcSt.code : TrcSt → Nat
  | .idle => 0 | .preTrig => 1 | .armed => 2 | .post => 3 | .done => 4

/-- The value of a node of an axis at a sample strobe at tick `j` of `n` (R164), hardware nodes from the snapshot. Reserved nodes, and step positions of axes that do not exist, have no stated value:
they read a free value. -/
def Dev.traceNode (d : Dev) (j n : Nat) (site node ax : Nat) : Word :=
  match toFin? 16 ax with
  | none => 0
  | some s =>
    let a := Sax.axis s
    let slow := d.rdB Reg.TBS_PACE_STATUS 0
    let optional := node == 0x10 || node == 0x11 || node == 0x12 || node == 0x14
    if node = 0x00 then wi (d.posInt a)
    else if node = 0x01 then wi (d.spInterp a j n / 256)
    else if node = 0x02 then d.vSet a
    else if node = 0x03 then d.rd (Reg.ENC_SPEED s)
    else if node = 0x04 then d.sn (Reg.SAX_LAST s 0)
    else if node = 0x05 then d.sn (Reg.SAX_LAST s 1)
    else if node ≤ 0x08 then wn (d.servo[s].act.getD (node - 6) 0)
    else if node ≤ 0x17 then if optional && slow then 0x80000000#32 else d.servo[s].pubPrev.getD (node - 9) 0
    else if node ≤ 0x1A then d.sn (Reg.FIN_IN_LVL (node - 0x18))
    else if node = 0x1B then d.rd Reg.TBS_PACE
    else if node = 0x1C then
      match toFin? 12 ax with
      | some t => wi (d.posInt (Stx.axis t))
      | none => wn (d.free (1100 + site) (2 ^ 32))
    else if node = 0x1D then 0
    else wn (d.free (1100 + site) (2 ^ 32))

/-- A sample as its format compares it (R164 table, TRIG_LEVEL). -/
def traceKey (node : Nat) (w : Word) : Rat :=
  if node = 0x02 ∨ (0x0A ≤ node ∧ node ≤ 0x15) then ftoRat w
  else if node ≤ 0x05 ∨ node = 0x09 ∨ node = 0x1C then (w.toInt : Rat)
  else (w.toNat : Rat)

/-- The trigger of TRIG_CFG at this sample (R165). -/
def Dev.traceTrig (d : Dev) (samples : List Word) : Bool :=
  let t := d.trace
  let cfg := t.trig
  match fld cfg 2 0 with
  | 0 => t.manual
  | 1 =>
    let c := fld cfg 10 8
    let node := fld (t.sel.getD c 0x1D) 4 0
    let lvl := traceKey node (d.rd Reg.TRC_TRIG_LEVEL)
    let cur := traceKey node (samples.getD c 0)
    match t.last with
    | none => false
    | some w =>
      let was := traceKey node w
      let e := fld cfg 13 12
      (e.testBit 0 && decide (was < lvl ∧ lvl ≤ cur)) || (e.testBit 1 && decide (lvl < was ∧ cur ≤ lvl))
  | 2 => d.srcPend (fld cfg 21 16)
  | 3 =>
    let now := d.rdF (Reg.PRT_STATE (fld cfg 27 24)) 3 0
    decide (fld cfg 27 24 < 12) && now == fld cfg 31 28 && t.pstPrev != now
  | _ => false

/-- STATUS of the unit. -/
def Dev.showTrc (d : Dev) : Dev :=
  d.wr Reg.TRC_STATUS (wn (d.trace.st.code * 2 ^ 16 + d.rdF Reg.TRC_STATUS 12 0))

/-- The port frame of a sample set (R167): start nibble, header, samples of the enabled channels, CRC-32C. -/
def portFrame (mask seq : Nat) (samples : List Word) : List (BitVec 4) :=
  let on := (samples.zipIdx.filter (fun p => mask.testBit p.2)).map (·.1)
  let body := leBytes 2 (mask + 256 * (seq % 256)) ++ on.flatMap (fun w => leBytes 4 w.toNat)
  let bytes := body ++ leBytes 4 (crc32c body).toNat
  0xF#4 :: bytes.flatMap (fun b => [BitVec.ofNat 4 b.toNat, BitVec.ofNat 4 (b.toNat / 16)])

/-- One sample: rings, pointer, trigger and completion. The trigger sample counts as the first of the
8 192 − PRE samples, so that the oldest stands at TRIG_PTR − PRE (R165, R166, log 46). A port frame's SEQ counts the
frames sent (R167, log 143). -/
def Dev.traceSample (d : Dev) (j n : Nat) : Dev :=
  let t := d.trace
  let samples := t.sel.zipIdx.map (fun p => d.traceNode j n p.2 (fld p.1 4 0) (fld p.1 11 8))
  let i := d.rdF Reg.TRC_STATUS 12 0
  let ram := samples.zipIdx.foldl (fun m p => Cells.write zeroCell m (p.2 * 8192 + i) p.1) t.ram
  let pre := d.rdF Reg.TRC_PRE 12 0
  let ch := fld t.trig 10 8
  let waiting := decide (t.st = .preTrig ∨ t.st = .armed)
  let fire := waiting && t.postCnt == 0 && d.traceTrig samples
  let taken := t.taken + 1
  let post := if fire then 1 else if t.postCnt = 0 then 0 else t.postCnt + 1
  let single := t.mode == 1
  let finished := single && post != 0 && decide (8192 - pre ≤ post)
  let st : TrcSt := if finished then .done else if single && post != 0 then .post
    else if taken < pre then .preTrig else .armed
  let stream := t.mode == 3 && d.rdB Reg.TRC_PORT_CFG 0
  let d := d.modTrc (fun x => { x with
    ram := ram, taken := taken, postCnt := post, st := st, divCnt := 0
    manual := if fire then false else x.manual
    last := some (samples.getD ch 0)
    pstPrev := d.rdF (Reg.PRT_STATE (fld t.trig 27 24 % 12)) 3 0
    frame := if stream then portFrame (d.rdF Reg.TRC_CTRL 23 16) x.seq samples else []
    seq := if stream then (x.seq + 1) % 256 else x.seq })
  let d := (d.wrF Reg.TRC_STATUS 12 0 (i + 1)).showTrc
  let d := if fire then (d.wr Reg.TRC_TRIG_PTR (wn i)).raiseTrc 0 else d
  if finished then d.raiseTrc 1 else d

/-- The part of a current tick that samples (R164), at tick `j` of `n`. -/
def Dev.traceTick (d : Dev) (j n : Nat) : Dev :=
  let t := d.trace
  if t.st = .idle ∨ t.st = .done then d
  else if t.divCnt + 1 < t.div then d.modTrc (fun x => { x with divCnt := x.divCnt + 1 })
  else d.traceSample j n

/-- DIV of TRC.CTRL: 0 stands for 256. -/
def trcDiv (w : Word) : Nat := if fld w 15 8 = 0 then 256 else fld w 15 8

/-- TRACE_ARM (R165): settings are taken and sampling starts; mode off starts nothing. -/
def Dev.traceArm (d : Dev) : Dev :=
  let c := d.rd Reg.TRC_CTRL
  if fld c 1 0 = 0 then (d.modTrc (fun x => { x with st := .idle })).showTrc
  else
    let d := d.modTrc (fun x => { x with
      st := if d.rdF Reg.TRC_PRE 12 0 = 0 then .armed else .preTrig
      mode := fld c 1 0, div := trcDiv c, trig := d.rd Reg.TRC_TRIG_CFG
      sel := (List.range 8).map (fun i => d.rd (Reg.TRC_CH_SEL i))
      divCnt := trcDiv c - 1, taken := 0, postCnt := 0, manual := false, last := none
      pstPrev := d.rdF (Reg.PRT_STATE (d.rdF Reg.TRC_TRIG_CFG 27 24 % 12)) 3 0
      ram := [], frame := [] })
    (d.wrF Reg.TRC_STATUS 12 0 0).showTrc

/-- TRACE_STOP (R165). -/
def Dev.traceStop (d : Dev) : Dev := (d.modTrc (fun x => { x with st := .idle, frame := [] })).showTrc

/-- MANUAL (R165): a trigger for the next sample strobe. -/
def Dev.traceManual (d : Dev) : Dev :=
  if d.trace.st = .preTrig ∨ d.trace.st = .armed then d.modTrc (fun x => { x with manual := true }) else d

/-- MODE takes effect at once (R165: only CHc_SEL, DIV and TRIG_CFG wait for arming): off ends the sampling, and
another mode goes on with it. -/
def Dev.traceMode (d : Dev) : Dev :=
  let m := d.rdF Reg.TRC_CTRL 1 0
  if d.trace.st = .idle then d
  else (d.modTrc (fun x => if m = 0 then { x with mode := m, st := .idle, frame := [] } else { x with mode := m })).showTrc

/-- A write of TRC.CTRL: a change of DIV while the unit is not idle is ignored and sets CFG_BUSY (R165). -/
def Dev.traceCtrl (d : Dev) (v : Word) : Dev :=
  let old := d.rd Reg.TRC_CTRL
  let busy := decide (d.trace.st ≠ .idle) && fld v 15 8 != fld old 15 8
  let w := setFld (setFld (setFld old 1 0 (fld v 1 0)) 23 16 (fld v 23 16)) 15 8 (if busy then fld old 15 8 else fld v 15 8)
  let d := d.wr Reg.TRC_CTRL w
  let d := if busy then d.raiseTrc 2 else d
  let d := d.traceMode
  let d := if bit v 5 then d.traceStop else d
  if bit v 4 then d.traceArm else d

/-- A write of TRIG_CFG or CHc_SEL at `a`, of bits `mask` (R165). -/
def Dev.traceCfgWrite (d : Dev) (a : Nat) (mask v : Word) : Dev :=
  if d.trace.st = .idle then d.wr a (v &&& mask) else d.raiseTrc 2

end Sys2Proof.Machine
end

