-- ==== Sys2Proof/Machine/StepDrive.lean ====
section
/-!
DEFINITION. Step axes (spec/08): microstep targets, the chopper's events, the standstill current, the load-angle estimate
and the encoder deviation, and the stall decision.
-/

namespace Sys2Proof.Machine

/-- Round 32.8 to the nearest integer, ties toward `back` (R195), up where `back` is that tie itself (log 145). -/
def roundToward (x back : Int) : Int :=
  let f := x / 256
  let r := x % 256
  if r < 128 then f else if 128 < r then f + 1 else if x ≤ back then f + 1 else f

/-- The microstep target at current tick `j` of `n` (R195). -/
def Dev.microTarget (d : Dev) (a : Axis) (j n : Nat) : Int :=
  roundToward (d.spInterp a j n) d.mot[a].spPrev

/-- The strobe instant of a step axis (R195): the period that ends has issued all its microsteps, and VDUTY of it is
latched (R200). A fraction that is no multiple of 2⁻³¹ is one of the two beside it (log 42). -/
def Dev.stepSettle (d : Dev) (n : Stx) : Dev :=
  let d := d.sequenceAll n
  let d := d.modStep n (fun s => { s with
    coilA := s.coilA.account d.now, coilB := s.coilB.account d.now, issuedHist := (s.issued :: s.issuedHist).take 9 })
  let duty := fun (c : Coil) (site : Nat) =>
    if d.pwmP = 0 then 0#32
    else wi (satS 32 (d.near ((((c.hi : Int) - (c.lo : Int) : Int) : Rat) * 2 ^ 31 / d.pwmP) site))
  let d := (d.wr (Reg.STX_VDUTY_AB n 0) (duty d.stepd[n].coilA (520 + n.val))).wr (Reg.STX_VDUTY_AB n 1) (duty d.stepd[n].coilB (540 + n.val))
  d.modStep n (fun s => { s with coilA := { s.coilA with hi := 0, lo := 0 }, coilB := { s.coilB with hi := 0, lo := 0 } })

/-- The sequencer counts: the bridges are on, or would be if this member drove the axis, whose step it follows as the
holder of the mirage (R207). -/
def Dev.stepRuns (d : Dev) (n : Stx) : Bool :=
  decide (d.pwr.st = .run) && d.rdB (Reg.STX_CTRL n) 0 && !d.stepd[n].silenced

/-- MICROSTEP (R195): the period that starts at tick `j` takes the issued count to the target of tick `j + 1`. -/
def Dev.microsteps (d : Dev) (n : Stx) (j nTicks : Nat) : Dev :=
  let a := Stx.axis n
  let d := if d.stepRuns n then d.sequenceTo n (d.microTarget a (j + 1) nTicks - (d.rd (Reg.MOT_POS_OFFSET a)).toInt)
    else d.sequenceStop n
  d.stepRefs n

/-- Encoder source available (R201): ENC_RATIO ≠ 0 and no wire fault on A or B. -/
def Dev.encAvail (d : Dev) (n : Stx) : Bool :=
  let c := 16 + n.val
  d.rd (Reg.STX_ENC_RATIO n) != 0 && !d.rdB (Reg.ENC_STATUS c) 4 && !d.rdB (Reg.ENC_STATUS c) 5

/-- DEV_EVALUATE (R201). -/
def Dev.devEvaluate (d : Dev) (n : Stx) : Dev :=
  let a := Stx.axis n
  let d := d.wrB (Reg.STX_STATUS n) 8 (d.encAvail n)
  let ratio := (d.rd (Reg.STX_ENC_RATIO n)).toNat
  if ratio = 0 then d
  else
    let k := d.encCount a - d.stepd[n].encOrigin
    let dev := (d.rd (Reg.STX_STEPS_ISSUED n)).toInt - roundAway ((ratio : Rat) * k / 65536)
    let dv := decide ((d.rdF (Reg.STX_DEV_WIN n) 15 0 : Int) < |dev|)
    let was := d.rdB (Reg.STX_STATUS n) 7
    let d := (d.wr (Reg.STX_DEV n) (wi dev)).wrB (Reg.STX_STATUS n) 7 dv
    if dv && !was then d.raiseStx n 2 else d

/-- Latch a current tick's measurements (R193, R200): the coil currents, from the bitstreams of STn_IA and STn_IB, and
VDUTY. -/
def Dev.stepMeasure (d : Dev) (n : Stx) (ba bb : List Bool) : Dev :=
  let ifs := d.rd (Reg.STX_IFS n)
  let osr := d.rdF (Reg.STX_DSM_CFG n) 8 0
  let ia := fmul (cvtxf (d.sincWord (560 + n.val) osr ba).toInt 31) ifs
  let ib := fmul (cvtxf (d.sincWord (580 + n.val) osr bb).toInt 31) ifs
  let d := (d.wr (Reg.STX_I_AB n 0) ia).wr (Reg.STX_I_AB n 1) ib
  let va := d.rd (Reg.STX_VDUTY_AB n 0)
  let vb := d.rd (Reg.STX_VDUTY_AB n 1)
  d.modStep n (fun s => { s with hist := ((ia, ib, va, vb) :: s.hist).take 9 })

/-- Sum of binary32 words. -/
def fsum (ws : List Word) : Word := ws.foldl fadd f0

/-- LOAD_ANGLE_ESTIMATE (R200) over the current periods just ended: answers validity and the criterion. -/
def Dev.loadAngle (d : Dev) (n : Stx) : Dev × Bool × Bool :=
  let s := d.stepd[n]
  let k := d.spdDiv
  let h := s.hist.take k
  let kf := cvtxf (k : Int) 0
  let dt := secF d.spdT
  let start := s.hist.getD k (s.hist.getLastD (f0, f0, 0, 0))
  let now := s.hist.headD (f0, f0, 0, 0)
  let emf := fun (i : (Word × Word × Word × Word) → Word) (v : (Word × Word × Word × Word) → Word) =>
    let u := fmul (d.rd (Reg.STX_VBUS n)) (fdiv (fsum (h.map (fun x => cvtxf (v x).toInt 31))) kf)
    let di := fdiv (fsub (i now) (i start)) dt
    fsub (fsub u (fmul (d.rd (Reg.STX_COIL_R n)) (fdiv (fsum (h.map i)) kf))) (fmul (d.rd (Reg.STX_COIL_L n)) di)
  let ea := emf (fun x => x.1) (fun x => x.2.2.1)
  let eb := emf (fun x => x.2.1) (fun x => x.2.2.2)
  let th := d.stepAngle n (s.issuedHist.getD (k / 2) s.issued)
  let cs := Config.fcos th
  let sn := Config.fsin th
  let ed := fma (fmul eb sn) ea cs
  let eq := fms (fmul eb cs) ea sn
  let dm : Int := s.issuedHist.headD s.issued - s.issuedHist.getD k (s.issuedHist.getLastD s.issued)
  let v : Rat := if d.spdT = 0 then 0 else (dm : Rat) * 200000000 / d.spdT
  let w := fofRat (3141592653589793 / 2000000000000000 * v / d.mres n)
  let neg := decide (v < 0)
  let amp := Config.fsqrt (fma (fmul ed ed) eq eq)
  let delta := if neg then Config.fatan2Deg (fneg ed) (fneg eq) else Config.fatan2Deg ed eq
  let cfg := d.rd (Reg.STX_STALL_CFG n)
  let ke := d.rd (Reg.STX_KE n)
  let minV := (d.rd (Reg.STX_EMF_MIN_V n)).toNat
  let valid := decide ((minV : Rat) ≤ |v|) && minV != 0 && !fceq ke f0 && d.bridgesOn n && !d.rdB (Reg.STX_STATUS n) 5
  let thr := fmul (fmul (fofRat ((fld cfg 23 16 : Rat) / 100)) ke) (fabs w)
  let ind := valid && (fclt amp thr || fclt (cvtxf (fld cfg 15 8 : Int) 0) (fabs delta))
  (((d.wr (Reg.STX_EMF_AMP n) amp).wr (Reg.STX_LOAD_ANGLE n) delta).wrB (Reg.STX_STATUS n) 9 valid, valid, ind)

/-- An indication of R202. -/
inductive Ind where
  | no | yes | unknown
  deriving DecidableEq, Repr

/-- The stall decision table (R202): MODE 00b EMF, 01b ENCODER, 10b BOTH, 11b EITHER. -/
def stallDecision (mode : Nat) (e n : Ind) : Bool :=
  match mode with
  | 0 => decide (e = .yes)
  | 1 => decide (n = .yes ∨ (n = .unknown ∧ e = .yes))
  | 2 => decide ((e = .yes ∧ n ≠ .no) ∨ (e = .unknown ∧ n = .yes))
  | _ => decide (e = .yes ∨ n = .yes)

/-- Sources a mode selects: E and N. -/
def modeUsesE (mode : Nat) : Bool := mode != 1
def modeUsesN (mode : Nat) : Bool := mode != 0

/-- STEP_TASK of a portal's step axis (R200 to R203); `moving` says the step is EXTENDING or RETRACTING. -/
def Dev.stepTask (d : Dev) (p : Slot) (n : Stx) (moving : Bool) : Dev :=
  let cfg := d.rd (Reg.STX_STALL_CFG n)
  let mode := fld cfg 1 0
  let (d, valid, ind) := d.loadAngle n
  let d := if valid then d.modStep n (fun s => { s with laCnt := if ind then min 255 (s.laCnt + 1) else 0 }) else d
  let e : Ind := if !valid then .unknown else if ind && decide (max 1 (fld cfg 31 24) ≤ d.stepd[n].laCnt) then .yes else .no
  let nn : Ind := if !d.encAvail n then .unknown else if d.rdB (Reg.STX_STATUS n) 7 then .yes else .no
  let d := d.wrB (Reg.STX_STATUS n) 10 (decide (e = .yes))
  if moving && bit cfg 2 then
    let lost := (modeUsesE mode && decide (e = .unknown)) || (modeUsesN mode && decide (nn = .unknown))
    let d := if lost && !d.stepd[n].lostSet then (d.modStep n (fun s => { s with lostSet := true })).raiseStx n 1 else d
    if stallDecision mode e nn && !d.portal[p].stallMark then
      ((d.raiseStx n 0).mcmdTake (Stx.axis n) 5 true).modPrt p (fun x => { x with stallMark := true })
    else d
  else d

/-- The start of a step move restarts the EMF count and SRC_LOST (R202). -/
def Dev.stepMoveStart (d : Dev) (n : Stx) : Dev := d.modStep n (fun s => { s with laCnt := 0, lostSet := false })

/-! ### Chopper rows (R197, R198) -/

/-- One coil of an axis. -/
def StepDrv.coil (s : StepDrv) (b : Bool) : Coil := if b then s.coilB else s.coilA
def Dev.modCoil (d : Dev) (n : Stx) (b : Bool) (f : Coil → Coil) : Dev :=
  d.modStep n (fun s => if b then { s with coilB := f s.coilB } else { s with coilA := f s.coilA })

/-- TRIP_SRC is BOTH. -/
def Dev.tripBoth (d : Dev) (n : Stx) : Bool := !d.rdB (Reg.STX_CFG n) 4

/-- The chop filter, of ratio OSR_CH on the coil's bitstream, newest first, reports s × i ≥ |ref_X| (R197). -/
def Dev.chopOver (d : Dev) (n : Stx) (b : Bool) (bits : List Bool) : Bool :=
  let i := sincQ (d.rdF (Reg.STX_DSM_CFG n) 15 10) bits * ftoRat (d.rd (Reg.STX_IFS n))
  decide (|ftoRat (d.rd (Reg.STX_REF_AB n b.toNat))| ≤ if (d.stepd[n].coil b).plus then i else -i)

/-- The off-time starts. -/
def Dev.coilOff (d : Dev) (n : Stx) (b : Bool) : Dev := d.modCoil n b (fun c => c.turnOff (d.fd n) d.now)

/-- The next on phase, in the direction of the reference; at a reference of 0 the coil is in slow decay. -/
def Dev.coilNext (d : Dev) (n : Stx) (b : Bool) : Dev :=
  let r := d.rd (Reg.STX_REF_AB n b.toNat)
  if fceq r f0 then d.modCoil n b (fun c => { c.account d.now with phase := .slow })
  else d.modCoil n b (fun c => c.start (!bit r 31) d.now)

/-- Bring the sequencer to `t`, the instant of a chopper's event. -/
def Dev.stepAt (d : Dev) (n : Stx) (t : Nat) : Dev := (d.upTo t).sequence n

/-- STATUS.COMP_A or COMP_B: the level of STn_CA or STn_CB (R210). -/
def Dev.setComp (d : Dev) (n : Stx) (b cx : Bool) : Dev := d.wrB (Reg.STX_STATUS n) (if b then 4 else 3) cx

/-- BLANKING_END, BLANK after the on phase started: `bits` is the coil's bitstream and `cx` the level of STn_CX. -/
def Dev.blankingEnd (d : Dev) (n : Stx) (b : Bool) (bits : List Bool) (cx : Bool) : Dev :=
  let d := (d.stepAt n ((d.stepd[n].coil b).onAt + d.blankT n)).setComp n b cx
  if (d.stepd[n].coil b).phase = .blank then
    let both := d.tripBoth n
    let d := if both then d.modCoil n b (fun c => { c with shorts := if cx then c.shorts + 1 else 0 }) else d
    if both && cx && decide (d.rdF (Reg.STX_CHOP_CFG n) 27 24 ≤ (d.stepd[n].coil b).shorts) then
      ((d.wrB (Reg.STX_STATUS n) 6 true).raiseStx n 3).silenceAx (Stx.axis n)
    else if d.chopOver n b bits || (both && cx) then d.coilOff n b
    else d.modCoil n b (fun c => { c.account d.now with phase := .on })
  else d

/-- CHOP_TRIP at `t`: the chop filter, or the comparator where TRIP_SRC is BOTH, ends the on phase. -/
def Dev.chopTrip (d : Dev) (t : Nat) (n : Stx) (b : Bool) (bits : List Bool) (cx : Bool) : Dev :=
  let d := (d.stepAt n t).setComp n b cx
  if (d.stepd[n].coil b).phase = .on ∧ (d.chopOver n b bits || (cx && d.tripBoth n)) then d.coilOff n b else d

/-- FAST_DECAY_END, FD ÷ 16 of TOFF into the off-time; an instant between two of the 5 ns grid is one of them (log 42). -/
def Dev.fastEnd (d : Dev) (n : Stx) (b : Bool) : Dev :=
  let t := (d.near ((d.toffT n * d.fd n : Nat) / 16 : Rat) 1200).toNat
  let d := d.stepAt n ((d.stepd[n].coil b).offAt + t)
  if (d.stepd[n].coil b).phase = .fast ∧ d.fd n < 16 then d.modCoil n b (fun c => { c.account d.now with phase := .slow }) else d

/-- OFF_TIME_END, TOFF after the off-time started: the next on phase. -/
def Dev.offTimeEnd (d : Dev) (n : Stx) (b : Bool) : Dev :=
  let d := d.stepAt n ((d.stepd[n].coil b).offAt + d.toffT n)
  match (d.stepd[n].coil b).phase with
  | .slow | .fast => d.coilNext n b
  | _ => d

/-- STANDSTILL (R199): HOLD_DLY since the last microstep, once after each; a microstep in the meantime starts it anew.
An entry that joined the queue at the instant of its expiry keeps the run current (R206). -/
def Dev.standstill (d : Dev) (n : Stx) : Dev :=
  let d := d.sequence n
  if d.stepd[n].stood then d
  else
    let since := d.stepd[n].standAt
    let t := since + d.rdF (Reg.STX_CUR_CFG n) 31 24 * ms 100
    let d := d.stepAt n t
    if d.stepd[n].standAt = since then
      (d.modStep n (fun s => { s with stood := true })).wrB (Reg.STX_STATUS n) 1 (d.stepd[n].joinAt != some t)
    else d

/-! ### Enabling and acknowledging (R198) -/

/-- A short or a stuck bitstream is latched. -/
def Dev.stepLatched (d : Dev) (n : Stx) : Bool := d.rdB (Reg.STX_STATUS n) 6 || d.stepd[n].dsmLatch

/-- A write of STEP_EN at the strobe instant that makes it visible (R34, R93, R119, R198). An axis silenced drives again
only by EN = 1 after EN was written 0 with its causes acknowledged. -/
def Dev.stepEnDue (d : Dev) (n : Stx) (on : Bool) : Dev :=
  let a := Stx.axis n
  if on then
    if d.stepLatched n || d.heldOff then d.raiseStx n 7
    else if d.rdB (Reg.STX_CTRL n) 0 then d
    else
      let d := d.wrB (Reg.STX_CTRL n) 0 true
      if d.stepd[n].silenced && !d.stepd[n].zeroed then d
      else
        let d := d.modStep n (fun s => { s with silenced := false, zeroed := false })
        let d := ((d.wr (Reg.MOT_POS_OFFSET a) 0).wrB (Reg.MOT_MSTAT a) 8 false).wrB (Reg.STX_STATUS n) 0 (d.drivesAx a)
        d.modMot a (fun m => { m with alignDue := true })
  else
    let d := if d.stepLatched n then d else d.modStep n (fun s => { s with zeroed := true })
    if d.rdB (Reg.STX_CTRL n) 0 then ((d.freezeAx a).wrB (Reg.STX_CTRL n) 0 false).stepRefs n else d

/-- The writes of CTRL.EN that wait for this strobe instant, in order. -/
def Dev.stepEnsDue (d : Dev) (n : Stx) : Dev :=
  d.stepd[n].enReqs.foldl (fun d on => d.stepEnDue n on) (d.modStep n (fun s => { s with enReqs := [] }))

/-- STEP_EN: a write of CTRL.EN becomes visible at the next strobe instant (R34). -/
def Dev.stepEn (d : Dev) (n : Stx) (on : Bool) : Dev := d.modStep n (fun s => { s with enReqs := s.enReqs ++ [on] })

/-- SHORT_ACK, once the comparators of the axis are low. -/
def Dev.shortAck (d : Dev) (n : Stx) : Dev :=
  if d.rdB (Reg.STX_STATUS n) 3 || d.rdB (Reg.STX_STATUS n) 4 then d else d.wrB (Reg.STX_STATUS n) 6 false

/-- STEP_DSM_ACK, once transitions resume. -/
def Dev.stepDsmAck (d : Dev) (n : Stx) : Dev :=
  if d.rdB (Reg.STX_STATUS n) 5 then d else d.modStep n (fun s => { s with dsmLatch := false })

/-- DSM_STUCK of a step axis (R193, R198). -/
def Dev.stepStuck (d : Dev) (n : Stx) : Dev :=
  let d := (d.wrB (Reg.STX_STATUS n) 5 true).raiseStx n 4
  if d.rdB (Reg.STX_CFG n) 6 then (d.modStep n (fun s => { s with dsmLatch := true })).silenceAx (Stx.axis n) else d

/-- DSM_STUCK and DSM_TRANSITIONS_RESUME of any axis. -/
def Dev.dsmStuck (d : Dev) (a : Axis) : Dev :=
  match stxOf a, saxOf a with
  | some n, _ => d.stepStuck n
  | none, some n => d.servoStuck n
  | none, none => d
def Dev.dsmResume (d : Dev) (a : Axis) : Dev :=
  match stxOf a, saxOf a with
  | some n, _ => d.wrB (Reg.STX_STATUS n) 5 false
  | none, some n => d.servoResume n
  | none, none => d

end Sys2Proof.Machine
end

