-- ==== Sys2Proof/Machine/Portal.lean ====
section
/-!
DEFINITION. Portals (spec/02): maps, inputs and the secured test, the state register, the cycle and its
record, and the moves that the door program writes. The door program's tasks are in Obstacle and Door.
-/

namespace Sys2Proof.Machine

/-! ### State fields (R43) -/

/-- Portal states, codes of PSTATE. -/
def psLocked : Nat := 0
def psReleased : Nat := 1
def psUnlocking : Nat := 2
def psOpening : Nat := 3
def psOpen : Nat := 4
def psClosing : Nat := 5
def psReversing : Nat := 6
def psObstructed : Nat := 7
def psLocking : Nat := 8
def psIsolated : Nat := 9
def psFault : Nat := 10
/-- Step states, codes of SSTATE. -/
def ssRetracted : Nat := 0
def ssExtending : Nat := 1
def ssExtended : Nat := 2
def ssRetracting : Nat := 3
def ssUnhomed : Nat := 4
def ssStalled : Nat := 5
def ssNotFitted : Nat := 7

def Dev.pst (d : Dev) (p : Slot) : Nat := d.rdF (Reg.PRT_STATE p) 3 0
def Dev.sst (d : Dev) (p : Slot) : Nat := d.rdF (Reg.PRT_STATE p) 6 4
def Dev.setSst (d : Dev) (p : Slot) (s : Nat) : Dev := d.wrF (Reg.PRT_STATE p) 6 4 s
def Dev.prtB (d : Dev) (p : Slot) (i : Nat) : Bool := d.rdB (Reg.PRT_STATE p) i
def Dev.setPrtB (d : Dev) (p : Slot) (i : Nat) (b : Bool) : Dev := d.wrB (Reg.PRT_STATE p) i b
/-- STATE.RETRIES and OBS_REACT.RETRY_LIM. -/
def Dev.retries (d : Dev) (p : Slot) : Nat := d.rdF (Reg.PRT_STATE p) 26 24
def Dev.retryLim (d : Dev) (p : Slot) : Nat := d.rdF (Reg.PRT_OBS_REACT p) 26 24

/-- The portal's engine runs (ENGn.STATUS.RUN). -/
def Dev.engRun (d : Dev) (p : Slot) : Bool := d.rdF (Reg.ENG_STATUS p) 1 0 == 1

/-! ### Inputs of a portal, from the snapshot (R33, R44) -/

/-- Role numbers in the order of INPUT_MAP0 to INPUT_MAP2. -/
def roClosed1 : Nat := 0
def roClosed2 : Nat := 1
def roLocked1 : Nat := 2
def roLocked2 : Nat := 3
def roOpenEnd : Nat := 4
def roStepRet : Nat := 5
def roBtnOut : Nat := 6
def roBtnIn : Nat := 7
def roBtnClose : Nat := 8
def roCurtain : Nat := 9
def roEgress : Nat := 10
def roIsolate : Nat := 11

/-- The map byte of a role. -/
def Dev.role (d : Dev) (p : Slot) (r : Nat) : Nat :=
  d.rdF (Reg.PRT_INPUT_MAP p (r / 4)) (8 * (r % 4) + 7) (8 * (r % 4))
/-- The role is fitted. -/
def Dev.fit (d : Dev) (p : Slot) (r : Nat) : Bool := fitted (d.role p r)
/-- An input named by a map byte is active in the snapshot, after inversion; an input whose quality is
invalid keeps its last valid level (R56). -/
def Dev.byteOn (d : Dev) (b : Nat) : Bool :=
  fitted b && (bit (d.sn (Reg.FIN_IN_LVL (b % 128 / 32))) (b % 128 % 32) != decide (128 ≤ b))
/-- An input's quality in the snapshot. -/
def Dev.byteValid (d : Dev) (b : Nat) : Bool :=
  !fitted b || bit (d.sn (Reg.FIN_IN_QUAL (b % 128 / 32))) (b % 128 % 32)
def Dev.roleOn (d : Dev) (p : Slot) (r : Nat) : Bool := d.byteOn (d.role p r)
/-- The role is not fitted, or made. -/
def Dev.unfitOrOn (d : Dev) (p : Slot) (r : Nat) : Bool := !d.fit p r || d.roleOn p r

/-- The band of an edge in the snapshot. -/
def Dev.snBand (d : Dev) (e : Nat) : Nat := fld (d.sn (Reg.FED_EDG_BAND (e / 8))) (4 * (e % 8) + 2) (4 * (e % 8))
/-- Edge numbers of a portal: EDGE_A, EDGE_B; 24 and above name none. -/
def Dev.edgeNo (d : Dev) (p : Slot) (b : Bool) : Nat := if b then d.rdF (Reg.PRT_EDGE_MAP p) 12 8 else d.rdF (Reg.PRT_EDGE_MAP p) 4 0

/-- Which mapped inputs, in the order of the roles, and mapped edges A and B are invalid (R56, R178). -/
def Dev.invalidInputs (d : Dev) (p : Slot) : List Bool :=
  (List.range 12).map (fun r => !d.byteValid (d.role p r))
    ++ [false, true].map (fun b => decide (d.edgeNo p b < 24) && d.snBand (d.edgeNo p b) == 7)

/-- The portal's side is right: the locked interlock map decides, PRTn.CFG.SIDE without one (R71, R86). -/
def Dev.rightSide (d : Dev) (p : Slot) : Bool :=
  if d.mapLocked then d.rdB (Reg.ILK_PMAP_B p) 18 else d.rdB (Reg.PRT_CFG p) 4
/-- Interlock states in the snapshot: permission of the portal's side, TL_CLOSE, zero velocity. -/
def Dev.release (d : Dev) (p : Slot) : Bool := bit (d.sn Reg.ILK_STATUS) (if d.rightSide p then 3 else 2)
def Dev.tlClose (d : Dev) : Bool := bit (d.sn Reg.ILK_STATUS) 1
def Dev.tlZvel (d : Dev) : Bool := bit (d.sn Reg.ILK_STATUS) 0

/-- Every fitted CLOSED input is made; every fitted LOCKED input is made, or unlocked. -/
def Dev.closedMade (d : Dev) (p : Slot) : Bool := d.unfitOrOn p roClosed1 && d.unfitOrOn p roClosed2
def Dev.lockedMade (d : Dev) (p : Slot) : Bool := d.unfitOrOn p roLocked1 && d.unfitOrOn p roLocked2
def Dev.unlockedAll (d : Dev) (p : Slot) : Bool := !d.roleOn p roLocked1 && !d.roleOn p roLocked2

/-! ### Positions (R46, R172) -/

/-- The closed position x_cl of an axis: LATCH_REF with REBASE = 1, the last LATCH_POS otherwise (R172). The door
program's tasks read it, POS_UNCERTAIN, REF_VALID and positions from the snapshot (R33, R250). -/
def Dev.xClosed (d : Dev) (a : Axis) : Int :=
  if d.rdB (Reg.MOT_MCFG a) 3 then (d.sn (Reg.MOT_LATCH_REF a)).toInt else (d.sn (Reg.MOT_LATCH_POS a)).toInt
/-- REF_VALID and POS_UNCERTAIN of an axis in the snapshot. -/
def Dev.refSeen (d : Dev) (a : Axis) : Bool := bit (d.sn (Reg.MOT_MSTAT a)) 8
def Dev.uncSeen (d : Dev) (a : Axis) : Bool := bit (d.sn (Reg.MOT_MSTAT a)) 7
/-- +1 where increasing count is toward open. -/
def Dev.openSign (d : Dev) (a : Axis) : Int := if d.rdB (Reg.MOT_MCFG a) 2 then 1 else -1
/-- Counts of a length in millimetres, to the nearest count. -/
def Dev.mmCounts (d : Dev) (a : Axis) (mm : Nat) : Int := roundAway ((mm : Rat) * (d.rd (Reg.MOT_SCALE a)).toNat / 65536)
/-- Distance from closed in millimetres, toward open positive (R172). -/
def Dev.fromClosed (d : Dev) (a : Axis) : Rat :=
  let sc := (d.rd (Reg.MOT_SCALE a)).toNat
  if sc = 0 then 0 else ((d.openSign a * (d.posSnap a - d.xClosed a) : Int) : Rat) * 65536 / sc
/-- Within CLOSED_WIN of the latched closed position; not tested while REF_VALID = 0 (R46). -/
def Dev.inWindow (d : Dev) (p : Slot) (a : Axis) : Bool :=
  !d.refSeen a || decide (|d.fromClosed a| * 10 ≤ d.rdF (Reg.PRT_CFG p) 19 12)
/-- Door axes of a portal: slide, then swing. -/
def Dev.doorAxes (d : Dev) (p : Slot) : List Axis := (d.servosOf p).map Sax.axis
/-- Every door axis lies within CLOSED_WIN. -/
def Dev.allInWindow (d : Dev) (p : Slot) : Bool := (d.doorAxes p).all (d.inWindow p)

/-- Another member of the lock group holds the feed on with the permission present (R41). -/
def Dev.lockShared (d : Dev) (p : Slot) : Bool :=
  let c := d.rdF (Reg.PRT_OUTPUT_MAP p) 5 0
  (d.pst p == psLocking || d.pst p == psReleased) && d.release p
    && slots.any (fun q => q != p && d.enabled q && d.rdF (Reg.PRT_OUTPUT_MAP q) 5 0 == c && d.portal[q].lockReq)

/-- Secured without the step (R46, R60). -/
def Dev.leavesSecured (d : Dev) (p : Slot) : Bool :=
  d.closedMade p && (d.prtB p 27 || d.lockedMade p) && d.allInWindow p
/-- Secured (R46). -/
def Dev.secured (d : Dev) (p : Slot) : Bool := d.leavesSecured p && (!d.stepFitted p || d.roleOn p roStepRet)

/-- Every door axis is at rest with nothing written and not yet taken. -/
def Dev.axisQuiet (d : Dev) (a : Axis) : Bool := !d.mot[a].busy && d.mot[a].mcmds.isEmpty
def Dev.doorQuiet (d : Dev) (p : Slot) : Bool := (d.doorAxes p).all d.axisQuiet
def Dev.stepQuiet (d : Dev) (p : Slot) : Bool :=
  match d.stepAx p with
  | none => true
  | some n => d.axisQuiet (Stx.axis n)

/-! ### Moves the door program writes -/

/-- Write the move registers of an axis and an MCMD code, as the program does through its IO window (R121). -/
def Dev.progMove (d : Dev) (a : Axis) (code : Nat) (tgt : Int) (speed : Nat) (coord quick : Bool) (tgt2 : Int) : Dev :=
  let attr := wn (fld (wi tgt) 7 0 + speed * 256 + (if coord then 2 ^ 18 else 0) + (if quick then 2 ^ 19 else 0))
  let d := ((d.wr (Reg.MOT_MV_TGT a) (wi (tgt / 256))).wr (Reg.MOT_MV_ATTR a) attr).wr (Reg.MOT_MV_TGT2 a) (wi (tgt2 / 256))
  d.mcmdTake a code true

/-- A STOP that the program writes. -/
def Dev.progStop (d : Dev) (a : Axis) : Dev := if d.axisQuiet a then d else d.mcmdTake a 3 true

/-- Open position of a slide axis: STROKE from closed; of a swing axis, the bundle's constant (log 48). -/
def Dev.slideOpen (d : Dev) (p : Slot) (a : Axis) : Int :=
  256 * (d.xClosed a + d.openSign a * d.mmCounts a (d.rdF (Reg.PRT_OBS_GEOM p) 31 16))
def Dev.swingOpenAt (d : Dev) (p : Slot) (w : Axis) : Int :=
  256 * (d.xClosed w + d.openSign w * (Config.swingStroke p : Nat))

/-- SPEED of a close at REF_SPEED mm/s in 1/256 of LIM_C_V, at least 1 (R57). -/
def Dev.refSpeed (d : Dev) (p : Slot) (a : Axis) : Nat :=
  let v := (d.rdF (Reg.PRT_TIME_C p) 31 24 : Rat) * (d.rd (Reg.MOT_SCALE a)).toNat / 65536
  let l := (d.rd (Reg.MOT_LIM_C_V a)).toNat
  if l = 0 then 1 else max 1 (min 256 (v * 256 / l).floor.toNat)

/-- Start the leaves toward open or closed: PUSH or RETARGET on the slide axis, COORD with the swing axis on
a PLUG portal. `slide` replaces the slide's target where given. -/
def Dev.doorMove (d : Dev) (p : Slot) (toOpen : Bool) (code : Nat) (speed : Nat) (quick : Bool) (slide : Option Int) : Dev :=
  match d.slideAx p with
  | none => d
  | some s =>
    let a := Sax.axis s
    let tgt := slide.getD (if toOpen then d.slideOpen p a else 256 * d.xClosed a)
    let d := d.modPrt p (fun x => { x with openTgt := tgt })
    match d.swingAx p with
    | none => d.progMove a code tgt speed false quick 0
    | some w =>
      let w := Sax.axis w
      d.progMove a code tgt speed true quick (if toOpen then d.swingOpenAt p w else 256 * d.xClosed w)

/-- The leaves' move is complete: at rest at the slide target; a PNEU portal is at its open end (R46, R186). -/
def Dev.moveDone (d : Dev) (p : Slot) : Bool :=
  d.doorQuiet p &&
  (match d.slideAx p with
   | none => true
   | some s => d.mot[Sax.axis s].sp == d.portal[p].openTgt)

/-- Valves of a PNEU portal: open and close channels. -/
def Dev.valves (d : Dev) (p : Slot) (op cl : Bool) : Dev :=
  if d.ptype p = 2 then
    (d.progReq (d.rdF (Reg.PRT_AXIS_MAP p) 21 16) op).progReq (d.rdF (Reg.PRT_AXIS_MAP p) 29 24) cl
  else d

/-! ### The cycle (R62 to R66) -/

def Dev.modAcc (d : Dev) (p : Slot) (f : Acc → Acc) : Dev := d.modPrt p (fun x => { x with acc := f x.acc })

/-- Module temperature, 0.1 °C (PWR.TEMP). -/
def Dev.temp (d : Dev) : Int := sfld (d.rd Reg.PWR_TEMP) 15 0

/-- Whole milliseconds of a duration, saturating at `k` bytes. -/
def msOf (k t : Nat) : Nat := min (256 ^ k - 1) (t / 200000)

/-- Bytes 24 to 71 of the cycle record (R64). The spec leaves roundings open: I_PEAK and ENERGY
are rounded down, F_RES_PEAK to the nearest 0.1 N, halves away from zero (log 112). -/
def Dev.cycleBody (d : Dev) (p : Slot) (result cycNo : Nat) : List Byte :=
  let a := d.portal[p].acc
  let s16 := fun (i : Int) => (wi (satS 16 i)).toNat
  leBytes 1 (d.carPortal p) ++ leBytes 1 result ++ leBytes 2 a.flags ++ leBytes 4 cycNo
    ++ leBytes 2 (msOf 2 a.tUnlock) ++ leBytes 2 (msOf 2 a.tLock) ++ leBytes 4 (msOf 4 a.tOpen)
    ++ leBytes 4 (msOf 4 a.tDwell) ++ leBytes 4 (msOf 4 a.tClose) ++ leBytes 2 (msOf 2 a.tStepExt)
    ++ leBytes 2 (msOf 2 a.tStepRet) ++ leBytes 2 (satU 16 (a.iPeak * 1000).floor)
    ++ leBytes 2 (s16 (roundAway (a.fRes * 10))) ++ leBytes 1 (min 255 a.edgeActs) ++ leBytes 1 (min 255 a.curtActs)
    ++ leBytes 1 (min 255 a.reversals) ++ leBytes 1 (wi (satS 8 a.tempPeak)).toNat
    ++ leBytes 4 (satU 32 (a.energy * 1000).floor) ++ leBytes 4 a.closeLatch.toNat ++ leBytes 1 a.openSrc
    ++ leBytes 1 a.closeSrc ++ leBytes 1 (d.pst p + 16 * d.sst p) ++ leBytes 1 0

/-- Words of a byte list, least significant byte first. -/
def wordsOf : Nat → List Byte → List Word
  | 0, _ => []
  | n + 1, bs => wn (leNat (bs.take 4)) :: wordsOf n (bs.drop 4)

/-- PRTn.CYCLE_ACC as the accumulators stand (R61); all zero outside a cycle. -/
def Dev.showAcc (d : Dev) (p : Slot) : Dev :=
  let ws := if d.portal[p].cycOn then wordsOf 12 (d.cycleBody p 0 0) else List.replicate 12 0
  ws.zipIdx.foldl (fun (d : Dev) q => d.wr (Reg.PRT_CYCLE_ACC p q.2) q.1) d

/-- CYCLE_START (R62). The slow-corner itinerary in force at the start counts for SLOW_ITIN (R226). -/
def Dev.cycleStart (d : Dev) (p : Slot) (src : Nat) : Dev :=
  d.modPrt p (fun x => { x with
    cycOn := true, edgeSeen := 0, curtSeen := false
    acc := { openSrc := src, tempPeak := roundAway ((d.temp : Rat) / 10),
             flags := if d.rdB Reg.TBS_PACE_STATUS 0 then 32 else 0 } })

/-- Results in the order of R65's table; the lowest that applies is used. -/
def severityOf (r : Nat) : Nat :=
  match r with
  | 0x00 => 0 | 0x03 => 0 | 0x01 => 1 | 0x02 => 2 | 0x11 => 2 | 0x10 => 3 | 0x13 => 3 | _ => 4

/-- RESULT of a cycle that ends in the portal's present state (R65). -/
def Dev.cycleResult (d : Dev) (p : Slot) (powerLoss : Bool) : Nat :=
  let a := d.portal[p].acc
  let s := d.pst p
  if s = psFault ∧ !powerLoss ∧ d.roleOn p roEgress then 0x12
  else if powerLoss then 0x13
  else if s = psFault then 0x10
  else if s = psIsolated then 0x11
  else if a.flags % 2 = 1 then 0x02
  else if 1 ≤ a.reversals then 0x01
  else if a.rule7 then 0x03
  else 0x00

/-- CYCLE_END (R63): CYCLES is incremented, one record is requested, the accumulators are cleared. -/
def Dev.cycleEnd (d : Dev) (p : Slot) (powerLoss : Bool) : Dev :=
  if d.portal[p].cycOn then
    let d := if powerLoss then d.modAcc p (fun a => { a with flags := a.flags ||| 64 }) else d
    let n := satAdd 0xFFFFFFFF (d.rd (Reg.PRT_CYCLES p)).toNat 1
    let d := d.wr (Reg.PRT_CYCLES p) (wn n)
    let r := d.cycleResult p powerLoss
    let d := d.request { kind := .cycle, sev := severityOf r, src := p, portal := d.carPortal p, cycleNo := n, body := d.cycleBody p r n }
    (d.modPrt p (fun x => { x with cycOn := false, acc := {} })).showAcc p
  else d

/-! ### Entering a state -/

/-- Enter a portal state: the state code, its timer, and the bits that live only in some states. A change of
PSTATE is an occurrence of source p (R374). -/
def Dev.enter (d : Dev) (p : Slot) (s : Nat) (cause : Nat := 0) : Dev :=
  let d := if d.pst p = s then d else d.occur p
  let w := d.rd (Reg.PRT_STATE p)
  let w := setFld (setFld w 3 0 s) 15 8 cause
  let w := setBit (setBit (setBit w 18 false) 21 false) 20 false
  let d := d.wr (Reg.PRT_STATE p) w
  let stroke := s == psOpening || s == psClosing
  let bypassed := d.rdB (Reg.PRT_OBS_STATUS p) 15
  let ends := s == psLocking || s == psFault || s == psIsolated
  let d := d.setPrtB p 27 (d.lockShared p)
  let d := d.modPrt p (fun x => { x with
    enteredAt := d.now, warnAt := none, curtAt := none, paused := 0, waitAt := none, blockDue := false
    newStroke := x.newStroke || stroke
    clean := stroke && !bypassed, sums := if stroke then List.replicate 8 (0, 0) else x.sums
    closeLatch := x.closeLatch && !ends, closeBy := if ends then 0 else x.closeBy
    closeNew := false, edgeSeen := if s = psClosing then 0 else x.edgeSeen
    revMove := s == psReversing, revLive := false, edgeBroke := if s = psReversing then x.edgeBroke else false })
  if s = psUnlocking ∨ s = psLocking then d.wrF (Reg.PRT_STATE p) 26 24 0 else d

/-- Turn the bridges of a portal's axes off (R53): the program writes EN = 0; a step not at rest is unhomed. -/
def Dev.bridgesOff (d : Dev) (p : Slot) : Dev :=
  let d := (d.servosOf p).foldl (fun d n => d.servoEn n false) d
  match d.stepAx p with
  | none => d
  | some n => d.stepEn n false

/-- The step's pulses stop at once; a moving step becomes UNHOMED with POS_UNCERTAIN, and its time limit ends (R53).
A step that stalled stays STALLED until its pulses have stopped (R58). -/
def Dev.stepHaltNow (d : Dev) (p : Slot) : Dev :=
  match d.stepAx p with
  | none => d
  | some n =>
    let a := Stx.axis n
    let moving := d.sst p == ssExtending || d.sst p == ssRetracting || !d.axisQuiet a
    if d.sst p = ssStalled || !moving then d
    else
      let d := if d.axisQuiet a then d else d.haltAx a
      ((d.wrB (Reg.MOT_MSTAT a) 7 true).setSst p ssUnhomed).modPrt p (fun x => { x with stepAt := none })

/-- Entry into ISOLATED or FAULT (R53, R62). With `silent` the motion hardware is already silenced, and the
bridges go off at once. -/
def Dev.enterOut (d : Dev) (p : Slot) (s : Nat) (cause : Nat) (silent : Bool) : Dev :=
  let d := d.enter p s cause
  let d := d.cycleEnd p false
  let d := d.lockRequest p false
  if silent || d.doorQuiet p then (d.stepHaltNow p).bridgesOff p
  else ((d.doorAxes p).foldl Dev.progStop d).modPrt p (fun x => { x with offDue := true })

/-- The door axes have come to rest after such an entry: pulses stop and the bridges go off. -/
def Dev.offWhenQuiet (d : Dev) (p : Slot) : Dev :=
  if d.portal[p].offDue && d.doorQuiet p then
    ((d.stepHaltNow p).bridgesOff p).modPrt p (fun x => { x with offDue := false })
  else d

/-- Enter CLOSING (rules 10, 16, 19): the close entry, the latch armed, and the request named (R57, R64,
log 50). -/
def Dev.enterClosing (d : Dev) (p : Slot) : Dev :=
  let src := if d.tlClose then 6 else d.portal[p].closeBy
  let d := (d.enter p psClosing).modAcc p (fun a => { a with closeSrc := src })
  match d.slideAx p with
  | none => d.valves p false true
  | some s =>
    let a := Sax.axis s
    let ref := d.prtB p 19
    let d := if ref then d.modAcc p (fun x => { x with flags := x.flags ||| 128 }) else d
    let d := (d.doorAxes p).foldl (fun (d : Dev) (a : Axis) =>
      (d.wrB (Reg.MOT_LATCH_CFG a) 15 true).modMot a (fun m => { m with refDue := ref })) d
    d.doorMove p false 1 (if ref then d.refSpeed p a else 256) false none

/-- Enter OPENING (rules 6, 13, resume): by PUSH from rest, by RETARGET in motion. -/
def Dev.enterOpening (d : Dev) (p : Slot) (retarget : Bool) : Dev :=
  let d := d.enter p psOpening
  let d := d.valves p true false
  d.doorMove p true (if retarget then 2 else 1) 256 false none

/-- Step moves: extension to the stroke of the bundle, retraction to the park depth (R58, log 48). -/
def Dev.stepMove (d : Dev) (p : Slot) (out : Bool) : Dev :=
  match d.stepAx p with
  | none => d
  | some n =>
    let a := Stx.axis n
    let tgt : Int := if out then 256 * (d.openSign a * (Config.stepStroke p : Nat))
      else 256 * (-(d.openSign a) * (d.rd (Reg.MOT_RET_DEPTH a)).toNat)
    let d := ((d.progMove a 1 tgt 256 false false 0).stepMoveStart n).setSst p (if out then ssExtending else ssRetracting)
    d.modPrt p (fun x => { x with stepAt := some d.now })

end Sys2Proof.Machine
end

