-- ==== Sys2Proof/Machine/Obstacle.lean ====
section
/-!
DEFINITION. The obstacle task of the standard door program (spec/07): force residual, zones and thresholds,
confirmation, edges, curtain, the reaction, drift means, and the test bypass.
-/

namespace Sys2Proof.Machine

/-- OBS_CFG bits and MODE. -/
def Dev.obsB (d : Dev) (p : Slot) (i : Nat) : Bool := d.rdB (Reg.PRT_OBS_CFG p) i
def Dev.obsMode (d : Dev) (p : Slot) : Nat := d.rdF (Reg.PRT_OBS_CFG p) 1 0
/-- Base threshold in newtons and C in milliseconds of a mode (R174). -/
def baseTh (mode : Nat) : Nat := match mode with | 0 => 40 | 1 => 80 | _ => 140
def confMs (mode : Nat) : Nat := match mode with | 0 => 6 | 1 => 10 | _ => 20
/-- N_conf (R174). -/
def Dev.nConf (d : Dev) (p : Slot) : Nat :=
  let c := ms (confMs (d.obsMode p))
  if d.spdT = 0 then 1 else (c - d.posT) / d.spdT + 1

/-- Zone of a distance from closed (R172). -/
def Dev.zone (d : Dev) (p : Slot) (mm : Rat) : Nat :=
  let st := d.rdF (Reg.PRT_OBS_GEOM p) 31 16
  if st = 0 then 7 else (max 0 (min 7 (8 * mm / st).floor)).toNat
/-- K_z. -/
def Dev.zoneK (d : Dev) (p : Slot) (z : Nat) : Nat :=
  if z < 4 then d.rdF (Reg.PRT_OBS_ZONE_K0 p) (8 * z + 7) (8 * z) else d.rdF (Reg.PRT_OBS_ZONE_K1 p) (8 * (z - 4) + 7) (8 * (z - 4))
def Dev.sealLen (d : Dev) (p : Slot) : Nat := d.rdF (Reg.PRT_OBS_GEOM p) 7 0
/-- The zone threshold outside the seal zone, newtons. -/
def Dev.zoneTh (d : Dev) (p : Slot) (z : Nat) : Rat := (baseTh (d.obsMode p) * d.zoneK p z : Nat) / 16

/-- Threshold, zone and IN_SEAL of a sample on a door axis (R172, R173). -/
def Dev.threshold (d : Dev) (p : Slot) (a : Axis) (isSwing : Bool) : Rat × Nat × Bool :=
  let sealTh : Rat := d.rdF (Reg.PRT_OBS_SEAL p) 15 0
  if !d.refSeen a then (sealTh, 0, true)
  else
    let mm := d.fromClosed a
    let z := if isSwing then 0 else d.zone p mm
    if d.pst p = psClosing ∧ mm < d.sealLen p then (sealTh, z, true)
    else if isSwing then ((d.rdF (Reg.PRT_OBS_SEAL p) 31 16 : Rat), z, false)
    else (d.zoneTh p z, z, false)

/-- The detection value f of an axis (R170, R171). -/
def Dev.residualF (d : Dev) (n : Sax) : Word :=
  let s := d.servo[n]
  let k := d.spdDiv
  let iq := fdiv (fsum (s.iqs.take k)) (cvtxf (k : Int) 0)
  let r := fsub (fsub (fsub (fmul (d.ktRatio n) iq) s.ffFric) (d.cogging n)) (d.massForce n)
  if fceq s.vref f0 then f0 else if fclt s.vref f0 then fneg r else r

/-- Phase of the reverse move at which samples are live: the leaves, at rest after the run-down, have started
toward open (R175). -/
def Dev.revStarted (d : Dev) (p : Slot) : Bool :=
  d.portal[p].revMove && (match d.slideAx p with
    | none => false
    | some s => let m := d.mot[Sax.axis s]; m.running && !m.inRundown && m.mcmds.isEmpty && !m.segs.isEmpty)

/-- A sample on axis `n` is live (R175). -/
def Dev.sampleLive (d : Dev) (p : Slot) (n : Sax) : Bool :=
  let st := d.pst p
  let det := d.obsB p 13
  ((st == psClosing && !d.prtB p 21) || (st == psOpening && det)
      || (st == psReversing && det && d.portal[p].revLive))
    && d.obsB p 11 && !d.rdB (Reg.PRT_OBS_STATUS p) 15 && !fclt (fabs d.servo[n].vref) (d.bk n 15)

/-- What one axis contributes at an obstacle tick: f, threshold, zone, IN_SEAL, live, and whether its count
reached N_conf. `i` is 0 for the slide, 1 for the swing. -/
structure Sample where
  f : Word
  th : Word
  zone : Nat
  inSeal : Bool
  live : Bool
  hit : Bool
  deriving DecidableEq, Repr

/-- The confirmation count of R175 for axis `n`, with the cycle's peak and the stroke's sums. -/
def Dev.confirmAxis (d : Dev) (p : Slot) (n : Sax) (i : Nat) : Dev × Sample :=
  let a := Sax.axis n
  let f := d.residualF n
  let (th, z, inSeal) := d.threshold p a (i == 1)
  let thw := fofRat th
  let live := d.sampleLive p n
  let c := if d.portal[p].newStroke then 0 else d.portal[p].confirms.getD i 0
  let c := if !live then c else if fclt thw f then c + 1 else if fcle f (fmul thw (fofRat (7 / 8))) then 0 else c
  let hit := live && decide (d.nConf p ≤ c)
  let c := if hit then 0 else c
  let fr := ftoRat f
  let d := d.modPrt p (fun x => { x with
    confirms := x.confirms.set i c
    clean := x.clean && d.refSeen a
    sums := if live && i == 0 && !inSeal then
        let s := x.sums.getD z (0, 0); x.sums.set z (s.1 + fr, s.2 + 1) else x.sums
    acc := if live && x.cycOn && decide (|x.acc.fRes| < |fr|) then { x.acc with fRes := fr } else x.acc })
  let d := d.modServo n (fun s => { s with pub := s.pub.set 12 f })
  let d := if i = 0 then (d.wr (Reg.PRT_OBS_RES p) f).wr (Reg.PRT_OBS_TH p) thw else d.wr (Reg.PRT_OBS_RES_SWING p) f
  (d, ⟨f, thw, z, inSeal, live, hit⟩)

/-- The record of an obstacle declaration (R189): cause, axis, zone, f and threshold. -/
def Dev.declare (d : Dev) (p : Slot) (flag cause : Nat) (ax : Nat) (s : Sample) : Dev :=
  d.request (eventReq p 1 flag p [wn cause, wn ax, wn s.zone, s.f, s.th])

/-- REVERSAL (R181, R186) with the number of edges whose episodes begin it (R64). -/
def Dev.reverse (d : Dev) (p : Slot) (edges : Nat) : Dev :=
  let d := d.enter p psReversing
  let d := d.wrF (Reg.PRT_STATE p) 26 24 (min 7 (d.retries p + 1))
  let d := d.modAcc p (fun a => { a with reversals := a.reversals + 1, edgeActs := a.edgeActs + edges })
  match d.slideAx p with
  | none => d.valves p true false
  | some s =>
    let a := Sax.axis s
    let dist := d.rdF (Reg.PRT_OBS_REACT p) 15 0
    let full := d.slideOpen p a
    let back := 256 * (d.posSnap a + d.openSign a * d.mmCounts a dist)
    let tgt := if dist = 0 ∨ (d.swingAx p).isSome then full
      else if 0 < d.openSign a then min full back else max full back
    d.doorMove p true 2 256 true (some tgt)

/-- STOP on the slide axis; a coordinated queue stops both axes (R106, R108). -/
def Dev.stopDoor (d : Dev) (p : Slot) : Dev :=
  match d.slideAx p with
  | none => d
  | some s => d.progStop (Sax.axis s)

/-- Edge bands as the task treats them: PRESSED and LOW, or BROKEN (R178). The last valid band is kept. -/
def Dev.keepBands (d : Dev) (p : Slot) : Dev :=
  let see := fun (old : Nat) (b : Bool) => let e := d.edgeNo p b
    if e < 24 then (let v := d.snBand e; if v = 7 then old else v) else 0
  let shown := fun (b : Bool) => let e := d.edgeNo p b; if e < 24 then d.snBand e else 0
  let d := d.modPrt p (fun x => { x with bandA := see x.bandA false, bandB := see x.bandB true })
  (d.wrF (Reg.PRT_OBS_STATUS p) 2 0 (shown false)).wrF (Reg.PRT_OBS_STATUS p) 6 4 (shown true)
def bandPressed (b : Nat) : Bool := b == 1 || b == 3
def Dev.band (d : Dev) (p : Slot) (b : Bool) : Nat := if b then d.portal[p].bandB else d.portal[p].bandA
/-- A pressed or LOW edge counts as a blocked curtain outside CLOSING with EDGE_HOLD (R178). -/
def Dev.edgeHolds (d : Dev) (p : Slot) : Bool :=
  d.obsB p 12 && d.obsB p 14 && (bandPressed (d.band p false) || bandPressed (d.band p true))
/-- An edge reads broken and acts. -/
def Dev.edgeBroken (d : Dev) (p : Slot) : Bool := d.obsB p 12 && (d.band p false == 2 || d.band p true == 2)
/-- The curtain reads blocked. -/
def Dev.curtainBlocked (d : Dev) (p : Slot) : Bool := d.fit p roCurtain && !d.roleOn p roCurtain
/-- Blocked for rules 10, 11, 16 and 19. -/
def Dev.doorwayBlocked (d : Dev) (p : Slot) : Bool := d.curtainBlocked p || d.edgeHolds p

/-- Edges that act in CLOSING at this tick: A and B as 1 pressed, 2 broken, 0 none (R178). -/
def Dev.edgeActs (d : Dev) (p : Slot) : Nat × Nat :=
  let one := fun (b : Bool) =>
    let v := d.band p b
    if d.portal[p].edgeSeen.testBit b.toNat then 0
    else if v = 2 then 2 else if bandPressed v && !d.closedMade p then 1 else 0
  if d.obsB p 12 then (one false, one true) else (0, 0)

/-- CURT_SEAL_MUTE: with the slide axis in its seal zone, a blocked curtain is ignored in CLOSING (R180). -/
def Dev.curtainMuted (d : Dev) (p : Slot) : Bool :=
  d.obsB p 15 && (match d.slideAx p with
    | none => false
    | some s => d.refSeen (Sax.axis s) && decide (d.fromClosed (Sax.axis s) < d.sealLen p))

/-- CURTAIN_PAUSE (R180). -/
def Dev.curtainPause (d : Dev) (p : Slot) : Dev :=
  if d.curtainBlocked p && !d.prtB p 21 && !d.curtainMuted p then
    let d := (d.setPrtB p 21 true).modPrt p (fun x => { x with
      curtAt := some d.now, clean := false, confirms := [0, 0], curtSeen := true
      acc := { x.acc with flags := x.acc.flags ||| 4, curtActs := x.acc.curtActs + (!x.curtSeen).toNat } })
    ((d.stopDoor p).valves p false false).raiseObs p 2
  else d

/-- The bands outside CLOSING (R178, R64): an edge that reads broken, or that is pressed where EDGE_HOLD makes it hold the
doorway, begins an episode in EDGE_ACTS, which lasts while the band does (log 146). In a reverse move a broken edge ends
it in FAULT (R56). -/
def Dev.edgeEpisodes (d : Dev) (p : Slot) : Dev :=
  let x := d.portal[p]
  let st := d.pst p
  let held := d.obsB p 14 && (st == psOpen || st == psObstructed || (st == psReversing && !x.revMove))
  let acts := fun (b : Bool) => d.obsB p 12 && (d.band p b == 2 || (held && bandPressed (d.band p b)))
  let goesOn := fun (b : Bool) => x.edgeSeen.testBit b.toNat && (d.band p b == 2 || bandPressed (d.band p b))
  let seen := fun (b : Bool) => 2 ^ b.toNat * (acts b || goesOn b).toNat
  let fresh := [false, true].countP (fun b => acts b && !x.edgeSeen.testBit b.toNat)
  d.modPrt p (fun x => { x with
    edgeBroke := x.edgeBroke || (st == psReversing && x.revMove && d.edgeBroken p)
    edgeSeen := seen false + seen true
    acc := if x.cycOn then { x.acc with edgeActs := x.acc.edgeActs + fresh } else x.acc })

/-- A blocked curtain in OPEN with close in force begins an episode in CURTAIN_ACTS, which ends when it is clear (R180,
R64). -/
def Dev.curtainEpisode (d : Dev) (p : Slot) : Dev :=
  let acts := d.curtainBlocked p && d.pst p == psOpen && (d.portal[p].closeLatch || d.tlClose)
  d.modPrt p (fun x => { x with
    curtSeen := d.curtainBlocked p && (x.curtSeen || acts)
    acc := if acts && !x.curtSeen && x.cycOn then { x.acc with curtActs := x.acc.curtActs + 1 } else x.acc })

/-- OBSTACLE_TASK (R175 to R186) of a portal at an obstacle tick. Of several causes at one tick the record carries the
first of residual (slide before swing), broken edge, edge A, edge B, and an obstacle comes before a curtain that reads
blocked at its tick (log 144). -/
def Dev.obstacleTask (d : Dev) (p : Slot) : Dev :=
  let d := d.keepBands p
  let d := d.modPrt p (fun x => { x with revLive := x.revLive || (decide (d.pst p = psReversing) && d.revStarted p) })
  let none' : Sample := ⟨0, 0, 0, false, false, false⟩
  let (d, s0) := match d.slideAx p with
    | none => (d, none')
    | some n => d.confirmAxis p n 0
  let (d, s1) := match d.swingAx p with
    | none => (d, none')
    | some n => d.confirmAxis p n 1
  let d := d.modPrt p (fun x => { x with newStroke := false })
  let w := d.rd (Reg.PRT_OBS_STATUS p)
  let cnt := (d.portal[p].confirms.foldl max 0)
  let w := setFld (setFld w 31 24 (min 255 cnt)) 23 16 (min 255 (d.nConf p))
  let w := setFld (setBit (setBit w 14 s0.live) 13 s0.inSeal) 10 8 s0.zone
  let d := d.wr (Reg.PRT_OBS_STATUS p) w
  let res := s0.hit || s1.hit
  let smp := if s0.hit then s0 else if s1.hit then s1 else s0
  let ax := match (if s1.hit && !s0.hit then d.swingAx p else d.slideAx p) with
    | some n => n.val
    | none => 0xFF
  let (ea, eb) := d.edgeActs p
  let st := d.pst p
  let d := (if st = psClosing then d else d.edgeEpisodes p).curtainEpisode p
  if st = psClosing then
    if res || ea != 0 || eb != 0 then
      let broke := ea == 2 || eb == 2
      let cause := if res then 1 else if broke then 4 else if ea != 0 then 2 else 3
      let edges := (ea != 0).toNat + (eb != 0).toNat
      let d := d.modPrt p (fun x => { x with
        clean := false, edgeBroke := broke, edgeSeen := x.edgeSeen ||| ((ea != 0).toNat + 2 * (eb != 0).toNat) })
      let d := if res then d.raiseObs p 0 else d
      let d := if edges != 0 then d.raiseObs p 1 else d
      let d := d.declare p (if res then 0 else 1) cause ax smp
      d.reverse p edges
    else d.curtainPause p
  else if st = psReversing then
    if res then
      let d := (d.raiseObs p 0).raiseObs p 3
      let d := (d.declare p 3 5 ax smp).stopDoor p
      d.modPrt p (fun x => { x with revLive := false })
    else d
  else if st = psOpening then
    if res then
      let d := (d.raiseObs p 0).raiseObs p 3
      let d := (d.declare p 3 5 ax smp).stopDoor p
      d.modPrt p (fun x => { x with blockDue := true, clean := false })
    else d
  else d

/-- DRIFT_MEAN_UPDATE (R187) at the end of a clean stroke. `closing` chooses OBS_DRIFT_C; each mean is in
0.1 N, rounded to one of the two beside it (log 42). -/
def Dev.driftUpdate (d : Dev) (p : Slot) (closing : Bool) : Dev :=
  if d.portal[p].clean then
    (List.range 8).foldl (fun d z =>
      let (sum, n) := d.portal[p].sums.getD z (0, 0)
      if n = 0 then d
      else
        let m := sum / n * 10
        let r := if closing then Reg.PRT_OBS_DRIFT_C p (z / 2) else Reg.PRT_OBS_DRIFT_O p (z / 2)
        let hi := 16 * (z % 2) + 15
        let old : Rat := sfld (d.rd r) hi (hi - 15)
        let i := (if closing then 8 else 0) + z
        let v := satS 16 (d.near (if d.portal[p].fresh.getD i true then m else old + (m - old) / 16) (1400 + 16 * p.val + i))
        let d := d.wrF r hi (hi - 15) (wi v).toNat
        let d := d.modPrt p (fun x => { x with fresh := x.fresh.set i false })
        let lim := d.zoneTh p z * (d.rdF (Reg.PRT_OBS_DRIFT_CFG p) 7 0) / 10
        if lim < |(v : Rat)| then d.raiseObs p 5 z else d) d
  else d

/-! ### Rows -/

/-- EDGE_MARGINAL (R178): LOW or HIGH has persisted for 1 s on an edge. -/
def Dev.edgeMarginal (d : Dev) (e : Edge) : Dev :=
  match d.fio.edges[e].marginAt with
  | none => d
  | some t0 =>
    let d := (d.upTo (t0 + ms 1000)).modEdge e (fun x => { x with marginAt := none })
    slots.foldl (fun d p => if (d.portalEdges p).contains e.val then d.raiseObs p 4 e else d) d

/-- End a bypass (R189). -/
def Dev.bypassEnd (d : Dev) (p : Slot) : Dev :=
  if d.rdB (Reg.PRT_OBS_STATUS p) 15 then
    ((d.wrB (Reg.PRT_OBS_STATUS p) 15 false).wrB (Reg.PRT_OBS_CTRL p) 0 false).raiseObs p 6
  else d.wrB (Reg.PRT_OBS_CTRL p) 0 false

/-- BYPASS (R189, R346): starts only by a gated write in a session with the BYPASS right. -/
def Dev.bypass (d : Dev) (p : Slot) (on gate : Bool) : Dev :=
  if on then
    if !(gate && d.hasRight 1) then d.raiseObs p 7
    else if d.rdB (Reg.PRT_OBS_STATUS p) 15 then d
    else
      (((d.wrB (Reg.PRT_OBS_STATUS p) 15 true).wrB (Reg.PRT_OBS_CTRL p) 0 true).modPrt p
        (fun x => { x with clean := false })).raiseObs p 6
  else d.bypassEnd p

/-- OBS_DRIFT_CLR (R190): every drift mean restarts. -/
def Dev.driftRestart (d : Dev) (p : Slot) : Dev := d.modPrt p (fun x => { x with fresh := List.replicate 16 true })

/-! ### Accumulators of the cycle that the servo ticks feed (R64) -/

/-- I_PEAK at a current tick: the magnitude of the current vector. -/
def Dev.accCurrent (d : Dev) (p : Slot) : Dev :=
  if d.portal[p].cycOn then
    let i := ((d.servosOf p).map (fun n =>
      let id := ftoRat (d.servo[n].pub.getD 1 0)
      let iq := ftoRat (d.servo[n].pub.getD 2 0)
      if id = 0 then |iq| else sqrtR (id * id + iq * iq))).foldl max 0
    d.modAcc p (fun a => { a with iPeak := max a.iPeak i })
  else d

/-- ENERGY at a speed tick. -/
def Dev.accSpeed (d : Dev) (p : Slot) : Dev :=
  if d.portal[p].cycOn then
    let e := ((d.servosOf p).map (fun n =>
      let pm := d.perMetre (Sax.axis n)
      let v : Rat := if pm = 0 then 0 else ((d.rd (Reg.ENC_SPEED n)).toInt : Rat) / 16 / pm
      |ftoRat (d.ktRatio n) * ftoRat (d.servo[n].pub.getD 2 0) * v| * d.spdT / 200000000)).sum
    d.modAcc p (fun a => { a with energy := a.energy + e })
  else d

end Sys2Proof.Machine
end

