-- ==== Sys2Proof/Machine/Block.lean ====
section
/-!
DEFINITION. The state block of a portal (spec/12 R281), which the driver sends to the holder and the power-fail flush
writes as an IMAGE (spec/13 R318), and the image's words that start-up uses (R66, R400, R410).
-/

namespace Sys2Proof.Machine

/-- At rest for home return: LOCKED, or OPEN with every mapped axis at rest. -/
def Dev.atRest (d : Dev) (p : Slot) : Bool :=
  d.pst p == psLocked || (d.pst p == psOpen && (d.axesOf p).all (fun a => !d.mot[a].busy))

/-- Registers of a portal's state block by address. -/
def Dev.blockAddrs (d : Dev) (p : Slot) : List Nat :=
  let prt := [Reg.PRT_STATE p, Reg.PRT_CMD_STATUS p, Reg.PRT_CYCLES p, Reg.PRT_OBS_STATUS p, Reg.PRT_HEAT_STATUS p]
    ++ (List.range 12).map (Reg.PRT_CYCLE_ACC p) ++ (List.range 4).flatMap (fun i => [Reg.PRT_OBS_DRIFT_O p i, Reg.PRT_OBS_DRIFT_C p i])
  let mot := (d.axesOf p).flatMap (fun (a : Axis) =>
    [Reg.MOT_MSTAT a, Reg.MOT_SP_INT a, Reg.MOT_SP_FRAC a, Reg.MOT_SP_VEL a, Reg.MOT_SP_ACC a, Reg.MOT_POS_OFFSET a
    , Reg.MOT_LEDGER_CMD a, Reg.MOT_LEDGER_EXE a, Reg.MOT_LEDGER_RES a, Reg.MOT_LAST_RES a, Reg.MOT_LATCH_CFG a
    , Reg.MOT_LATCH_POS a, Reg.MOT_LATCH_TIME a]
    ++ (List.range 4).flatMap (fun i => [Reg.MOT_CMP_POS a i, Reg.MOT_CMP_CTRL a i]))
  let stp := (d.stepAx p).toList.flatMap (fun (n : Stx) => [Reg.STX_STEPS_ISSUED n])
  prt ++ mot ++ stp

/-- The state words of an engine image's state map: word, value, PIN, binary32. -/
def Dev.stateWords (d : Dev) (p : Slot) : List (Nat × Word × Bool × Bool) :=
  match d.eng[p].img with
  | none => []
  | some i => i.stateMap.map (fun m => (m.1, Cells.read zeroCell d.eng[p].data m.1, m.2.1, m.2.2))

/-- Encoder channels of a portal. -/
def Dev.encsOf (d : Dev) (p : Slot) : List Enc := (d.axesOf p).map (fun a => (a : Enc))

/-- What a state block carries of a servo and of a step axis (R281). -/
def Servo.ints (s : Servo) : ServoInts := ⟨s.intX, s.intV, s.intD, s.intQ⟩
def StepDrv.copy (s : StepDrv) : StepCopy := ⟨s.issued, s.origin, s.encOrigin, s.standAt, s.stood, s.laCnt, s.lostSet⟩

/-- A block reports its portal at rest for home return (R297): in LOCKED, or in OPEN with every mapped axis at rest. -/
def StateBlock.atRest (b : StateBlock) : Bool := match toFin? 12 b.slot with
  | none => false
  | some p =>
    let st := match b.regs.find? (fun r => r.1 == Reg.PRT_STATE p) with | some r => fld r.2 3 0 | none => psFault
    st == psLocked || (st == psOpen && b.mots.all (fun m => !m.2.busy))

/-- The state block of a portal (R281). CTRL.EN, the bank in force and the seals travel as further words. -/
def Dev.stateBlock (d : Dev) (p : Slot) : StateBlock :=
  { slot := p
    regs := (d.blockAddrs p).map (fun a => (a, d.rd a))
      ++ (d.servosOf p).flatMap (fun (n : Sax) => [(Reg.SAX_CTRL n, d.rd (Reg.SAX_CTRL n)), (Reg.SAX_BANK_CTRL n, d.rd (Reg.SAX_BANK_CTRL n)),
          (Reg.SAX_BANK_CRC n 0, d.rd (Reg.SAX_BANK_CRC n 0)), (Reg.SAX_BANK_CRC n 1, d.rd (Reg.SAX_BANK_CRC n 1))])
      ++ (d.stepAx p).toList.flatMap (fun (n : Stx) => [(Reg.STX_CTRL n, d.rd (Reg.STX_CTRL n)), (Reg.STX_STATUS n, d.rd (Reg.STX_STATUS n))])
    portal := d.portal[p]
    mots := (d.axesOf p).map (fun a => (a.val, d.mot[a]))
    servos := (d.servosOf p).map (fun n => (n.val, d.servo[n].ints))
    steps := (d.stepAx p).toList.map (fun n => (n.val, d.stepd[n].copy))
    counts := (d.encsOf p).map (fun c => (c.val, d.encCount c))
    reqs := (d.portalChans p).filterMap (fun c => (toFin? 48 c).map (fun (c : Ch) => (c.val, d.fio.hs[c].req)))
    epoch := d.rd (Reg.CVN_LEASE_EPOCH p)
    words := d.stateWords p }

/-- A register that an image carries; 0 where it does not. -/
def PortalImage.reg (i : PortalImage) (a : Nat) : Word := ((i.block.regs.find? (fun r => r.1 == a)).map (·.2)).getD 0
/-- PRTn.STATE, PRTn.CYCLES and PRTn.CYCLE_ACC of an image. -/
def PortalImage.state (i : PortalImage) : Word := i.reg (Reg.PRT_STATE i.slot)
def PortalImage.cycles (i : PortalImage) : Word := i.reg (Reg.PRT_CYCLES i.slot)
def PortalImage.acc (i : PortalImage) : List Word := (List.range 12).map (fun k => i.reg (Reg.PRT_CYCLE_ACC i.slot k))

end Sys2Proof.Machine
end

