-- ==== Sys2Proof/Machine/Recorder.lean ====
section
/-!
DEFINITION. The recorder (spec/13 R302 to R329): flushes, the store in NAND with its chains, seals and reclaim, adoption
and return, and the record window. Admission of a request is in Ops, the drain into the buffer in Buffer.
-/

namespace Sys2Proof.Machine

/-! ### Flush triggers (R316) -/

/-- RECORD_WRITE (R310). -/
def Dev.recordWrite (d : Dev) : Dev := d.drainOne.flushByAmount

/-- FLUSH_TIMER: 2 s after the previous flush started, with anything unflushed. -/
def Dev.flushTimer (d : Dev) : Dev :=
  let d := d.upTo (d.rcd.lastFlush + ms 2000)
  if d.flushNeeded then d.flushTrigger else d

/-- SEVERE_FLUSH_TIMER: 1 ms after a severity 3 or 4 record entered. -/
def Dev.severeFlush (d : Dev) : Dev :=
  match d.rcd.severeAt with
  | none => d
  | some t => ((d.upTo (t + ms 1)).modRcd (fun r => { r with severeAt := none })).flushTrigger

/-! ### The window (R327, R329) -/

/-- Records of the selected origin that are retained, the buffer included. -/
def Dev.winRecords (d : Dev) : List Rec :=
  let c := d.rd Reg.REC_WIN_CFG
  let own := d.solo || bit c 11 || fld c 10 8 == d.cvn.role
  if own then
    ((d.rcd.store.filter (fun s => !s.adopted)).map (·.item) ++ d.rcd.unfl.map (·.2)).filter (fun r => !decide (r.req.kind = .seal))
  else
    ((d.rcd.store.filter (fun s => s.adopted && s.origin == fld c 10 8)).map (·.item)).filter (fun r => !decide (r.req.kind = .seal))

/-- The record at SEQ `k`, or the oldest with a higher SEQ. -/
def findSeq (rs : List Rec) (k : Nat) : Option Rec :=
  rs.foldl (fun (b : Option Rec) r =>
    if r.seq < k then b
    else match b with
      | none => some r
      | some x => if r.seq < x.seq then some r else some x) none

/-- Show the record for the cursor of the load (R327). -/
def Dev.showWindow (d : Dev) : Dev :=
  let set := fun (d : Dev) (w : WinShow) (sk em : Bool) =>
    ((d.modRcd (fun r => { r with win := w })).wrB Reg.REC_WIN_STATUS 2 sk).wrB Reg.REC_WIN_STATUS 1 em
  match findSeq d.winRecords d.rcd.curKey with
  | none => set d .empty false true
  | some r => set d (.record r) (decide (r.seq ≠ d.rcd.curKey)) false

/-- A window load starts at the cursor (R327). -/
def Dev.windowLoad (d : Dev) : Dev :=
  (d.modRcd (fun r => { r with curKey := d.seqAt Reg.REC_CURSOR_LO, loading := true })).wrB Reg.REC_WIN_STATUS 0 false

/-- WINDOW_READY. -/
def Dev.windowReady (d : Dev) : Dev :=
  if d.rcd.loading then (d.showWindow.modRcd (fun r => { r with loading := false })).wrB Reg.REC_WIN_STATUS 0 true else d

/-- Set the cursor to the oldest or newest record of the selected origin, and load. -/
def Dev.seek (d : Dev) (newest : Bool) : Dev :=
  let seqs := d.winRecords.map (·.seq)
  let k := match seqs with
    | [] => d.seqAt Reg.REC_CURSOR_LO
    | s :: ss => if newest then ss.foldl max s else ss.foldl min s
  (d.setSeqAt Reg.REC_CURSOR_LO k).windowLoad

/-- Records were discarded: if the window shows one of them it is loaded anew and GEN advances. -/
def Dev.windowReload (d : Dev) (gone : List Rec) : Dev :=
  match d.rcd.win with
  | .record r =>
    if gone.contains r then d.showWindow.wrF Reg.REC_WIN_STATUS 31 24 (d.rdF Reg.REC_WIN_STATUS 31 24 + 1) else d
  | _ => d

/-! ### The store in NAND (R321 to R325) -/

/-- Severity for the overwrite rule: a returned copy goes first (R324). -/
def Stored.rank (s : Stored) : Int := if s.returned then -1 else s.item.req.sev

/-- Chain value after a record. -/
def chainNext (c : Nat) (r : Rec) : Nat := Config.sha256 (leBytes 32 c ++ r.bytes)

/-- Append a record to an open page. -/
def Dev.append (d : Dev) (saf : Bool) (b pg used : Nat) (r : Rec) (origin : Nat) (adopted reclaim : Bool) : Dev :=
  let c := chainNext (if saf then d.rcd.chainSaf else d.rcd.chainGen) r
  d.modRcd (fun x => { x with
    store := x.store ++ [⟨r, origin, adopted, reclaim, false, b, pg, c⟩]
    chainSaf := if saf then c else x.chainSaf, chainGen := if saf then x.chainGen else c
    safOpen := if saf then some (b, pg, used + r.len) else x.safOpen
    genOpen := if saf then x.genOpen else some (b, pg, used + r.len) })

/-- Records of a region, in writing order: the safety reserve or the general store. -/
def Dev.regionOf (d : Dev) (saf : Bool) : List Stored := d.rcd.store.filter (fun s => decide (s.block < genLo) == saf)

/-- The last own SEQ that a region's chain covers. -/
def Dev.lastSeqOf (d : Dev) (saf : Bool) : Nat :=
  (d.regionOf saf).foldl (fun m s => if s.adopted then m else max m s.item.seq) 0

/-- A seal of a region's chain value is due; one that closes block `b` becomes its last record (R323). -/
def Dev.sealEnd (d : Dev) (saf : Bool) (flags : Nat) (b : Option Nat := none) : Dev :=
  d.modRcd (fun x => { x with
    sealDue := x.sealDue ++ [⟨flags, saf, b, if saf then x.chainSaf else x.chainGen, d.lastSeqOf saf⟩] })

/-- A block is closed: a seal as its last record is to be signed (R323). -/
def Dev.closeBlock (d : Dev) (saf : Bool) (b : Nat) : Dev := d.sealEnd saf 4 (some b)

/-- The page can take a record of this origin: a page names one origin and one set of PFLAGS (R322). -/
def Dev.pageTakes (d : Dev) (b pg origin : Nat) (adopted reclaim : Bool) : Bool :=
  d.rcd.store.all (fun s => !(s.block == b && s.page == pg)
    || (s.origin == origin && s.adopted == adopted && s.reclaimCopy == reclaim && !s.returned))

/-- Block `b` has been erased once more; JNL.ERASE_MAX follows (R333). -/
def Dev.erased (d : Dev) (b : Nat) : Dev :=
  let n := (((d.rcd.eraseCnt.find? (fun x => x.1 == b)).map (·.2)).getD 0) + 1
  let d := d.modRcd (fun r => { r with
    blocks := setBlock r.blocks b .erased
    eraseCnt := (r.eraseCnt.filter (fun x => x.1 != b)) ++ [(b, n)] })
  d.wr Reg.JNL_ERASE_MAX (wn (max (d.rd Reg.JNL_ERASE_MAX).toNat n))

/-- A fresh block of a region: the lowest erased one, else the first whose erase is waited for, which no suspended erase
gives (R318, R321). -/
def Dev.freshBlock (d : Dev) (saf : Bool) : Option (Nat × Dev) :=
  let lo := if saf then safLo else genLo
  let n := if saf then safN else genN
  match firstErased d.rcd.blocks lo n with
  | some b => some (b, d)
  | none =>
    if d.rdB Reg.REC_STATUS 0 then none
    else (d.rcd.blocks.find? (fun x => decide (lo ≤ x.1 ∧ x.1 < lo + n) && decide (x.2 = .erasing))).map (fun x => (x.1, d.erased x.1))

/-- Put a record on an open page or a fresh one; none where no erased block can be had. -/
def Dev.putRecord (d : Dev) (saf : Bool) (r : Rec) (origin : Nat) (adopted reclaim : Bool) : Option Dev :=
  let op := if saf then d.rcd.safOpen else d.rcd.genOpen
  let fresh := fun (d : Dev) => (d.freshBlock saf).map (fun x =>
    (x.2.modRcd (fun y => { y with blocks := setBlock y.blocks x.1 .used })).append saf x.1 0 0 r origin adopted reclaim)
  match op with
  | none => fresh d
  | some (b, pg, used) =>
    if decide (used + r.len ≤ pageCap pg) && d.pageTakes b pg origin adopted reclaim then some (d.append saf b pg used r origin adopted reclaim)
    else if pg < 63 then some (d.append saf b (pg + 1) 0 r origin adopted reclaim)
    else fresh (d.closeBlock saf b)

/-- The next record opens a page. -/
def Dev.opensPage (d : Dev) (saf : Bool) (r : Rec) (origin : Nat) (adopted : Bool) : Bool :=
  match (if saf then d.rcd.safOpen else d.rcd.genOpen) with
  | none => true
  | some (b, pg, used) => decide (pageCap pg < used + r.len) || !d.pageTakes b pg origin adopted false

/-- The oldest record, by the operating time of its request; of equal ones the first written (log 135). -/
def oldestOf : List Stored → Option Stored
  | [] => none
  | s :: ss => some (ss.foldl (fun o x => if x.item.req.opTime < o.item.req.opTime then x else o) s)

/-- RECLAIM (R324): make three erased blocks in the general store; answers whether the store is full. A returned copy that
goes is no overwrite (R411). Where a record to be kept finds no erased block nothing is erased. -/
def Dev.reclaim (rMax : Int) : Nat → Dev → Dev × Bool
  | 0, d => (d, false)
  | n + 1, d =>
    if 3 ≤ d.erasedBlocks genLo genN then (d, false)
    else
      match (d.regionOf false).filter (fun s => !decide (s.item.req.kind = .seal)) with
      | [] => (d, false)
      | s :: ss =>
        let m := ss.foldl (fun (m : Int) x => min m x.rank) s.rank
        if rMax < m then (d, true)
        else
          match oldestOf ((s :: ss).filter (fun x => decide (x.rank = m))) with
          | none => (d, false)
          | some o =>
            let inB := d.rcd.store.filter (fun x => x.block == o.block)
            let keep := inB.filter (fun x => decide (m < x.rank) && !decide (x.item.req.kind = .seal))
            let gone := (inB.filter (fun x => decide (x.rank ≤ m) && !decide (x.item.req.kind = .seal)))
            let open' := d.modRcd (fun x => { x with
              genOpen := match x.genOpen with
                | some (b, pg, u) => if b = o.block then none else some (b, pg, u)
                | none => none })
            match keep.foldlM (fun (d : Dev) k => d.putRecord false k.item k.origin k.adopted true) open' with
            | none => (d, false)
            | some d =>
              let d := d.modRcd (fun x => { x with
                store := x.store.filter (fun y => y.block != o.block)
                sealDue := x.sealDue.filter (fun s => !decide (s.block = some o.block))
                blocks := setBlock x.blocks o.block .erasing })
              let d := (gone.filter (fun g => !g.returned)).foldl (fun (d : Dev) g => d.incSat (Reg.REC_OVW (min 3 g.item.req.sev)) 0xFFFFFFFF) d
              Dev.reclaim rMax n (d.windowReload (gone.map (·.item)))

/-- STATUS.STORE_FULL follows the store; the flag is set as it rises (R324, R334). -/
def Dev.setStoreFull (d : Dev) (v : Bool) : Dev :=
  let was := d.rdB Reg.REC_STATUS 4
  let d := d.wrB Reg.REC_STATUS 4 v
  if v && !was then d.raiseRec 6 else d

/-- Pages in use of a region. -/
def Dev.pagesUsed (d : Dev) (saf : Bool) : Nat :=
  ((d.rcd.store.filter (fun s => saf == decide (s.block < genLo))).map (fun s => s.block * 64 + s.page)).dedup.length

/-- Marks of the safety reserve (R325). -/
def Dev.safetyMarks (d : Dev) (before : Nat) : Dev :=
  let n := d.pagesUsed true
  let full := safN * 64
  let d := if decide (before * 10 < full * 8 ∧ full * 8 ≤ n * 10) then d.raiseRec 4 else d
  if !d.rdB Reg.REC_STATUS 3 && decide (d.erasedBlocks safLo safN ≤ 8) then (d.wrB Reg.REC_STATUS 3 true).raiseRec 5 else d

/-- An own record has reached NAND. -/
def Dev.flushed (d : Dev) (r : Rec) : Dev :=
  let d := d.modRcd (fun x => { x with job := x.job.filter (fun y => y != r), unfl := x.unfl.filter (fun p => p.2 != r) })
  d.setSeqAt Reg.REC_FLUSHED_SEQ_LO (max (d.seqAt Reg.REC_FLUSHED_SEQ_LO) r.seq)

/-- The count that a tally record carries (R306). -/
def tallyOf (q : Req) (why : TallyReason) : Tally :=
  ⟨q.src, why, leNat ((q.body.drop 1).take 1), q.sev, leNat ((q.body.drop 4).take 4), leNat ((q.body.drop 8).take 5), leNat ((q.body.drop 16).take 5)⟩

/-- Drop a record that the store cannot take into a tally; a tally record's whole count goes on there (R324, R325). -/
def Dev.dropTo (d : Dev) (r : Rec) (why : TallyReason) : Dev :=
  let d := d.modRcd (fun x => { x with job := x.job.filter (fun y => y != r), unfl := x.unfl.filter (fun p => p.2 != r) })
  let d :=
    if r.req.kind = .tally then
      let fresh := !d.tallied r.req.src why
      let d := d.modRcd (fun x => { x with tallies := tallyMerge x.tallies (tallyOf r.req why) })
      if fresh then (d.setFlag Reg.REC_FLAGS 0).occur 26 else d
    else d.tally r.req.src why r.req.sev
  d.windowReload [r]

/-- NAND_ERR: writing stops, and what the flush had not written stays unflushed and pending (R37, R312, R321). -/
def Dev.nandStops (d : Dev) : Dev :=
  if d.nandOk then
    let d := (d.wrB Reg.REC_STATUS 2 false).wrB Reg.REC_STATUS 1 false
    let d := d.modRcd (fun r => { r with job := [], flushAgain := false })
    (d.modJnl (fun j => { j with pending := j.jobs ++ j.pending, jobs := [] })).raiseRec 2
  else d

/-- Store one record, own or adopted, in the region of its severity. -/
def Dev.storeRecord (d : Dev) (r : Rec) (origin : Nat) (adopted : Bool) : Dev :=
  if r.req.sev = 4 then
    let before := d.pagesUsed true
    if d.rdB Reg.REC_STATUS 3 && !decide (r.req.kind = .tally) then d.dropTo r .safetySaturated
    else
      match d.putRecord true r origin adopted false with
      | none => d.dropTo r .safetySaturated
      | some d => (if adopted then d else d.flushed r).safetyMarks before
  else
    let rMax : Int := ((d.rcd.job.map (fun x => x.req.sev)).filter (· < 4)).foldl max r.req.sev
    let opens := fun (d : Dev) => d.opensPage false r origin adopted
    let (d, full) := if opens d then Dev.reclaim rMax 1600 d else (d, false)
    let d := if opens d then d.setStoreFull full else d
    if full then d.dropTo r .storeFull
    else
      match d.putRecord false r origin adopted false with
      | none => d.nandStops
      | some d => if adopted then d else d.flushed r

/-- The records that one program operation takes after its first: those that fit on the same page. -/
def Dev.samePage : List Rec → Dev → Dev
  | [], d => d
  | r :: rs, d =>
    let saf := decide (r.req.sev = 4)
    if d.opensPage saf r d.ownOrigin false then d else Dev.samePage rs (d.storeRecord r d.ownOrigin false)

/-- Program the first waiting data of the flush: own records, then adopted ones, then journal entries. -/
def Dev.programNext (d : Dev) : Dev :=
  match d.rcd.job with
  | r :: rs => Dev.samePage (rs.takeWhile (fun x => (x.req.sev == 4) == (r.req.sev == 4))) (d.storeRecord r d.ownOrigin false)
  | [] =>
    match d.rcd.jobAdopt with
    | m :: ms => (d.storeRecord m.item m.origin true).modRcd (fun x => { x with jobAdopt := ms })
    | [] =>
      let (es, rest) := d.jnl.nextOp
      match es.getLast? with
      | none => d
      | some e => (d.modJnl (fun j => { j.append es with jobs := rest })).wr Reg.JNL_JSEQ (wn e.jseq)

/-! ### Seals (R323) -/

/-- A stretch of the region's chain has no seal yet: records follow the last one that a seal covers. -/
def Dev.unsealed (d : Dev) (saf : Bool) : Bool :=
  let last := if saf then d.rcd.sealPrevSaf else d.rcd.sealPrevGen
  ((d.regionOf saf).reverse.takeWhile (fun s => s.chain != last)).any (fun s => !decide (s.item.req.kind = .seal))

/-- The seal of a power-fail flush: of the general store, and of the safety reserve where it has an unsealed stretch (R323). -/
def Dev.sealPf (d : Dev) : Dev :=
  let d := d.sealEnd false 2
  if d.unsealed true then d.sealEnd true 2 else d

/-- The seal that ends a power-fail flush or a trickle unit is begun once the records of that flush are programmed: its
CHAIN covers them (R318, R319, R323). -/
def Dev.sealIfDue (d : Dev) : Dev :=
  if d.rcd.sealWait && d.rdB Reg.REC_STATUS 1 && !d.rcd.flushAgain && d.rcd.job.isEmpty && d.rcd.jobAdopt.isEmpty then
    (d.modRcd (fun r => { r with sealWait := false })).sealPf
  else d

/-- Body of a seal record. -/
def Dev.sealBody (d : Dev) (s : SealDue) (prev : Nat) : List Byte :=
  leBytes 32 s.chain ++ leBytes 32 prev ++ (List.range 4).flatMap (fun i => leBytes 4 (d.rd (Reg.REC_OVW i)).toNat)
    ++ leBytes 1 s.flags ++ leBytes 7 0

/-- A seal joins its region: as the last record of the block it closes, for which that block's last page keeps room, else
on the open page or the next (R322, R323). -/
def Dev.putSeal (d : Dev) (s : SealDue) (r : Rec) : Dev :=
  match s.block with
  | some b =>
    let c := chainNext (if s.saf then d.rcd.chainSaf else d.rcd.chainGen) r
    d.modRcd (fun x => { x with
      store := x.store ++ [⟨r, d.ownOrigin, false, false, false, b, 63, c⟩]
      chainSaf := if s.saf then c else x.chainSaf, chainGen := if s.saf then x.chainGen else c })
  | none => match d.putRecord s.saf r d.ownOrigin false false with
    | some d => d
    | none => d.nandStops

/-- SEAL_SIGNATURE_READY: the signature over bytes 0 to 111 is ready and the seal is appended. -/
def Dev.sealReady (d : Dev) : Dev :=
  match d.rcd.sealDue with
  | [] => d
  | s :: rest =>
    let body := d.sealBody s (if s.saf then d.rcd.sealPrevSaf else d.rcd.sealPrevGen)
    let q := d.stamp { kind := .seal, sev := 0, src := 31, body := body ++ List.replicate 64 0 }
    let r0 : Rec := ⟨s.seq, q⟩
    let sig := (d.sign (Config.sha256 (r0.bytes.take 112))).take 64
    let r : Rec := ⟨s.seq, { q with body := body ++ sig ++ List.replicate (64 - sig.length) 0 }⟩
    let d := d.modRcd (fun x => { x with
      sealDue := rest
      sealPrevSaf := if s.saf then s.chain else x.sealPrevSaf, sealPrevGen := if s.saf then x.sealPrevGen else s.chain })
    let d := d.putSeal s r
    if s.flags % 2 = 1 then d.raiseRec 9 else d

/-! ### NAND operations (R316, R318, R321) -/

/-- NAND_PROGRAM_COMPLETE (R321): the operation succeeds, or the block is retired and its data rewritten in
another; after three failures in a row, or with no spare block, NAND_ERR. -/
def Dev.nandProgram (d : Dev) (ok : Bool) : Dev :=
  if ok then (d.modRcd (fun r => { r with fails := 0 })).programNext.sealIfDue
  else
    let none' := decide (64 ≤ d.rcd.spareUsed)
    let d := d.modRcd (fun r => { r with fails := r.fails + 1, spareUsed := if none' then r.spareUsed else r.spareUsed + 1 })
    let d := if none' then d else
      (d.wr Reg.JNL_NAND_STATUS (setFld (setFld (d.rd Reg.JNL_NAND_STATUS) 27 16 (64 - d.rcd.spareUsed)) 11 0 d.rcd.spareUsed)).raiseRec 3
    if none' || decide (3 ≤ d.rcd.fails) then d.nandStops else d

/-- FLUSH_COMPLETE: everything of the flush is in NAND. -/
def Dev.flushComplete (d : Dev) : Dev :=
  if d.rdB Reg.REC_STATUS 1 && d.rcd.job.isEmpty && d.rcd.jobAdopt.isEmpty && d.jnl.jobs.isEmpty then
    let first := (d.rcd.unfl.head?.map (·.1)).getD d.rcd.ownOfs
    let d := (d.wrB Reg.REC_STATUS 1 false).send 4 1 0xFF (.mirror first none)
    if d.rcd.flushAgain then d.beginFlush.sealIfDue else d.flushByAmount
  else d

/-- NAND_ERASE_COMPLETE of block `b` (R321): the block is erased and its count advances. An erase is
suspended while PF_ACTIVE stands (R318). -/
def Dev.nandErase (d : Dev) (b : Nat) : Dev :=
  if d.rcd.blocks.any (fun x => x.1 == b && decide (x.2 = .erasing)) && !d.rdB Reg.REC_STATUS 0 then d.erased b else d

/-! ### Mirror, adoption and return (R311 to R315) -/

/-- MIRROR_RECORD: a record of `origin` arrives at the sender's offset `ofs`; it takes the place of
whatever its bytes overlap in the ring (R311). -/
def Dev.mirrorRecord (d : Dev) (origin : Nat) (west : Bool) (ofs : Nat) (r : Rec) : Dev :=
  let size := if d.ring then 65536 else 131072
  let gap := fun (a b : Nat) => (b + size - a % size) % size
  let keep := fun (m : Mirrored) =>
    !((d.duo || m.west == west) && (decide (gap ofs m.ofs < r.len) || decide (gap m.ofs ofs < m.item.len)))
  if d.solo then d else
  let d := d.modRcd (fun x => { x with mirror := x.mirror.filter keep ++ [⟨r, origin, west, ofs, false⟩] })
  if r.req.kind = .cycle then
    d.modRcd (fun x => { x with lastCyc := x.lastCyc.set r.req.portal (max (x.lastCyc.getD r.req.portal 0) r.req.cycleNo) })
  else d

/-- Mark the records of `origin` that precede the offset `ofs`; those marked before are of an earlier lap (R313). -/
def markBelow (origin ofs : Nat) : List Mirrored → List Mirrored
  | [] => []
  | m :: ms => if m.origin = origin ∧ m.marked = false then (if m.ofs = ofs then m :: ms else { m with marked := true } :: markBelow origin ofs ms)
    else m :: markBelow origin ofs ms

/-- FLUSH_MARK. -/
def Dev.flushMark (d : Dev) (origin ofs : Nat) : Dev :=
  if d.solo then d else d.modRcd (fun x => { x with mirror := markBelow origin ofs x.mirror })

/-- ADOPT (R314): the mirrored records of `origin` are to be written at the next flush. -/
def Dev.adopt (d : Dev) (origin : Nat) : Dev :=
  if d.rcd.mirror.any (fun m => m.origin == origin && !m.marked) && !d.rcd.adoptDue.contains origin then
    d.modRcd (fun x => { x with adoptDue := x.adoptDue ++ [origin] })
  else d

/-- The ports that are UP: CVA is bit 12, CVB bit 13 of CVN.STATUS. -/
def Dev.portUp (d : Dev) (b : Bool) : Bool := d.rdB Reg.CVN_STATUS (if b then 13 else 12)

/-- Members reached through UP ports; `b` is CVB, to the west. -/
def Dev.neighbour (d : Dev) (b : Bool) : Nat :=
  if d.duo then 1 - min 1 d.cvn.role
  else
    let n := max 1 (d.rdF Reg.CVN_CFG 11 8)
    if b then (d.cvn.role + n - 1) % n else (d.cvn.role + 1) % n
def Dev.reached (d : Dev) : List Nat := ([false, true].filter d.portUp).map d.neighbour

/-- A port to `origin` came UP: send its adopted records back and then RETURN_END (R314). -/
def Dev.sendReturns (d : Dev) (origin : Nat) : Dev :=
  let mine := fun (s : Stored) => s.adopted && s.origin == origin && !s.returned
  let back := d.rcd.store.filter mine
  let to' := some (origin == d.neighbour true)
  let d := back.foldl (fun (d : Dev) s => d.send 4 2 (d.recSlot s.item.req) (.mirror 0 (some s.item)) to') d
  let d := d.modRcd (fun x => { x with store := x.store.map (fun s => if mine s then { s with returned := true } else s) })
  d.send 4 3 0xFF (.mirror back.length none) to'

/-- Every own SEQ held. -/
def Dev.holdsSeq (d : Dev) (k : Nat) : Bool :=
  d.rcd.store.any (fun s => !s.adopted && s.item.seq == k) || d.rcd.unfl.any (fun p => p.2.seq == k)

/-- RETURN: a record of this member comes back; it is stored where its SEQ is not held (R314). -/
def Dev.returned (d : Dev) (r : Rec) : Dev :=
  if d.solo || d.holdsSeq r.seq then d
  else
    let d := d.modRcd (fun x => { x with unfl := x.unfl ++ [(x.ownOfs, r)], ownOfs := (x.ownOfs + r.len) % 0x20000 })
    if r.req.kind = .cycle then
      (d.modRcd (fun x => { x with lastCyc := x.lastCyc.set r.req.portal (max (x.lastCyc.getD r.req.portal 0) r.req.cycleNo) })).flushByAmount
    else d.flushByAmount

/-- SEQ assignment resumes with 1 plus the highest SEQ found (R315). -/
def Dev.seqResume (d : Dev) : Dev :=
  if d.rcd.seqHold then
    let hi := (d.rcd.store.filter (fun s => !s.adopted)).foldl (fun m s => max m s.item.seq) 0
    let hi := d.rcd.unfl.foldl (fun m p => max m p.2.seq) hi
    let d := d.modRcd (fun x => { x with seqHold := false })
    (d.setSeqAt Reg.REC_NEXT_SEQ_LO (max d.nextSeq (hi + 1))).wrB Reg.REC_STATUS 7 false
  else d

/-- RETURN_END has come from every member that reaches this one through an UP port (R315). -/
def Dev.returnsDone (d : Dev) : Bool := !d.rcd.retEndFrom.isEmpty && d.reached.all (fun m => d.rcd.retEndFrom.contains m)

/-- RETURN_END from `origin`: the return to this member is done; SEQ may resume (R314, R315). -/
def Dev.returnEnd (d : Dev) (from' : Nat) : Dev :=
  if d.solo then d else
  let d := (d.modRcd (fun x => { x with retEndFrom := from' :: x.retEndFrom })).raiseRec 12
  if d.returnsDone && decide (d.boot.st ∈ [BootSt.engines, .done, .running]) then d.seqResume else d

/-! ### The mailbox (R308, R309) -/

/-- Engine `n` commits its mailbox with the word `v`. -/
def Dev.mbxCommit (d : Dev) (n : Slot) (v : Word) : Dev :=
  if !bit v 31 then d
  else
    let len := 8 * fld v 23 16
    let kind := fld v 7 0
    let sev := fld v 10 8
    if (kind != 1 && kind != 2) || len < 32 || 256 < len || (kind == 1 && len != 72) then d.raiseRec 10
    else if !d.drives n then d.wrF Reg.REC_DISCARDS 15 0 (satAdd 0xFFFF (d.rdF Reg.REC_DISCARDS 15 0) 1)
    else
      let c := d.rcd.mbxCnt.getD n 0
      let d := d.modRcd (fun r => { r with mbxCnt := r.mbxCnt.set n (c + 1) })
      if 4 ≤ c then d.tally n .mbxExcess sev
      else
        let cells := d.rcd.mbx.getD n []
        let bytes := ((List.range 58).flatMap (fun i => leBytes 4 (Cells.read zeroCell cells (1 + i)).toNat)).take (len - 24)
        if kind = 1 then
          d.request { kind := .cycle, sev := sev, src := n, portal := leNat (bytes.take 1)
                      cycleNo := leNat ((bytes.drop 4).take 4), body := bytes }
        else d.request { kind := .event, sev := sev, src := n, body := bytes }

/-- A store to mailbox word 64 + `i` of engine `n`. -/
def Dev.mbxStore (d : Dev) (n : Slot) (i : Nat) (v : Word) : Dev :=
  if i = 0 then d.mbxCommit n v
  else if i ≤ 58 then
    d.modRcd (fun r => { r with mbx := r.mbx.set n (Cells.write zeroCell (r.mbx.getD n []) i v) })
  else d

/-- RECORD_REQUEST: any requester's record (R310). -/
def Dev.ask (d : Dev) (q : RecordAsk) : Dev :=
  match q with
  | .event s sev flag inst data => d.request (eventReq s sev flag.toNat inst.toNat (data.take 8))
  | .cycle p sev body =>
    d.request { kind := .cycle, sev := sev, src := p, portal := leNat (body.take 1), cycleNo := leNat ((body.drop 4).take 4), body := body.take 48 }

/-! ### Power-fail flush (R318 to R320) -/

/-- What an IMAGE keeps of a portal. -/
def Dev.imageOf (d : Dev) (p : Slot) : PortalImage := ⟨p, d.stateBlock p⟩

/-- Portals whose state the power-fail flush captures. -/
def Dev.drivenSlots (d : Dev) : List Slot := slots.filter (fun p => d.enabled p && d.drives p)

/-- Capture images: entries for the portals that `f` selects and IMAGE_END, with what was requested so far. -/
def Dev.captureImages (d : Dev) (f : PortalImage → Bool) : Dev :=
  let all := d.drivenSlots.map d.imageOf
  let d := Dev.drainAll 400 d
  let d := (all.filter f).foldl (fun (d : Dev) i => d.enterJournal (.image i)) d
  let d := d.enterJournal .imageEnd
  let d := d.modRcd (fun r => { r with lastImages := all })
  let d := d.wrF Reg.REC_PF_STATUS 19 16 all.length
  d.flushTrigger

/-- PFI accepted: erases are suspended and a flush starts at once. -/
def Dev.pfAccept (d : Dev) : Dev :=
  let d := d.modRcd (fun r => { r with pfi := true, pf := .accepted, pfAt := d.now })
  (d.wrB Reg.REC_STATUS 0 true).flushTrigger

/-- The power-fail work of a position tick: the capture, or a trickle unit while PFI stays asserted, once the one before is
complete (R318, R319). -/
def Dev.pfTick (d : Dev) : Dev :=
  match d.rcd.pf with
  | .accepted => ((d.captureImages (fun _ => true)).modRcd (fun r => { r with pf := .captured, sealWait := true })).sealIfDue
  | .done =>
    if !d.rcd.pfi || d.rdB Reg.REC_STATUS 1 || d.rcd.sealWait || !d.rcd.sealDue.isEmpty then d
    else
      let old := d.rcd.lastImages
      let d := d.captureImages (fun i => !old.any (fun o => o.slot == i.slot && o.state == i.state && o.cycles == i.cycles))
      if d.rcd.trickleSeal + ms 10 ≤ d.now then (d.modRcd (fun r => { r with trickleSeal := d.now, sealWait := true })).sealIfDue else d
  | _ => d

/-- PF_DONE: everything of the power-fail flush and its seal is in NAND. -/
def Dev.pfDone (d : Dev) : Dev :=
  if decide (d.rcd.pf = .captured) && !d.rdB Reg.REC_STATUS 1 && !d.rcd.sealWait && d.rcd.sealDue.isEmpty then
    let d := d.modRcd (fun r => { r with pf := .done, trickleSeal := d.now })
    let d := d.wrF Reg.REC_PF_STATUS 15 0 (min 65535 (d.near ((d.now - d.rcd.pfAt : Nat) / 2000 : Rat) 62).toNat)
    d.raiseRec 7
  else d

/-- PFI falls without a reset: IMAGE_CONSUMED at the next flush (R319). -/
def Dev.pfFall (d : Dev) : Dev :=
  if d.rcd.pfi then
    let d := (d.modRcd (fun r => { r with pfi := false, pf := .idle })).wrB Reg.REC_STATUS 0 false
    d.journal .imageConsumed
  else d

end Sys2Proof.Machine
end

