-- ==== Sys2Proof/Machine/Journal.lean ====
section
/-!
DEFINITION. The configuration journal (spec/13 R330 to R332): the configuration as journal entries, and
compaction. Replay is part of start-up.
-/

namespace Sys2Proof.Machine

/-- The ST bits of the register at `a`, ST/LK among them (R16). -/
def stMaskAt (a : Nat) : Word := match regAt a with
  | none => 0
  | some r => r.stMask

/-- Put value `v` into the ST bits of the register at `a`. -/
def Dev.putField (d : Dev) (a : Nat) (v : Word) : Dev :=
  let k := stMaskAt a
  d.wr a ((d.rd a &&& ~~~k) ||| (v &&& k))

/-- The addresses of every register with an ST field, block by block (R420). -/
def stAddrs : List Nat :=
  blockRows.flatMap (fun b => (List.range b.insts).flatMap (fun n => b.rows.flatMap (fun r =>
    if r.st = 0 then [] else (List.range r.count).map (fun i => b.base + n * b.stride + r.off + i * r.stride))))

/-- The value in force of every ST field (R330). -/
def Dev.committed (d : Dev) : List (Nat × Word) := stAddrs.map (fun a => (a, d.rd a &&& stMaskAt a))

/-- Entries that carry one servo axis' banks: registers, tables, seals and the bank in force. -/
def Dev.bankEntries (d : Dev) (n : Sax) : List JPayload :=
  [false, true].flatMap (fun b =>
    [.bankData n b.toNat 0 ((List.range 18).flatMap (fun i => leBytes 4 (d.bankReg n b i).toNat))]
      ++ (List.range 6).map (fun k =>
        .bankData n b.toNat (0x80 + 1024 * k) (Cells.readRun zeroCell 1 d.tmem (bankTbl n b + 1024 * k) 1024))
      ++ (if d.sealed n b then [.bankSeal n b.toNat (d.rd (Reg.SAX_BANK_CRC n b.toNat))] else []))
    ++ [.bankSwap n (d.bankB n).toNat]

/-- The full configuration in force, unconsumed images and pending tallies: the body of a snapshot (R332). -/
def Dev.snapshotBody (d : Dev) : List JPayload :=
  (JPayload.commit d.committed).split ++ saxes.flatMap d.bankEntries
    ++ d.boot.images.map .image ++ (if d.boot.images.isEmpty then [] else [.imageEnd])
    ++ (if d.rcd.tallies.isEmpty then [] else (JPayload.tallyState d.rcd.tallies).split)

/-- Number a list of payloads from `k`. -/
def numberFrom : Nat → List JPayload → List JEntry
  | _, [] => []
  | k, b :: bs => ⟨k, b, true, 0, 0, 0⟩ :: numberFrom (k + 1) bs

/-- Percent of the active half in use (R332, R333): a half is 64 blocks of 64 pages. -/
def Journal.fill (j : Journal) : Nat := match j.active.getLast? with
  | none => 0
  | some e => (e.page + 1) * 100 / (64 * 64)

/-- JNL.STATUS.COMPACTING and ACTIVE_HALF. -/
def Dev.showJnl (d : Dev) : Dev :=
  (d.wrB Reg.JNL_STATUS 1 d.jnl.compacting).wrB Reg.JNL_STATUS 0 d.jnl.active1

/-- The erase blocks of a journal half (R321). -/
def halfBlocks (one : Bool) : List Nat := List.range' (if one then 192 else 128) 64

/-- COMPACTION_START: the active half is 75 % full; the other half is erased in the background and the snapshot begins
(R332). -/
def Dev.compactStart (d : Dev) : Dev :=
  let j := d.jnl
  if decide (75 ≤ j.fill) && !j.compacting && !j.abandoned && decide (d.rcd.pf = .idle) then
    let last := j.next - 1
    let es := numberFrom j.next ([.snapBegin] ++ d.snapshotBody ++ [.snapEnd last])
    let d := d.modRcd (fun r => { r with blocks := (halfBlocks (!j.active1)).foldl (fun bs b => setBlock bs b .erasing) r.blocks })
    (d.modJnl (fun j => { j with
      compacting := true, snap := es, snapLast := last, next := j.next + es.length
      half0 := if j.active1 then [] else j.half0, half1 := if j.active1 then j.half1 else [] })).showJnl
  else d

/-- The erases of a journal half that still run are done. -/
def Dev.halfErased (d : Dev) (one : Bool) : Dev :=
  (halfBlocks one).foldl (fun (d : Dev) b => if d.rcd.blocks.contains (b, .erasing) then d.erased b else d) d

/-- COMPACTION_END: SNAP_END is programmed; the new half is active, with the entries made meanwhile. -/
def Dev.compactEnd (d : Dev) : Dev :=
  let j := d.jnl
  if j.compacting then
    let es := Journal.lay (j.snap ++ j.active.filter (fun e => decide (j.snapLast < e.jseq)))
    let d := ((d.halfErased (!j.active1)).modJnl (fun j => { j with
      compacting := false, snap := [], active1 := !j.active1
      half0 := if j.active1 then es else j.half0, half1 := if j.active1 then j.half1 else es })).showJnl
    let d := d.wr Reg.JNL_SNAP_JSEQ (wn j.snapLast)
    (d.wr Reg.JNL_JSEQ (wn (es.foldl (fun m e => max m e.jseq) (d.rd Reg.JNL_JSEQ).toNat))).raiseJnl 0
  else d

/-- A PFI abandons a compaction until after the next start-up (R332). -/
def Dev.compactAbandon (d : Dev) : Dev :=
  if d.jnl.compacting then (d.modJnl (fun j => { j with compacting := false, abandoned := true, snap := [] })).showJnl else d

/-- A complete snapshot in a half: the JSEQ of its SNAP_END (R331). -/
def snapEndOf (es : List JEntry) : Option Nat :=
  es.foldl (fun (b : Option Nat) e =>
    match e.body with
    | .snapEnd _ => if e.good then some e.jseq else b
    | _ => b) none

/-- The half that start-up selects: the highest complete SNAP_END, else the active half. -/
def Journal.selected (j : Journal) : Bool :=
  match snapEndOf j.half0, snapEndOf j.half1 with
  | some a, some b => decide (a < b)
  | none, some _ => true
  | some _, none => false
  | none, none => j.active1

/-- The entries that a replay applies: all until the first with a bad CRC; and whether one was met. -/
def goodPrefix : List JEntry → List JEntry × Bool
  | [] => ([], false)
  | e :: es => if e.good then let (a, t) := goodPrefix es; (e :: a, t) else ([], true)

/-- The journal holds one snapshot of the present configuration and nothing else (R331, a new bundle). -/
def Dev.journalReset (d : Dev) : Dev :=
  let es := Journal.lay (numberFrom d.jnl.next ([.snapBegin] ++ d.snapshotBody ++ [.snapEnd (d.jnl.next - 1)]))
  let d := d.modJnl (fun j => { j with half0 := es, half1 := [], active1 := false, pending := [], jobs := [], next := j.next + es.length })
  ((d.wr Reg.JNL_SNAP_JSEQ (wn (d.jnl.next - es.length - 1))).wr Reg.JNL_JSEQ (wn (d.jnl.next - 1))).showJnl

end Sys2Proof.Machine
end

