-- ==== Sys2Proof/Machine/Caravan.lean ====
section
/-!
DEFINITION. Duo, Ring and the caravan link (spec/12): roles, the health word, the copied state and the
mirage, surrender, takeover, transfer, leases, home return, SYNC and the lanes.
-/

namespace Sys2Proof.Machine

/-! ### Members and slots -/

/-- Set STATE.OWNER of a slot and with it CVN.DRIVE (R43, R299). The portal's switch channels obey the request that
the ownership gives them (R262). -/
def Dev.setOwner (d : Dev) (p : Slot) (o : Nat) : Dev :=
  let d := d.wrF (Reg.PRT_STATE p) 17 16 o
  if d.solo then d
  else ((d.portalChans p).filterMap (toFin? 48)).foldl Dev.hsSettle (d.wrB Reg.CVN_DRIVE p (d.enabled p && d.drives p))

/-- OWNER of a driven slot: 00b, or 10b for a slot adopted in Ring (R285). -/
def Dev.ownCode (d : Dev) (p : Slot) : Nat := if d.ring && decide (6 ≤ p.val) then 2 else 0

/-- ROLE_ID of the other candidate of a slot. -/
def Dev.otherRole (d : Dev) (p : Slot) : Nat := d.neighbour (d.otherWest p)
/-- The slot of the other candidate that is the same car-level portal: 0 to 5 here is 6 to 11 there. -/
def Dev.slotThere (d : Dev) (p : Slot) : Nat := if d.ring then (if p.val < 6 then p.val + 6 else p.val - 6) else p.val

/-- SURR_OUT: surrendered, in posture, or not yet an eligible holder or driver (R277). -/
def Dev.pullsSurr (d : Dev) : Bool := !d.solo && (d.cvn.surrendered || d.fio.posture || !d.cvn.ready)
def Dev.showSurr (d : Dev) : Dev :=
  ((d.wrB Reg.CVN_STATUS 18 d.pullsSurr).wrB Reg.CVN_STATUS 19 d.cvn.surrIn).wrB Reg.CVN_STATUS 0 d.cvn.surrendered

/-- The first carrier valley at or after `t`. -/
def Dev.valleyAt (d : Dev) (t : Nat) : Nat :=
  let P := max 1 d.pwmP
  if t ≤ d.time.nextValley then d.time.nextValley else d.time.nextValley + (t - d.time.nextValley + P - 1) / P * P

/-- Current ticks per position period. -/
def Dev.ticksPerPos (d : Dev) : Nat := d.spdDiv * d.posDiv

/-- The first position tick at or after `t` (R29). -/
def Dev.posTickAt (d : Dev) (t : Nat) : Nat :=
  let n := max 1 d.ticksPerPos
  let first := d.time.nextValley + ((n - d.time.nextK % n) % n) * d.pwmP
  let T := max 1 d.posT
  if t ≤ first then first else first + (t - first + T - 1) / T * T

/-! ### Health (R286, R287) -/

/-- A supply that R288 watches is within its range: VCORE, VDDIO33, VDDA. -/
def Dev.suppliesOk (d : Dev) : Bool := !(d.pwr.oor.take 3).any id

/-- MATCH: the last HEALTH from the partner, or from each neighbour, carried the same MAP_ID and digest. -/
def Dev.healthMatch (d : Dev) : Bool :=
  let one := fun (i : Nat) => (d.cvn.healthAt.getD i none).isSome
    && d.cvn.peerMap.getD i 0 == d.rd Reg.ILK_MAP_ID && d.cvn.peerTag.getD i 0 == d.rd (Reg.SEC_BUNDLE_DIGEST 0)
  if d.duo then one 0 || one 1 else one 0 && one 1

/-- Engine n is in RUN with no exception since its last start. -/
def Dev.engOk (d : Dev) (p : Slot) : Bool := d.engRun p

/-- The own health word. -/
def Dev.healthWord (d : Dev) : Word :=
  let b := fun (i : Nat) (c : Bool) => if c then 2 ^ i else 0
  let xread := !encs.any (fun c => d.rdB (Reg.ENC_FLAGS c) 9)
    && (match d.cvn.xreadAt with | some t => decide (t + ms 1000 ≤ d.now) | none => true)
  let bits := [d.suppliesOk, decide (d.temp < 1250), d.time.pllLock && d.time.xtalOk, d.syncOk, !d.cvn.paceTrip
    , d.cvn.bistOk, d.cvn.selfOk, d.cvn.spineOk && !d.fio.tripDn && !d.fio.tripUp, xread, d.healthMatch]
  let low := (bits.zipIdx.map (fun p => b (p.2 + 1) p.1)).sum
  let eng := (slots.map (fun p => b (12 + p.val) (d.engOk p))).sum
  wn (b 0 (bits.all id) + low + b 11 d.nandOk + eng + 2 ^ 24 * fld (d.rd (Reg.SEC_BUNDLE_DIGEST 0)) 7 0)

/-- The own health word shows ELIGIBLE. -/
def Dev.eligible (d : Dev) : Bool := bit d.healthWord 0
/-- Bits 1 to 9 of the health word are set (R284, R285). -/
def Dev.startHealthy (d : Dev) : Bool := fld d.healthWord 9 1 == 0x1FF

/-- The mirage of slot `p` held here is eligible (R283). -/
def Dev.mirageOk (d : Dev) (p : Slot) : Bool :=
  let m := d.cvn.mirages[p]
  match m.installed with
  | none => false
  | some t => d.enabled p && !d.drives p && decide (d.now ≤ t + ms 32) && !m.lateFwd && !m.unlocked && !m.stale
      && d.engRun p && !d.eng[p].excSinceInstall && d.eligible

/-- CVN.MIRAGES. -/
def Dev.showMirages (d : Dev) : Dev :=
  d.wr Reg.CVN_MIRAGES (wn ((slots.map (fun p => if d.mirageOk p then 2 ^ p.val else 0)).sum))

/-- The other candidate reports an eligible mirage of slot `p`, and shows ELIGIBLE (R287, R291, R292). -/
def Dev.otherReady (d : Dev) (p : Slot) : Bool :=
  let i := if d.otherWest p then 0 else 1
  let words := if d.duo then [d.rd Reg.CVN_HEALTH_W, d.rd Reg.CVN_HEALTH_E] else
    [if d.otherWest p then d.rd Reg.CVN_HEALTH_W else d.rd Reg.CVN_HEALTH_E]
  let mirs := if d.duo then d.cvn.peerMir else [d.cvn.peerMir.getD i 0]
  words.any (fun w => bit w 0) && mirs.any (fun m => m.testBit (d.slotThere p))

/-- The member's own event summary (R379): GROUPS, PRIO, VALID, DEPTH. -/
def Dev.ownSummary (d : Dev) : Word :=
  let on := fun s => d.srcPend s && d.srcEn s
  let groups := ((List.range 16).map (fun g => if (List.range 4).any (fun i => on (4 * g + i)) then 2 ^ g else 0)).sum
  let prio := ((List.range 64).filter on).foldl (fun m s => max m (d.srcPrio s)) 0
  wn (groups + 2 ^ 16 * prio + 2 ^ 18 + 2 ^ 20 * d.pwr.own.code)

/-- The HEALTH payload (R280). -/
def Dev.healthMsg (d : Dev) : HealthMsg :=
  { west := false, word := d.rd Reg.CVN_HEALTH
    drive := (d.rd Reg.CVN_DRIVE).setWidth 16, mirages := (d.rd Reg.CVN_MIRAGES).setWidth 16
    mapId := d.rdUp Reg.ILK_MAP_ID, tag := d.rd (Reg.SEC_BUNDLE_DIGEST 0)
    dins := (List.range 3).map (fun k => d.rdUp (Reg.FIN_IN_LVL k))
    tlRaw := BitVec.ofNat 16 (fld (d.rdUp Reg.ILK_TL_RAW) 8 0), summary := d.ownSummary }

/-- The shallowest power state that this member and the neighbours it hears report (R383). -/
def Dev.depthHeard (d : Dev) : Nat :=
  let peer := fun (i : Nat) (r : Nat) => if (d.cvn.healthAt.getD i none).isSome then d.rdF r 21 20 else d.pwr.own.code
  min d.pwr.own.code (min (peer 0 Reg.EVC_PEER_SUM_W) (peer 1 Reg.EVC_PEER_SUM_E))

/-- The leader's SYNC frame, which names the next position tick (R278, R280, R383). -/
def Dev.sendSync (d : Dev) : Dev :=
  d.send 5 0 0xFF (.sync (d.rd Reg.TBS_TICK_CFG) 0 (BitVec.ofNat 16 (d.time.posTicks + 1)) (BitVec.ofNat 2 d.depthHeard))

/-- HEALTH_WORD at a position tick: formed, shown and sent; OWN_INELIGIBLE as ELIGIBLE falls. The leader sends SYNC. -/
def Dev.healthTick (d : Dev) : Dev :=
  if d.solo then d
  else
    let w := d.healthWord
    let was := d.rdB Reg.CVN_HEALTH 0
    let d := d.wr Reg.CVN_HEALTH w
    let d := if was && !bit w 0 then d.raiseCvn 3 else d
    let d := d.modCvn (fun c => { c with
      eligSince := if bit w 0 then some (c.eligSince.getD d.now) else none
      ready := c.ready || (bit w 0 && slots.any d.mirageOk) || slots.any (fun p => d.enabled p && d.drives p) })
    let d := d.showMirages.showSurr
    let d := d.send 2 0 0xFF (.health d.healthMsg)
    if d.rdB Reg.CVN_STATUS 17 then d.sendSync else d

/-- HEALTH_FRAME: the partner's or a neighbour's word, maps and summary; a Solo controller has none (R4). -/
def Dev.healthFrame (d : Dev) (h : HealthMsg) : Dev :=
  if d.solo then d else
  let ports := if d.duo then [0, 1] else [if h.west then 0 else 1]
  let was := if d.duo || h.west then d.rd Reg.CVN_HEALTH_W else d.rd Reg.CVN_HEALTH_E
  let seen := (d.cvn.healthAt.getD (ports.getD 0 0) none).isSome
  let put := fun (l : List Word) (v : Word) => ports.foldl (fun l i => l.set i v) l
  let d := d.modCvn (fun c => { c with
    healthAt := ports.foldl (fun l i => l.set i (some d.now)) c.healthAt
    peerMap := put c.peerMap h.mapId, peerTag := put c.peerTag h.tag
    peerMir := ports.foldl (fun l i => l.set i h.mirages.toNat) c.peerMir
    peerDins := ports.foldl (fun l i => l.set i h.dins) c.peerDins })
  let d := if ports.contains 0 then (d.wr Reg.CVN_HEALTH_W h.word).wr Reg.EVC_PEER_SUM_W (h.summary &&& 0x37FFFF#32) else d
  let d := if ports.contains 1 then (d.wr Reg.CVN_HEALTH_E h.word).wr Reg.EVC_PEER_SUM_E (h.summary &&& 0x37FFFF#32) else d
  let d := d.modBoot (fun b => { b with peerSeen := (List.range 12).map (fun s =>
    b.peerSeen.getD s false || d.duo || (match toFin? 12 s with | some p => d.otherWest p == h.west | none => false)) })
  if !bit h.word 0 && (bit was 0 || !seen) then d.raiseCvn 4 else d

/-- Since when the debounced level of input `i` has differed from the words `ws` that a neighbour reports, `was` having
been so before (R287). -/
def Dev.differSince (d : Dev) (ws : List Word) (was : Option Nat) (i : Din) : Option Nat :=
  let lvl := bit (d.rdUp (Reg.FIN_IN_LVL (i.val / 32))) (i.val % 32)
  if !ws.isEmpty && bit (ws.getD (i.val / 32) 0) (i.val % 32) != lvl then some (was.getD d.now) else none

/-- Input cross-reading (R287): a level that has differed for longer than 2 × (DEB + SAMPLE) + 2 ms clears XREAD_OK for
1 s. -/
def Dev.crossRead (d : Dev) : Dev :=
  let diffs := (List.range 2).map (fun k =>
    let was := d.cvn.xdiff.getD k []
    dinsAll.map (fun i => d.differSince (d.cvn.peerDins.getD k []) (was.getD i.val none) i))
  let bad := diffs.any (fun l => dinsAll.any (fun i => match l.getD i.val none with
    | some t => decide (t + 2 * (d.debT i + d.dinEvery i) + ms 2 < d.now)
    | none => false))
  d.modCvn (fun c => { c with xdiff := diffs, xreadAt := if bad then some d.now else c.xreadAt })

/-- PARTNER_INELIGIBLE: HEALTH missing for 4 position periods on a port, `west` for CVB. In Duo the partner's
records are adopted (R314), and its summary becomes invalid (R379). The limit does not run in STABLE and DORMANT
(R384). -/
def Dev.partnerIneligible (d : Dev) (west : Bool) : Dev :=
  if d.solo || decide (d.pwr.st = .stable ∨ d.pwr.st = .dormant) then d
  else
    let d := match d.cvn.healthAt.getD (if d.duo || west then 0 else 1) none with
      | some t => d.upTo (t + 4 * d.posT)
      | none => d
    let d := d.raiseCvn 4
    let d := if d.duo || west then d.wrB Reg.EVC_PEER_SUM_W 18 false else d
    let d := if d.duo || !west then d.wrB Reg.EVC_PEER_SUM_E 18 false else d
    if d.duo then d.adopt (d.neighbour west) else d

/-! ### Clock owners and driving (R275, R276, R290) -/

/-- Group of an axis (R143): four servo axes or three step axes to a clock. -/
def groupOf (a : Axis) : Nat := match stxOf a with
  | some n => n.val / 3
  | none => a.val / 4

/-- A portal that this member drives, as its clock goes: a handover changes it at the valley, and a takeover as soon as the
surrender is seen (R276, R290). -/
def Dev.clocksFor (d : Dev) (p : Slot) : Bool :=
  let here := fun (h : HandOver) => h.slot == p.val
  d.cvn.hand.any (fun h => here h && h.toUs && (h.clocks || decide (h.valley ≤ d.now)))
    || (d.drives p && !d.cvn.hand.any (fun h => here h && !h.toUs && decide (h.valley ≤ d.now)))

/-- This member owns the clock of group k (R276): it drives, of the portals with an axis in the group that a member
drives, the one of the lowest car-level number; it is the timing leader where no member drives one. A surrendered member
owns none (R289). -/
def Dev.clockMine (d : Dev) (k : Nat) : Bool :=
  let driven := slots.filter (fun p => d.enabled p && (d.owner p != 3 || d.clocksFor p) && (d.axesOf p).any (fun a => groupOf a == k))
  let first := driven.foldl (fun (m : Option Slot) p => match m with
    | none => some p
    | some q => if d.carPortal p < d.carPortal q then some p else some q) none
  !d.cvn.surrendered && match first with
    | none => d.rdB Reg.CVN_STATUS 17
    | some p => d.clocksFor p

/-- The coils of the portal's step, as the bridges now are: off where they are released, and each with a fresh on phase,
or slow decay at a reference of 0, where they come on (R207). -/
def Dev.coilsAnew (d : Dev) (p : Slot) : Dev := match d.stepAx p with
  | none => d
  | some n =>
    let off := fun (c : Coil) => { c.account d.now with phase := .off, shorts := 0 }
    (d.modStep n (fun s => { s with coilA := off s.coilA, coilB := off s.coilB })).stepRefs n

/-- The gates and bridges of a portal once its OWNER has changed. -/
def Dev.drivesAnew (d : Dev) (p : Slot) : Dev := (d.servosOf p).foldl Dev.showGates (d.coilsAnew p)

/-- Drive a slot from now: OWNER, the HANDOVER flag of its cycle, the coils, and the clocks. -/
def Dev.takeSlot (d : Dev) (p : Slot) : Dev :=
  let d := (d.setOwner p (d.ownCode p)).modAcc p (fun a => { a with flags := a.flags ||| 8 })
  let d := (d.drivesAnew p).modCvn (fun c => { c with ready := true })
  d.showMirages.showSurr

/-- Stop driving a slot: its outputs are released; `o` is the OWNER left. -/
def Dev.leaveSlot (d : Dev) (p : Slot) (o : Nat) : Dev := (d.setOwner p o).drivesAnew p

/-! ### Leases (R294) -/

def Dev.leaseState (d : Dev) (p : Slot) : Nat := d.rdF (Reg.CVN_LEASE_STATE p) 2 0
/-- Set a lease's STATE and HOLDER. -/
def Dev.setLease (d : Dev) (p : Slot) (st holder : Nat) : Dev :=
  (d.wrF (Reg.CVN_LEASE_STATE p) 2 0 st).wrF (Reg.CVN_LEASE_STATE p) 10 8 holder
def Dev.epoch (d : Dev) (p : Slot) : Word := d.rd (Reg.CVN_LEASE_EPOCH p)

/-- This member claims epoch `e` of a slot: it holds the lease from now (R294). -/
def Dev.claimLease (d : Dev) (p : Slot) (e : Word) : Dev :=
  let d := (d.wr (Reg.CVN_LEASE_EPOCH p) e).setLease p 1 d.cvn.role
  let d := d.modLease p (fun l => { l with sent := some d.now, answered := some d.now, rcvd := none, free := false })
  (d.sendLease 1 p).raiseCvn 9 p

/-- A slot taken over is driven from now, and counted. -/
def Dev.takeCounted (d : Dev) (p : Slot) : Dev := (d.takeSlot p).incSat Reg.CVN_TAKEOVERS 0xFFFFFFFF

/-- This member claims epoch `e` of a slot and drives it (R294, R295). -/
def Dev.claim (d : Dev) (p : Slot) (e : Word) : Dev := (d.claimLease p e).takeCounted p

/-- The readback of the shared gate nodes found one high (R290): the member does not drive, the portal enters FAULT with
BRIDGE_FAULT, its cycle ends, and TAKEOVER records the refusal. No member drives the slot (log 129). -/
def Dev.refuseNodes (d : Dev) (p : Slot) : Dev :=
  let d := ((d.setOwner p (d.ownCode p)).enter p psFault 0x09).cycleEnd p false
  (d.leaveSlot p 3).raiseCvn 6 p

/-! ### Surrender (R288, R289, R295) -/

/-- The portal enters FAULT on the member that gives it up, where no other member is ready to take it. -/
def Dev.faultIfAlone (d : Dev) (p : Slot) : Dev :=
  if d.otherReady p then d else ((d.enter p psFault 0x0C).stepHaltNow p).cycleEnd p false

/-- Give up one driven slot: outputs released and generators frozen, OWNER 11b, lease and SURRENDER. With
`fault` the portal enters FAULT here where it stays alone; an engine exception does that later (R230). -/
def Dev.giveUp (fault : Bool) (d : Dev) (p : Slot) : Dev :=
  let d := (d.axesOf p).foldl Dev.silenceAx d
  let d := if fault then d.faultIfAlone p else d
  let d := d.leaveSlot p 3
  let d := if d.ring then d.setLease p 4 d.cvn.role else d
  d.sendLease 4 p

/-- Surrender of portal scope (R288, R289). -/
def Dev.portalSurrender (d : Dev) (p : Slot) (code : Nat) : Dev :=
  if !d.solo && d.enabled p && d.drives p && !d.cvn.surrendered then
    (Dev.giveUp (code != 1) (d.wr Reg.CVN_SURR_CAUSE (wn (p.val * 256 + code))) p).raiseCvn 5 p
  else d

/-- MEMBER_SURRENDER (R289). -/
def Dev.memberSurrender (d : Dev) (code : Nat) : Dev :=
  if !d.solo && !d.cvn.surrendered then
    let d := d.wr Reg.CVN_SURR_CAUSE (wn (2 ^ 15 + code))
    let d := d.modCvn (fun c => { c with surrendered := true, hand := c.hand.filter (fun h => !h.toUs) })
    let d := (slots.filter (fun p => d.enabled p && d.drives p)).foldl (Dev.giveUp true) d
    (d.showSurr).raiseCvn 5
  else d

/-- A cause on a servo or step axis surrenders its portal (R288 code 03h). -/
def Dev.axisSurrender (d : Dev) (a : Axis) : Dev :=
  match d.portalOf a with
  | none => d
  | some p => d.portalSurrender p 3

/-- OVER_CURRENT: the gates go off, and the cause surrenders the portal (R161, R288 code 03h). -/
def Dev.overCurrentRow (d : Dev) (n : Sax) : Dev :=
  let d := d.overCurrent n
  if d.rdB (Reg.SAX_STATUS n) 2 then d.axisSurrender (Sax.axis n) else d

/-- DSM_STUCK: where the trip is enabled it silences the axis, and then surrenders the portal (R146, R161,
R288 code 03h). -/
def Dev.dsmStuckRow (d : Dev) (a : Axis) : Dev :=
  let d := d.dsmStuck a
  let latched := match stxOf a, saxOf a with
    | some n, _ => d.stepd[n].dsmLatch
    | none, some n => d.servo[n].dsmLatch
    | none, none => false
  if latched then d.axisSurrender a else d

/-! ### Takeover in Duo, and claims awaited in Ring (R290, R295, R297) -/

/-- Await a handover of slot `p`; one per slot. -/
def Dev.await (d : Dev) (h : HandOver) : Dev :=
  d.modCvn (fun c => { c with hand := c.hand.filter (fun x => x.slot != h.slot) ++ [h] })
def Dev.handOf (d : Dev) (p : Slot) (toUs : Bool) : Option HandOver :=
  d.cvn.hand.find? (fun h => h.slot == p.val && h.toUs == toUs)
def Dev.dropHand (d : Dev) (p : Slot) : Dev := d.modCvn (fun c => { c with hand := c.hand.filter (fun x => x.slot != p.val) })

/-- CFG.HANDOVER. -/
def Dev.gapped (d : Dev) : Bool := d.rdB Reg.CVN_CFG 2

/-- This member may take the slot: its mirage is eligible, and it has not surrendered at member scope, after which it
drives nothing until a reset (R287, R289). -/
def Dev.canTake (d : Dev) (p : Slot) : Bool := d.mirageOk p && !d.cvn.surrendered

/-- A Duo member is to take over slot `p` (R290): the clocks start, and the takeover valley is fixed by the first
detection. A slot that it cannot take is driven by no member. -/
def Dev.takeoverDue (d : Dev) (p : Slot) : Dev :=
  if d.cvn.hand.any (fun h => h.slot == p.val && h.toUs && h.clocks) then d
  else if d.canTake p then
    let v := if d.gapped then d.valleyAt (d.now + 1) + d.pwmP else d.valleyAt (d.now + us 10)
    d.await { slot := p, valley := v, gapped := d.gapped, toUs := true, adopt := false, clocks := true }
  else d.setOwner p 3

/-- A Duo member concludes from SURR_N low, while it is not pulling it, that its partner has surrendered, died or not yet
started, once for each low (R277). -/
def Dev.surrConclude (d : Dev) : Dev :=
  if d.duo && !d.cvn.surrIn && !d.cvn.surrTold && !d.pullsSurr then
    let d := (d.modCvn (fun c => { c with surrTold := true })).wakeOn 4
    (slots.foldl (fun (d : Dev) p => if d.enabled p && !d.drives p then d.takeoverDue p else d) d).adopt (d.neighbour false)
  else d

/-- SURR_N shows the level `lvl` from the sample at `t` on, and is accepted with the fifth sample that agrees (R277). -/
def Dev.surrN (d : Dev) (t : Nat) (lvl : Bool) : Dev :=
  let d := d.upTo (t + 8)
  let fall := d.cvn.surrIn && !lvl
  let d := d.modCvn (fun c => { c with
    surrIn := lvl, surrLow := if fall then d.now else c.surrLow, surrTold := c.surrTold && !lvl && !fall })
  d.showSurr.surrConclude

/-- A low level that outlasts the own pull on SURR_N: looked at by strobes, the first of which finds the pull ended
(R277, log 152). -/
def Dev.surrStrobe (d : Dev) : Dev :=
  let free := !d.cvn.pulled
  let d := d.modCvn (fun c => { c with pulled := d.pullsSurr })
  if free then d.surrConclude else d

/-- SURRENDER received for slot `p` and epoch `e`; `member` says that the sender surrendered at member scope. In Ring it
frees the current epoch alone (R295). -/
def Dev.surrenderMsg (d : Dev) (p : Slot) (member : Bool) (e : Word) : Dev :=
  if d.solo then d
  else
    let d := if d.duo then (if d.drives p then d else d.takeoverDue p)
      else if d.drives p || d.epoch p != e then d
      else
        let d := (d.setLease p 4 (d.otherRole p)).modLease p (fun l => { l with free := true })
        if d.canTake p then
          d.await { slot := p, valley := d.posTickAt (d.now + 1), gapped := false, toUs := true, adopt := decide (6 ≤ p.val), clocks := true }
        else d.setOwner p 3
    if d.ring && member then d.adopt (d.otherRole p) else d

/-- TAKEOVER: the awaited valley of slot `p`. `high` says that a shared gate node read high during the gap
(GAPPED). -/
def Dev.takeover (d : Dev) (p : Slot) (high : Bool) : Dev :=
  match d.handOf p true with
  | none => d
  | some h =>
    if !h.clocks then d else
    let d := (d.upTo h.valley).dropHand p
    if !d.canTake p then d.leaveSlot p 3
    else if h.gapped && high then d.refuseNodes p
    else if d.ring then d.claim p (d.epoch p + 1)
    else (d.takeCounted p).raiseCvn 6 p

/-! ### Transfers (R291, R292) -/

/-- The duties in force on a portal's servo axes. -/
def Dev.dutiesOf (d : Dev) (p : Slot) : List (List Nat) := (d.servosOf p).map (fun n => d.servo[n].act)

/-- A host write of CVN.XFER as a gated write with the XFER right (R346): the slots that are honoured get a
valley, and XFER is sent. Its valley offset counts PWM periods from the sender's last position tick, and under SEAMLESS
it carries the duties in force (R291, log 126). -/
def Dev.xferWrite (d : Dev) (mask : Word) (gate : Bool) : Dev :=
  if d.solo || !(gate && d.hasRight 4) then d
  else
    let v := d.posTickAt (d.now + us 20)
    slots.foldl (fun (d : Dev) (p : Slot) =>
      if bit mask p.val && d.enabled p && d.drives p && d.otherReady p then
        let g := d.gapped || d.ring
        (d.await { slot := p, valley := v, gapped := g, toUs := false, adopt := false }).sendLease 8 p
          ((v - d.time.periodStart) / max 1 d.pwmP) (if g then [] else d.dutiesOf p)
      else d) d

/-- XFER received for slot `p`, naming valley `v`, the duties in force and, in Ring, epoch `e`: accepted with an eligible
mirage, otherwise answered with REFUSE. -/
def Dev.xferMsg (d : Dev) (p : Slot) (v : Nat) (e : Word) (duties : List (List Nat)) : Dev :=
  if d.solo || d.drives p then d
  else if d.canTake p && (d.duo || e == d.epoch p) then
    let g := d.gapped || d.ring
    d.await { slot := p, valley := v, gapped := g, toUs := true, adopt := d.ring && decide (6 ≤ p.val), duties := duties }
  else d.sendLease 6 p

/-- REFUSE received: a transfer of slot `p` changes nothing but XFER_DONE; in Ring any other answers a claim. -/
def Dev.refuseMsg (d : Dev) (p : Slot) : Dev :=
  match d.handOf p false with
  | some _ => (d.dropHand p).raiseCvn 7 p
  | none => if d.ring then d.raiseCvn 11 p else d

/-- Put the old driver's duties in force on the portal's servo axes, for the period in which both drive (R291). -/
def Dev.setDuties (d : Dev) (p : Slot) (ds : List (List Nat)) : Dev :=
  ((d.servosOf p).zip ds).foldl (fun (d : Dev) x => d.modServo x.1 (fun s => { s with act := x.2 })) d

/-- The receiver's part of a transfer: under SEAMLESS it drives from V with the duties that XFER carried; otherwise it
drives from V + P after the readback, and in Ring its claim takes effect at V (R291, R292). A member that has ceased to be
eligible receives nothing and refuses (R287, log 153). -/
def Dev.receiveSlot (d : Dev) (p : Slot) (h : HandOver) (high : Bool) : Dev :=
  let d := (d.upTo h.valley).dropHand p
  if !d.canTake p then (d.sendLease 6 p).raiseCvn 7 p else
  let d := if d.ring then d.claimLease p (d.epoch p + 1) else d
  if h.gapped then
    let d := d.upTo (h.valley + d.pwmP)
    if high then (d.refuseNodes p).raiseCvn 7 p
    else (if d.ring then d.takeCounted p else d.takeSlot p).raiseCvn 7 p
  else ((d.takeSlot p).setDuties p h.duties).raiseCvn 7 p

/-- TRANSFER_VALLEY of slot `p`: at V the old driver releases (one period later under SEAMLESS), and the
receiver drives at V, or at V + P after the readback. -/
def Dev.transferValley (d : Dev) (p : Slot) (high : Bool) : Dev :=
  match d.handOf p false with
  | some h =>
    let d := (d.upTo (if h.gapped then h.valley else h.valley + d.pwmP)).dropHand p
    let d := if d.drives p then d.leaveSlot p 1 else d
    let d := if d.ring then (d.setLease p 5 (d.otherRole p)).modLease p (fun l => { l with sent := none, answered := none, free := true }) else d
    d.raiseCvn 7 p
  | none =>
    match d.handOf p true with
    | none => d
    | some h => if h.clocks then d else d.receiveSlot p h high

/-! ### Lease messages and times (R294 to R297) -/

/-- LEASE_RENEWAL: the holder sends RENEW at the first position tick at least 4 ms after its last. -/
def Dev.leaseRenewal (d : Dev) (p : Slot) : Dev :=
  if d.ring && d.leaseState p == 1 then
    let t := match d.cvn.leases[p].sent with | some t => t + ms 4 | none => d.now
    let d := d.upTo (d.posTickAt t)
    (d.modLease p (fun l => { l with sent := some d.now })).sendLease 2 p
  else d

/-- RENEW received: answered with ACK; the claim time starts anew. -/
def Dev.renewMsg (d : Dev) (p : Slot) (e : Word) : Dev :=
  if d.ring && !d.drives p && decide (d.epoch p ≤ e) then
    let d := ((d.wr (Reg.CVN_LEASE_EPOCH p) e).setLease p 2 (d.otherRole p)).modLease p
      (fun l => { l with rcvd := some d.now, free := false })
    d.sendLease 3 p
  else d

/-- ACK received: the lease runs 20 ms from the RENEW it answers. -/
def Dev.ackMsg (d : Dev) (p : Slot) (e : Word) : Dev :=
  if d.ring && d.leaseState p == 1 && d.epoch p == e then d.modLease p (fun l => { l with answered := l.sent }) else d

/-- LEASE_EXPIRY: the holder releases the portal's outputs. -/
def Dev.leaseExpiry (d : Dev) (p : Slot) : Dev :=
  match d.cvn.leases[p].answered with
  | none => d
  | some t =>
    if d.ring && d.leaseState p == 1 then
      let d := d.upTo (t + ms 20)
      let d := (d.axesOf p).foldl Dev.silenceAx d
      let d := (d.leaveSlot p 3).setLease p 3 d.cvn.role
      (d.modLease p (fun l => { l with sent := none, answered := none })).raiseCvn 10 p
    else d

/-- CLAIM received with epoch `e`: taken where it is the known epoch plus 1, refused otherwise. -/
def Dev.claimMsg (d : Dev) (p : Slot) (e : Word) : Dev :=
  if !d.ring then d
  else if e = d.epoch p + 1 then
    let d := if d.drives p then d.leaveSlot p 1 else if d.owner p == 3 then d.setOwner p 1 else d
    ((d.wr (Reg.CVN_LEASE_EPOCH p) e).setLease p 2 (d.otherRole p)).modLease p
      (fun l => { l with rcvd := some d.now, free := false, sent := none, answered := none })
  else (d.sendLease 6 p).raiseCvn 11 p

/-- CLAIM_TIME: 22 ms after the last RENEW, or a freed epoch; the claim takes effect at the next position tick. -/
def Dev.claimTime (d : Dev) (p : Slot) : Dev :=
  if d.ring && d.enabled p && !d.drives p then
    let l := d.cvn.leases[p]
    let t? := if l.free then some d.now else l.rcvd.map (· + ms 22)
    match t? with
    | none => d
    | some t =>
      let d := d.upTo (d.posTickAt t)
      if d.canTake p then d.claim p (d.epoch p + 1) else d
  else d

/-- RELEASE received for epoch `e`: the other candidate claims and drives one PWM period later (R297). -/
def Dev.releaseMsg (d : Dev) (p : Slot) (e : Word) : Dev :=
  if d.ring && !d.drives p && d.epoch p == e then
    let d := (d.setLease p 5 (d.otherRole p)).modLease p (fun l => { l with free := true })
    if d.canTake p then
      let d := d.upTo (d.valleyAt (d.now + 1))
      (d.claim p (d.epoch p + 1)).raiseCvn 8 p
    else d
  else d

/-- HOME_RETURN: an eligible home member asks for its adopted home portal at rest (R297). -/
def Dev.homeReturn (d : Dev) (p : Slot) : Dev :=
  let long := match d.cvn.eligSince with
    | some t => decide (t + d.rdF Reg.CVN_CFG 31 16 * ms 1000 ≤ d.now)
    | none => false
  if d.ring && decide (p.val < 6) && d.rdB Reg.CVN_CFG 3 && !d.drives p && long && d.canTake p && d.cvn.mirages[p].atRest
  then d.sendLease 7 p else d

/-- RETURN_REQ received: held until the portal is at rest. -/
def Dev.returnReq (d : Dev) (p : Slot) : Dev :=
  if d.ring && d.drives p && !d.cvn.retReq.contains p.val then d.modCvn (fun c => { c with retReq := c.retReq ++ [p.val] }) else d

/-- The adopter's position tick: portals asked for and at rest are released (R297). -/
def Dev.homeReleases (d : Dev) : Dev :=
  (slots.filter (fun p => d.cvn.retReq.contains p.val && d.drives p && d.atRest p)).foldl (fun (d : Dev) p =>
    let d := (d.leaveSlot p 1).modCvn (fun c => { c with retReq := c.retReq.filter (· != p.val) })
    let d := (d.setLease p 5 (d.otherRole p)).modLease p (fun l => { l with sent := none, answered := none, free := false })
    (d.sendLease 5 p).raiseCvn 8 p) d

/-! ### Roles at start-up (R284, R285) -/

/-- A member takes every enabled portal as driver at start-up. -/
def Dev.takeAll (d : Dev) (f : Slot → Bool) : Dev :=
  slots.foldl (fun (d : Dev) p => if d.enabled p && f p && !d.cvn.mirages[p].seen then d.takeSlot p else d) d

/-- ROLE_TAKE, at start-up only: in Duo before the member has been a driver or an eligible holder, in Ring while it knows no
lease of the slot. -/
def Dev.roleTake (d : Dev) : Dev :=
  if decide (d.boot.st = .running ∨ d.boot.st = .done) && d.startHealthy && !d.cvn.surrendered then
    if d.duo then
      if d.cvn.role % 2 = 0 ∧ d.rdB Reg.CVN_STATUS 17 ∧ !d.cvn.ready then d.takeAll (fun _ => true) else d
    else if d.ring && d.syncOk then
      let restarted := d.rd Reg.SYS_RESET_CAUSE != 1
      let waited := decide (max d.cvn.startAt (d.cvn.upAt.getD 1 0) + ms 5000 ≤ d.now) && d.portUp false
      (slots.filter (fun p => decide (p.val < 6))).foldl (fun (d : Dev) p =>
        if !d.enabled p || d.drives p then d
        else if d.epoch p != 0 then (if d.owner p == 3 then d.setOwner p 1 else d)
        else if restarted && !waited then d
        else
          let d := (d.wr (Reg.CVN_LEASE_EPOCH p) 1).setLease p 1 d.cvn.role
          let d := d.modLease p (fun l => { l with sent := some d.now, answered := some d.now })
          ((d.takeSlot p).sendLease 1 p).raiseCvn 9 p) d
    else d
  else d

/-- STATE_WAIT_TIMEOUT: Duo member 1, once started, with SURR_N low and no STATE frame for 5 s. -/
def Dev.stateWait (d : Dev) : Dev :=
  let d := d.upTo (max d.cvn.startAt d.cvn.surrLow + ms 5000)
  if d.duo && d.cvn.role % 2 == 1 && decide (d.boot.st = .running ∨ d.boot.st = .done) && !d.cvn.surrIn
      && !d.cvn.ready && !d.cvn.surrendered && slots.all (fun p => !d.cvn.mirages[p].seen) && d.startHealthy then
    d.takeAll (fun _ => true)
  else d

/-- MIRAGE_STALE: a held mirage passes 32 ms without install. -/
def Dev.mirageStale (d : Dev) (p : Slot) : Dev :=
  match d.cvn.mirages[p].installed with
  | none => d
  | some t =>
    if d.solo || d.drives p || d.cvn.mirages[p].stale then d
    else (((d.upTo (t + ms 32)).modMir p (fun m => { m with stale := true })).showMirages).raiseCvn 12 p

/-! ### The copied state (R281, R282) -/

/-- STATE_CAPTURE at a position tick: the driver sends each driven portal's block; a holder notes its own
values of the same tick (R282). -/
def Dev.stateCapture (d : Dev) : Dev :=
  if d.solo then d
  else slots.foldl (fun (d : Dev) p =>
    if !d.enabled p then d
    else if d.drives p then d.send 1 0 (d.carPortal p) (.state (d.stateBlock p)) (some (d.otherWest p))
    else
      let c : OwnCopy := { at' := d.now
                           words := (d.stateWords p).map (fun w => (w.1, w.2.1))
                           servos := (d.servosOf p).map (fun n => (n.val, d.servo[n].ints))
                           counts := (d.encsOf p).map (fun (c : Enc) => (c.val, (d.rd (Reg.ENC_COUNT c)).toInt)) }
      d.modMir p (fun m => { m with own := (c :: m.own).take 2 })) d

/-- The holder's own values at the tick of a copy captured at `t`: those of the last tick that is no more than half a
period later. -/
def Mirage.ownAt (m : Mirage) (t half : Nat) : Option OwnCopy := m.own.find? (fun o => decide (o.at' ≤ t + half))

/-- What a block says of the bank of a servo axis at its sender: SEALED and CRC of A and B (R160). -/
def StateBlock.seals (b : StateBlock) (n : Sax) : Option (Bool × Word × Bool × Word) :=
  let get := fun a => (b.regs.find? (fun r => r.1 == a)).map (·.2)
  match get (Reg.SAX_BANK_CTRL n), get (Reg.SAX_BANK_CRC n 0), get (Reg.SAX_BANK_CRC n 1) with
  | some c, some ca, some cb => some (bit c 17, ca, bit c 18, cb)
  | _, _, _ => none

/-- Note what a STATE copy reports of the other member's banks. -/
def Dev.noteSeals (d : Dev) (p : Slot) (b : StateBlock) : Dev :=
  (d.servosOf p).foldl (fun (d : Dev) n => match b.seals n with
    | some s => d.modServo n (fun x => { x with partner := some s })
    | none => d) d

/-- STATE_FRAME: a block received whole, captured at time `t`; one that comes later than 200 µs is discarded (R282). A
driver takes from a copy of its own portal what the holder reports of its banks (R160, log 128). -/
def Dev.stateFrame (d : Dev) (p : Slot) (b : StateBlock) (t : Nat) : Dev :=
  if d.solo then d
  else if d.drives p then
    -- before the first evaluation of a portal held in NOT_STARTED: the other candidate's image (R401)
    if d.portal[p].holdNs then
      let i : PortalImage := ⟨p, b⟩
      d.modBoot (fun x => { x with
        images := if x.images.any (fun o => o.slot == p.val) then x.images else x.images ++ [i], peerSeen := x.peerSeen.set p true })
    else d.noteSeals p b
  else if t + us 200 < d.now then d
  else
    let d := d.modMir p (fun m => { m with block := some (b, t), seen := true, atRest := b.atRest })
    let d := if d.ring && decide (d.epoch p < b.epoch) then (d.wr (Reg.CVN_LEASE_EPOCH p) b.epoch).setLease p 2 (d.otherRole p) else d
    d.modBoot (fun x => { x with peerSeen := x.peerSeen.set p true })

/-- STATE_DISCARD: not whole and good 200 µs after its capture tick. -/
def Dev.stateDiscard (d : Dev) (p : Slot) : Dev := d.modMir p (fun m => { m with block := none })

/-- FWD received: kept for its tick, or late (R283). `pseq` counts position periods modulo 65 536. -/
def Dev.fwdMsg (d : Dev) (p : Slot) (a : Axis) (c : McmdWrite) (pseq : Nat) : Dev :=
  if d.solo || d.drives p then d
  else
    let δ := (pseq + 65536 - d.time.posTicks % 65536) % 65536
    if δ = 0 ∨ 32768 ≤ δ then ((d.modMir p (fun m => { m with lateFwd := true })).showMirages).raiseCvn 13 p
    else d.modMir p (fun m => { m with fwd := m.fwd ++ [⟨a, c, pseq⟩] })

/-- A FOLLOW value in binary32: the running value plus the copied less the own value of the same tick. -/
def followF (run copied own : Word) : Word := fadd run (fsub copied own)

/-- A register as the tasks of this tick read it: its present value (R282 installs before they run). -/
def Dev.refreshSnap (d : Dev) (r : Nat) : Dev := { d with snap := Cells.write resetOf d.snap r (d.rd r) }

/-- Install a register of the block; bits that stay the holder's own are kept. ACTIVE, SEALED and the bank CRCs are PIN
(R281). -/
def Dev.installReg (d : Dev) (p : Slot) (r : Nat × Word) : Dev :=
  let old := d.rd r.1
  if r.1 = Reg.PRT_STATE p then d.wr r.1 (setFld r.2 17 16 1)
  else
    match (d.servosOf p).find? (fun (n : Sax) => r.1 == Reg.SAX_CTRL n || r.1 == Reg.SAX_BANK_CTRL n || r.1 == Reg.SAX_BANK_CRC n 0 || r.1 == Reg.SAX_BANK_CRC n 1) with
    | some n =>
      if r.1 = Reg.SAX_CTRL n then d.wrB r.1 0 (bit r.2 0)
      else if r.1 = Reg.SAX_BANK_CTRL n then d.wr r.1 (setFld old 18 16 (fld r.2 18 16))
      else d.wr r.1 r.2
    | none =>
      match d.stepAx p with
      | some n =>
        if r.1 = Reg.STX_CTRL n then d.wrB r.1 0 (bit r.2 0)
        else if r.1 = Reg.STX_STATUS n then d.wr r.1 (setBit (setBit old 1 (bit r.2 1)) 2 (bit r.2 2))
        else d.wr r.1 r.2
      | none => d.wr r.1 r.2

/-- The step of a portal follows the re-sampled plan: its issued count stands where the present set-point puts it, and
the period goes on to the next (R195, R207). -/
def Dev.stepFollow (d : Dev) (p : Slot) : Dev := match d.stepAx p with
  | none => d
  | some n =>
    if d.stepRuns n && !d.mot[Stx.axis n].silenced then
      let m := d.microTarget (Stx.axis n) 0 (max 1 d.ticksPerPos) - (d.rd (Reg.MOT_POS_OFFSET (Stx.axis n))).toInt
      let d := d.modStep n (fun s => { s with issued := m })
      (d.wr (Reg.STX_STEPS_ISSUED n) (wi (m - d.stepd[n].origin))).microsteps n 0 (max 1 d.ticksPerPos)
    else d.sequenceStop n

/-- STATE_INSTALL (R282): PIN values, FOLLOW words, then the FWD writes of this tick and the plans re-sampled. The
instants in a block are those of its elapsed times in this member's time (log 126). While the engine is halted or being
reloaded the member holds no mirage and keeps its own view of the portal (R230, R232). -/
def Dev.stateInstall (d : Dev) (p : Slot) : Dev :=
  let m := d.cvn.mirages[p]
  match m.block with
  | none => d
  | some (b, t) =>
    if d.solo || d.drives p then d
    else if 2 ≤ d.rdF (Reg.ENG_STATUS p) 1 0 then d.modMir p (fun x => { x with block := none })
    else
      let own := m.ownAt t (d.posT / 2)
      let d := (b.regs.foldl (fun (d : Dev) r => (d.installReg p r).refreshSnap r.1) d).noteSeals p b
      let d := d.modPrt p (fun x => { b.portal with cmd := x.cmd, cmdGate := x.cmdGate })
      let d := b.mots.foldl (fun (d : Dev) (x : Nat × MotAxis) => match toFin? 28 x.1 with
        | none => d
        | some a => d.modMot a (fun _ => { x.2 with mcmds := [], mcmdCnt := 0 })) d
      let d := b.servos.foldl (fun (d : Dev) (x : Nat × ServoInts) => match toFin? 16 x.1 with
        | none => d
        | some n =>
          match own.bind (fun o => o.servos.find? (fun o => o.1 == x.1)) with
          | none => d
          | some o => d.modServo n (fun s => { s with
              intX := followF s.intX x.2.intX o.2.intX, intV := followF s.intV x.2.intV o.2.intV
              intD := followF s.intD x.2.intD o.2.intD, intQ := followF s.intQ x.2.intQ o.2.intQ })) d
      let d := b.steps.foldl (fun (d : Dev) (x : Nat × StepCopy) => match toFin? 12 x.1 with
        | none => d
        | some n => d.modStep n (fun s => { s with
            issued := x.2.issued, issuedSnap := x.2.issued, origin := x.2.origin, encOrigin := x.2.encOrigin, standAt := x.2.standAt, stood := x.2.stood
            laCnt := x.2.laCnt, lostSet := x.2.lostSet })) d
      let d := b.reqs.foldl (fun (d : Dev) (x : Nat × Bool) => match toFin? 48 x.1 with
        | none => d
        | some c => d.modHs c (fun h => { h with req := x.2 })) d
      let d := b.words.foldl (fun (d : Dev) (w : Nat × Word × Bool × Bool) =>
        let (k, v, pin, flt) := w
        let run := Cells.read zeroCell d.eng[p].data k
        let mine := ((own.bind (fun o => o.words.find? (fun o => o.1 == k))).map (·.2)).getD run
        let nv := if pin then v else if flt then followF run v mine else run + (v - mine)
        d.modEng p (fun e => { e with data := Cells.write zeroCell e.data k nv })) d
      let (d, bad) := b.counts.foldl (fun (acc : Dev × Bool) (x : Nat × Int) => match toFin? 28 x.1 with
        | none => acc
        | some c =>
          match own.bind (fun o => o.counts.find? (fun o => o.1 == x.1)) with
          | none => acc
          | some o => let (d, e) := acc.1.encCopy c x.2 o.2; (d, acc.2 || e)) (d, false)
      let d := if bad then d.modCvn (fun c => { c with xreadAt := some d.now }) else d
      let now := d.time.posTicks % 65536
      let d := (m.fwd.filter (fun f => f.pseq == now)).foldl (fun (d : Dev) (f : FwdWrite) => match toFin? 28 f.axis with
        | none => d
        | some a => match f.cmd.code with
          | 1 => d.pushAx a f.cmd
          | 2 => d.retargetAx a f.cmd
          | 3 => d.stopAx a false
          | 4 => d.stopAx a true
          | 5 => d.haltAx a
          | 6 => d.realign a
          | 7 => d.homeAx a
          | _ => d) d
      let d := ((d.axesOf p).foldl (fun (d : Dev) a => if d.axEn a && !d.mot[a].silenced then d.issueAx a else d) d).stepFollow p
      let d := if d.ring then d.wr (Reg.CVN_LEASE_EPOCH p) b.epoch else d
      let d := d.modMir p (fun x => { x with
        installed := some d.now, block := none, lateFwd := false, unlocked := !d.syncOk, stale := false
        fwd := x.fwd.filter (fun f => f.pseq != now) })
      let d := d.modEng p (fun e => { e with excSinceInstall := false, held := false })
      (d.setOwner p 1).showMirages

/-- The installs of a position tick: every slot whose block has come (R282). -/
def Dev.installs (d : Dev) : Dev := slots.foldl Dev.stateInstall d

/-! ### SYNC (R278) -/

/-- A SYNC frame is adopted (R278): tick configuration, and tick index and PSEQ of the tick it names, which is the strobe
that comes now, or with `strobed` the one just past. -/
def Dev.syncAdopt (d : Dev) (strobed : Bool) : Dev :=
  match d.cvn.syncDue with
  | none => d
  | some (cfg, idx, ps) =>
    let d := (d.putField Reg.TBS_TICK_CFG cfg).stage Reg.TBS_TICK_CFG cfg
    let d := d.modCvn (fun c => { c with syncDue := none, syncArm := false, syncSet := true })
    d.modTime (fun t => { t with
      nextK := idx + strobed.toNat
      posTicks := t.posTicks / 65536 * 65536 + (if strobed then ps else (ps + 65535) % 65536) })

/-- SYNC_PULSE with phase error `e`, ns: counted toward lock. The first pulse after a SYNC frame of a new leader is the tick
that the frame names: the strobe next to it takes its index (R278, log 151). -/
def Dev.syncPulse (d : Dev) (e : Int) : Dev :=
  if d.solo || d.rdB Reg.CVN_STATUS 17 then d
  else
    let d := d.modCvn (fun c => { c with
      silent := 0, missCnt := 0, pulses := true, lockCnt := if |e| ≤ 5 then c.lockCnt + 1 else 0 })
    let d := d.wrF Reg.CVN_LINK 23 16 (wi (satS 8 e)).toNat
    if d.cvn.syncDue.isNone || d.cvn.syncSet then d
    else if 2 * (d.now - d.time.lastStrobe) < d.pwmP then d.syncAdopt true
    else d.modCvn (fun c => { c with syncArm := true })

/-- The strobe that a SYNC frame names adopts it: a follower's position tick, or the strobe of the first pulse. -/
def Dev.syncStrobe (d : Dev) : Dev :=
  if d.cvn.syncDue.isSome && (d.cvn.syncArm || (d.cvn.syncSet && decide (d.time.nextK % max 1 d.ticksPerPos = 0))) then d.syncAdopt false
  else d

/-- SYNC_LOCK: 64 consecutive ticks within ±5 ns. -/
def Dev.syncLock (d : Dev) : Dev :=
  if !d.solo && decide (64 ≤ d.cvn.lockCnt) && !d.rdB Reg.CVN_STATUS 17 then
    ((d.wrB Reg.CVN_STATUS 16 true).modCvn (fun c => { c with wasLocked := true })).edgesSettle
  else d

/-- The phase error shown in CVN.LINK, ns. -/
def Dev.syncPhase (d : Dev) : Int := sfld (d.rd Reg.CVN_LINK) 23 16

/-- SYNC_LOST: a tick beyond ±20 ns or four missing pulses. Mirages held lose eligibility until the next
install (R283). In DORMANT the limits stand still (R384). -/
def Dev.syncLost (d : Dev) : Dev :=
  if d.rdB Reg.CVN_STATUS 16 && !decide (d.pwr.st = .dormant) && (decide (20 < |d.syncPhase|) || decide (4 ≤ d.cvn.missCnt)) then
    let d := (d.wrB Reg.CVN_STATUS 16 false).modCvn (fun c => { c with lockCnt := 0 })
    let d := slots.foldl (fun (d : Dev) p => d.modMir p (fun m => { m with unlocked := true })) d
    d.showMirages.edgesSettle.raiseCvn 2
  else d

/-- A running member of lower ROLE_ID is heard on a port; with `locked` only one whose health word shows its ticks locked
(R278, R286). -/
def Dev.lowerHeard (d : Dev) (locked : Bool) : Bool :=
  [true, false].any (fun west =>
    let w := if west then d.rd Reg.CVN_HEALTH_W else d.rd Reg.CVN_HEALTH_E
    (match d.cvn.healthAt.getD (if west then 0 else 1) none with | some t => decide (d.now ≤ t + 4 * d.posT) | none => false)
      && decide (d.neighbour west < d.cvn.role) && (!locked || bit w 4))

/-- This member may become the timing leader (R278): at start-up while no pulse has come and no running member of lower
ROLE_ID is heard; after 8 position periods without pulses if it was locked and none of lower ROLE_ID that was locked is
heard. -/
def Dev.mayLead (d : Dev) : Bool :=
  if d.cvn.pulses then d.cvn.wasLocked && decide (8 ≤ d.cvn.silent) && !d.lowerHeard true
  else !d.lowerHeard false

/-- LEADER_CHOICE: `me` says that of the members that this one does not hear either, none goes before it. -/
def Dev.leaderChoice (d : Dev) (me : Bool) : Dev :=
  let was := d.rdB Reg.CVN_STATUS 17
  if d.solo || decide (d.pwr.st = .dormant) || (me && !was && !d.mayLead) then d
  else
    let d := (d.wrB Reg.CVN_STATUS 17 me).modCvn (fun c => { c with
      silent := 0, syncDue := none, syncArm := false, syncSet := c.syncSet && was == me })
    let d := if me then d.wrB Reg.CVN_STATUS 16 false else d
    (if was != me then d.raiseCvn 14 else d).edgesSettle

/-! ### Lanes (R279) -/

/-- LINK bit of a lane: CVB lanes in [3:2], CVA lanes in [1:0]. -/
def laneBit (west : Bool) (lane : Fin 2) : Nat := (if west then 2 else 0) + lane.val
/-- A receive lane of the port is UP. -/
def Dev.portLanes (d : Dev) (west : Bool) : Bool := d.rdB Reg.CVN_LINK (laneBit west 0) || d.rdB Reg.CVN_LINK (laneBit west 1)

/-- LANE_UP: the port comes UP with its first lane, and adopted records go back (R314). -/
def Dev.laneUp (d : Dev) (west : Bool) (lane : Fin 2) : Dev :=
  if d.solo then d
  else
    let was := d.portLanes west
    let d := d.wrB Reg.CVN_LINK (laneBit west lane) true
    if was then d
    else (((d.modCvn (fun c => { c with upAt := c.upAt.set (if west then 0 else 1) d.now })).wrB Reg.CVN_STATUS (if west then 13 else 12) true).raiseCvn 0 west.toNat).sendReturns (d.neighbour west)

/-- A lane goes DOWN, and the port with its last lane; in Ring the neighbour's records are adopted (R314). -/
def Dev.laneLost (d : Dev) (west : Bool) (lane : Fin 2) : Dev :=
  let was := d.portLanes west
  let d := (d.wrB Reg.CVN_LINK (laneBit west lane) false).modCvn (fun c => { c with crcAt := c.crcAt.set (laneBit west lane) [] })
  if !was || d.portLanes west then d
  else
    let d := (d.wrB Reg.CVN_STATUS (if west then 13 else 12) false).raiseCvn 1 west.toNat
    if d.ring then d.adopt (d.neighbour west) else d

/-- LANE_DOWN: 10 µs without a valid character where `fails` is empty; else frames on the lane whose CRC failed at those
times, each counted in CRC_ERR_A or CRC_ERR_B, the fourth within 1 ms taking the lane DOWN (R279, R299). -/
def Dev.laneDown (d : Dev) (west : Bool) (lane : Fin 2) (fails : List Nat) : Dev :=
  if d.solo then d
  else
    let k := laneBit west lane
    let d := fails.foldl (fun (d : Dev) _ => d.incSat (if west then Reg.CVN_CRC_ERR_B else Reg.CVN_CRC_ERR_A) 0xFFFFFFFF) d
    let near := (d.cvn.crcAt.getD k [] ++ fails).filter (fun t => decide (d.now < t + ms 1))
    if fails.isEmpty || decide (4 ≤ near.length) then d.laneLost west lane
    else d.modCvn (fun c => { c with crcAt := c.crcAt.set k near })

/-! ### Self-test (R287) -/

/-- SPINE_LOOPBACK: two consecutive failures clear SPINE_OK; a frame that passes sets it. -/
def Dev.spineLoop (d : Dev) (ok : Bool) : Dev :=
  if ok then d.modCvn (fun c => { c with spineFails := 0, spineOk := true })
  else d.modCvn (fun c => { c with spineFails := c.spineFails + 1, spineOk := c.spineOk && decide (c.spineFails + 1 < 2) })

/-- BACKGROUND_SELF_TEST: the march test of the next 256-byte slice of memory, or with `engine` the signature that a
self-check program has compared (R219, R287). A failure is sticky until reset. -/
def Dev.selfTest (d : Dev) (engine ok : Bool) : Dev :=
  if engine then d.modCvn (fun c => { c with selfOk := c.selfOk && ok })
  else d.modCvn (fun c => { c with bistPos := c.bistPos + 1, bistOk := c.bistOk && ok })

end Sys2Proof.Machine
end

