-- ==== Sys2Proof/Machine/Door.lean ====
section
/-!
DEFINITION. The housekeeping task of the standard door program (spec/02 R44 to R66): fault causes, requests
and their precedence, the transitions of R46 in the order of R47, the step, the indicators, the heater, and the
portal commands.
-/

namespace Sys2Proof.Machine

/-- A timer that started at `t0` has reached `limit`; without a start it has not. -/
def Dev.ran (d : Dev) (t0 : Option Nat) (limit : Nat) : Bool :=
  match t0 with
  | none => false
  | some t => decide (t + limit ≤ d.now)

/-- Timing fields in 5 ns units (R61). -/
def Dev.dwellT (d : Dev) (p : Slot) : Nat := d.rdF (Reg.PRT_TIME_A p) 25 16 * ms 1000
def Dev.warnT (d : Dev) (p : Slot) : Nat := d.rdF (Reg.PRT_TIME_A p) 9 0 * ms 10
def Dev.qualT (d : Dev) (p : Slot) : Nat := d.rdF (Reg.PRT_TIME_B p) 31 24 * ms 10
def Dev.stepT (d : Dev) (p : Slot) : Nat := d.rdF (Reg.PRT_TIME_B p) 23 16 * ms 100
def Dev.lockEngT (d : Dev) (p : Slot) : Nat := d.rdF (Reg.PRT_TIME_B p) 15 8 * ms 10
def Dev.lockRelT (d : Dev) (p : Slot) : Nat := d.rdF (Reg.PRT_TIME_B p) 7 0 * ms 10
def Dev.curtT (d : Dev) (p : Slot) : Nat := d.rdF (Reg.PRT_TIME_C p) 23 16 * ms 1000
def Dev.closeT (d : Dev) (p : Slot) : Nat := d.rdF (Reg.PRT_TIME_C p) 15 8 * ms 100
def Dev.openT (d : Dev) (p : Slot) : Nat := d.rdF (Reg.PRT_TIME_C p) 7 0 * ms 100
/-- WAIT of a reversal (R182). -/
def Dev.waitT (d : Dev) (p : Slot) : Nat := d.rdF (Reg.PRT_OBS_REACT p) 23 16 * ms 100

/-- Close in force: a latched close request, or TL_CLOSE present and consistent (R48). -/
def Dev.closeInForce (d : Dev) (p : Slot) : Bool := d.portal[p].closeLatch || d.tlClose
/-- CURTAIN_MAX has run; 0 is no limit. -/
def Dev.curtExpired (d : Dev) (p : Slot) : Bool := d.curtT p != 0 && d.ran d.portal[p].curtAt (d.curtT p)

/-! ### Fault causes (R55) -/

/-- A CLOSED input made outside CLOSED_WIN, or broke inside it while the leaves stand (R55 06h). -/
def Dev.switchDisagree (d : Dev) (p : Slot) : Bool :=
  let axs := (d.doorAxes p).filter d.refSeen
  let inside := axs.all (d.inWindow p)
  let still := axs.all (fun a => !d.mot[a].busy)
  !axs.isEmpty && [roClosed1, roClosed2].zipIdx.any (fun q =>
    d.fit p q.1 &&
      (let was := d.portal[p].closedPrev.getD q.2 false
       let now := d.roleOn p q.1
       (!was && now && !inside) || (was && !now && inside && still)))

/-- The lowest fault cause that is active in the portal's present state, 0 for none (R55, log 51). -/
def Dev.activeCause (d : Dev) (p : Slot) : Nat :=
  let x := d.portal[p]
  let s := d.pst p
  let causes : List (Nat × Bool) := [
    (0x01, x.holdNs),
    (0x02, s == psUnlocking && !d.unlockedAll p && d.ran x.lockAt (d.lockRelT p) && d.release p && !d.closeInForce p),
    (0x03, s == psLocking && !d.lockedMade p && !d.prtB p 27 && d.ran x.lockAt (d.lockEngT p)),
    (0x04, s == psOpening && d.ran (some x.enteredAt) (d.openT p)),
    (0x05, s == psClosing && !d.prtB p 21 && d.ran (some (x.enteredAt + x.paused)) (d.closeT p)),
    (0x06, d.switchDisagree p),
    (0x07, (s == psLocked || s == psReleased || s == psLocking) && !d.closedMade p),
    (0x08, (d.doorAxes p).any d.uncSeen),
    (0x09, (d.servosOf p).any (fun n => d.rdB (Reg.SAX_STATUS n) 1)),
    (0x0A, d.sst p == ssStalled || d.ran x.stepAt (d.stepT p)),
    (0x0B, d.roleOn p roEgress),
    (0x0D, d.edgeBroken p && s != psClosing && !(s == psReversing && x.revMove)),
    (0x0E, x.quals.any (fun t => d.ran t (d.qualT p))) ]
  match causes.find? (·.2) with
  | some c => c.1
  | none => 0

/-! ### Commands (R50, R51) -/

/-- Report a processed command: RESULT, LAST_CODE, DONE; source p has an occurrence (R374). -/
def Dev.cmdDone (d : Dev) (p : Slot) (code result : Nat) : Dev :=
  let w := d.rd (Reg.PRT_CMD_STATUS p)
  let w := setFld (setFld (setFld w 3 0 code) 7 4 result) 23 16 (fld w 23 16 + 1)
  ((d.wr (Reg.PRT_CMD_STATUS p) w).modPrt p (fun x => { x with cmd := none })).occur p

/-- A write of PRTn.CMD is received: WRITES advances and the command is pending (R51). `gate` says that it
came as a gated write; ISOLATE and RESTORE are honoured only with the ISOLATE right (R346). What a halted engine
receives is never processed (R231). -/
def Dev.cmdWrite (d : Dev) (p : Slot) (code : Nat) (gate : Bool) : Dev :=
  let d := d.wrF (Reg.PRT_CMD_STATUS p) 15 8 (d.rdF (Reg.PRT_CMD_STATUS p) 15 8 + 1)
  if 2 ≤ d.rdF (Reg.ENG_STATUS p) 1 0 then d
  else d.modPrt p (fun x => { x with cmd := some code, cmdGate := gate && d.hasRight 0 })

/-! ### Requests (R48, R49) -/

/-- What a housekeeping tick finds: the open and close requests present, with their source codes. -/
structure Requests where
  close4 : Bool          -- train-line close
  close5 : Bool          -- release withdrawal
  close6 : Bool          -- host CLOSE
  close7 : Bool          -- local close button
  open8 : Nat            -- local open button: 0, 1 outside, 2 inside
  open9 : Bool           -- host OPEN
  open10 : Bool          -- auto-open
  close11 : Bool         -- dwell close
  deriving DecidableEq, Repr

/-- Gather the requests present in the snapshot (R48). -/
def Dev.gather (d : Dev) (p : Slot) : Requests :=
  let x := d.portal[p]
  let cfg := d.rd (Reg.PRT_CFG p)
  let rel := d.release p
  { close4 := d.tlClose
    close5 := bit cfg 10 && !rel
    close6 := x.cmd == some 2
    close7 := bit cfg 11 && rel && d.roleOn p roBtnClose
    open8 := if !rel then 0 else if d.roleOn p roBtnOut then 1 else if d.roleOn p roBtnIn then 2 else 0
    open9 := x.cmd == some 1 && rel
    open10 := fld cfg 8 7 == 1 && rel && x.autoDue
    close11 := d.dwellT p != 0 && d.pst p == psOpen && d.ran (some x.enteredAt) (d.dwellT p) }

/-- An open request of a source may be honoured in the present state (R49); `btn` says a local button. -/
def Dev.openAllowed (d : Dev) (p : Slot) (r : Requests) (btn : Bool) : Bool :=
  let s := d.pst p
  !r.close4 &&
  ((s == psReleased && (d.sst p == ssRetracted || d.sst p == ssNotFitted))
    || (s == psClosing && !r.close5 && (!btn || d.rdB (Reg.PRT_CFG p) 9))
    || (s == psOpen && d.prtB p 20))

/-- A close may be accepted in the present state. -/
def Dev.closeAllowed (d : Dev) (p : Slot) : Bool := decide (psUnlocking ≤ d.pst p ∧ d.pst p ≤ psObstructed)

/-- Where rule 1 or 2 acts at this tick, it outranks every request: a host command is OUTRANKED, an OPEN without the
release NO_RELEASE (R48, R50). -/
def Dev.outranked (d : Dev) (p : Slot) : Dev :=
  match d.portal[p].cmd with
  | some 1 => d.cmdDone p 1 (if d.release p then 4 else 1)
  | some 2 => d.cmdDone p 2 4
  | _ => d

/-- Honour the highest-ranked request: latch a close, or answer the source of an accepted open (0 none), with
the host commands answered (R48, R49, R50). A close of rank 4 to 7 discards the opens below it in every state. A
command that no rule takes in the present state answers WRONG_STATE (log 113). -/
def Dev.honour (d : Dev) (p : Slot) (r : Requests) : Dev × Nat :=
  let closes := d.closeAllowed p
  let latchBy : Nat := if r.close5 then 7 else if r.close6 then 4 else if r.close7 then 3 else 0
  let highClose := r.close4 || latchBy != 0
  let src : Nat :=
    if highClose then 0
    else if r.open8 != 0 && d.openAllowed p r true then r.open8
    else if r.open9 && d.openAllowed p r false then 4
    else if r.open10 && d.openAllowed p r false then 5
    else 0
  let latchBy := if latchBy = 0 ∧ src = 0 ∧ r.close11 ∧ !r.close4 then 8 else latchBy
  let x0 := d.portal[p]
  let rank : Nat → Nat := fun c => match c with | 7 => 5 | 4 => 6 | 3 => 7 | 8 => 11 | _ => 99
  let better : Nat → Nat → Nat := fun new old => if rank new < rank old then new else old
  let d := if closes && latchBy != 0 then
      d.modPrt p (fun x => { x with closeLatch := true, closeBy := better latchBy x.closeBy })
    else d
  let newTl := (r.close4 && !x0.tlPrev) || (r.close5 && x0.relPrev)
  let d := if d.pst p = psObstructed ∧ (newTl || r.close6 || r.close7) then
      d.modPrt p (fun x => { x with closeNew := true }) else d
  let d := if src != 0 then d.modPrt p (fun x => { x with closeLatch := false, closeBy := 0, autoDue := false }) else d
  let st := d.pst p
  let d := match x0.cmd with
    | some 1 =>
      if !d.release p then d.cmdDone p 1 1
      else if src = 4 ∨ (src != 0 && d.openAllowed p r false) then d.cmdDone p 1 0
      else if st = psIsolated ∨ st = psFault then d.cmdDone p 1 3
      else if highClose then d.cmdDone p 1 4
      else d.cmdDone p 1 3
    | some 2 => if closes then d.cmdDone p 2 0 else d.cmdDone p 2 3
    | _ => d
  (d, src)

/-! ### Outputs (R43, R52, R208) -/

/-- Flashing: on for the first half of a period of `t` since `since`. -/
def Dev.flash (d : Dev) (since t : Nat) : Bool := decide ((d.now - since) % t < t / 2)

/-- Lamp and buzzer (R52); patterns start on (log 52). -/
def Dev.indicators (d : Dev) (p : Slot) : Dev :=
  let s := d.pst p
  let x := d.portal[p]
  let warn := d.prtB p 18
  let since := if warn then x.warnAt.getD x.enteredAt else x.enteredAt
  let (lamp, buzz) :=
    if warn || s == psClosing || s == psReversing then (d.flash since (ms 500), true)
    else if s == psReleased || s == psOpen || s == psUnlocking || s == psOpening then (true, false)
    else if s == psObstructed then (d.flash since (ms 500), decide ((d.now - x.enteredAt) % ms 5000 < ms 1000))
    else if s == psFault then (d.flash since (ms 2000), false)
    else (false, false)
  (d.progReq (d.rdF (Reg.PRT_OUTPUT_MAP p) 13 8) lamp).progReq (d.rdF (Reg.PRT_OUTPUT_MAP p) 21 16) buzz

/-- HEATER_DEMAND (R208, R209): with SRC = 01b and THERM invalid the demand keeps its last value. `elapsed` is the time since the last housekeeping task. -/
def Dev.heater (d : Dev) (p : Slot) (elapsed : Nat) : Dev :=
  let cfg := d.rd (Reg.PRT_HEAT_CFG p)
  let st := Reg.PRT_HEAT_STATUS p
  let th := fld cfg 31 24
  let seen := fitted th && d.byteValid th
  let therm := if seen then d.byteOn th else d.portal[p].thermPrev
  let t := roundAway ((d.temp : Rat) / 10)
  let on := sfld cfg 15 8
  let off := sfld cfg 23 16
  let was := d.rdB st 1
  let dem := match fld cfg 1 0 with
    | 1 => if seen then therm else was
    | 2 => if t ≤ on then true else if off ≤ t then false else was
    | 3 => therm && decide (t < off)
    | _ => false
  let req := dem && decide (d.pwr.st = .run)
  let ch := d.rdF (Reg.PRT_OUTPUT_MAP p) 29 24
  let d := d.progReq ch req
  let bad := req && (match toFin? 48 ch with
    | none => false
    | some c => bit (d.sn (Reg.FSW_HS_STATUS c)) 24)
  let d := if bad && !d.rdB st 2 then (d.occur p).request (eventReq p 2 2 p []) else d
  let ho := d.portal[p].heatOn + (if d.rdB st 0 then elapsed else 0)
  let d := d.modPrt p (fun x => { x with thermPrev := therm, heatOn := ho })
  d.wr st (setFld (setBit (setBit (setBit (d.rd st) 2 bad) 1 dem) 0 req) 31 8 (min 0xFFFFFF (ho / ms 60000)))

/-- The lock request of the portal's state (R43, R58 STEP_LEAD). -/
def Dev.lockWanted (d : Dev) (p : Slot) : Bool :=
  let s := d.pst p
  if s = psUnlocking then !(d.rdB (Reg.PRT_CFG p) 6 && d.stepFitted p) || d.sst p == ssExtended
  else decide (psOpening ≤ s ∧ s ≤ psObstructed)

/-! ### The step (R58, R60) -/

/-- STEP_TRANSITION at the end of a move, before the rules that wait for it: stalled, extended, retracted, homed. A step
that has just stalled shows STALLED for one housekeeping period at least. -/
def Dev.stepEnds (d : Dev) (p : Slot) : Dev :=
  match d.stepAx p with
  | none => d.setSst p ssNotFitted
  | some n =>
    let a := Stx.axis n
    let s := d.sst p
    let elapsed := match d.portal[p].stepAt with | some t => d.now - t | none => 0
    let marked := d.portal[p].stallMark
    let d := d.modPrt p (fun x => { x with stallMark := false })
    if marked && (s == ssExtending || s == ssRetracting) then
      (d.setSst p ssStalled).modPrt p (fun x => { x with stepAt := none })
    else if s = ssStalled then
      if d.axisQuiet a then (d.wrB (Reg.MOT_MSTAT a) 7 true).setSst p ssUnhomed else d
    else if s = ssExtending then
      if d.axisQuiet a && d.mot[a].sp == 256 * (d.openSign a * (Config.stepStroke p : Nat)) then
        (d.setSst p ssExtended).modPrt p (fun x => { x with stepAt := none, acc := { x.acc with tStepExt := elapsed } })
      else d
    else if s = ssRetracting then
      if d.axisQuiet a && d.roleOn p roStepRet then
        (d.setSst p ssRetracted).modPrt p (fun x => { x with stepAt := none, acc := { x.acc with tStepRet := elapsed } })
      else d
    else if s = ssUnhomed then
      if !d.uncertain a && !d.uncSeen a && decide (d.mot[a].home = .idle) && d.axisQuiet a then d.setSst p ssRetracted else d
    else d

/-- STEP_TRANSITION at the start of a move, after the rules: retraction in LOCKING, homing, a step newly fitted. -/
def Dev.stepStarts (d : Dev) (p : Slot) : Dev :=
  match d.stepAx p with
  | none => d
  | some n =>
    let a := Stx.axis n
    let s := d.sst p
    if s = ssExtended then
      if d.pst p = psLocking then d.stepMove p false else d
    else if s = ssUnhomed then
      if d.tlZvel && (d.pst p == psLocked || d.pst p == psReleased || (d.pst p == psFault && d.leavesSecured p && !d.portal[p].offDue))
          && d.axEn a && !d.mot[a].silenced && d.axisQuiet a && decide (d.mot[a].home = .idle) then
        d.mcmdTake a 7 true
      else d
    else if s = ssNotFitted then (d.wrB (Reg.MOT_MSTAT a) 7 true).setSst p ssUnhomed
    else d

/-! ### Transitions (R46, R47) -/

/-- Leave OPENING by rule 9: OPEN with OPEN_BLOCKED once the leaves are at rest. -/
def Dev.openBlocked (d : Dev) (p : Slot) : Dev :=
  ((d.enter p psOpen).setPrtB p 20 true).modAcc p (fun a => { a with flags := a.flags ||| 2 })

/-- Enter LOCKED or RELEASED as the release says; the cycle in progress ends (R62). -/
def Dev.enterRest (d : Dev) (p : Slot) : Dev :=
  let d := (d.enter p (if d.release p then psReleased else psLocked)).modPrt p (fun x => { x with closeLatch := false, closeBy := 0 })
  d.cycleEnd p false

/-- OBSTRUCTED (R184): the leaves stay at the open position, so leaves that are short of it by a count or
more are sent there (log 64). -/
def Dev.enterObstructed (d : Dev) (p : Slot) : Dev :=
  let d := ((d.enter p psObstructed).modAcc p (fun a => { a with flags := a.flags ||| 1 })).request (eventReq p 2 0xFF p [])
  match d.slideAx p with
  | none => d
  | some s =>
    let a := Sax.axis s
    if (d.mot[a].sp - d.slideOpen p a).natAbs < 256 then d else d.doorMove p true 1 256 false none

/-- LOCKING (rules 7 and 15). A PNEU portal has no door axis to latch: its reference close ends here (R57, log 114). -/
def Dev.enterLocking (d : Dev) (p : Slot) : Dev :=
  let d := (d.enter p psLocking).modPrt p (fun x => { x with closeLatch := false, closeBy := 0, lockAt := some d.now })
  (if (d.slideAx p).isNone then d.setPrtB p 19 false else d).lockRequest p false

/-- Start, go on with or stop the pre-close warning, which lasts WARN; answers whether WARN has elapsed (R52). -/
def Dev.warning (d : Dev) (p : Slot) (due : Bool) : Dev × Bool :=
  if due then
    let t0 := d.portal[p].warnAt.getD d.now
    let ran := decide (t0 + d.warnT p ≤ d.now)
    ((d.modPrt p (fun x => { x with warnAt := some t0 })).setPrtB p 18 !ran, ran)
  else ((d.modPrt p (fun x => { x with warnAt := none })).setPrtB p 18 false, false)

/-- Run or stop the blocked-doorway timer toward CURTAIN_MAX. -/
def Dev.curtTimer (d : Dev) (p : Slot) (on : Bool) : Dev :=
  d.modPrt p (fun x => { x with curtAt := if on then some (x.curtAt.getD d.now) else none })

/-- The transitions of an evaluated portal below rules 1 and 2; `src` is the source of an accepted open. Among the rows
that R47 calls remaining, 11 comes before 10 and 13 before 15 (log 115). -/
def Dev.transition (d : Dev) (p : Slot) (src : Nat) : Dev :=
  let s := d.pst p
  let x := d.portal[p]
  let cif := d.closeInForce p
  if s = psLocked then (if d.release p then d.enter p psReleased else d)
  else if s = psReleased then
    if !d.release p then d.enter p psLocked
    else if src != 0 then
      let d := (d.enter p psUnlocking).cycleStart p src
      let lead := d.rdB (Reg.PRT_CFG p) 6 && d.stepFitted p
      let d := d.modPrt p (fun x => { x with lockAt := if lead then none else some d.now })
      if d.stepFitted p then d.stepMove p true else d
    else d
  else if s = psUnlocking then
    if !d.release p || cif then
      (d.modAcc p (fun a => { a with rule7 := true })).enterLocking p
    else if d.unlockedAll p && (d.sst p == ssExtended || d.sst p == ssNotFitted) then d.enterOpening p false
    else d
  else if s = psOpening then
    if x.blockDue then (if d.doorQuiet p then d.openBlocked p else d)
    else if cif then
      if d.doorQuiet p then d.openBlocked p
      else (d.stopDoor p).modPrt p (fun x => { x with blockDue := true, clean := false })
    else if d.moveDone p && d.unfitOrOn p roOpenEnd then (d.driftUpdate p false).enter p psOpen
    else d
  else if s = psOpen then
    if src != 0 then d.enterOpening p false
    else
      let blocked := d.doorwayBlocked p
      let d := d.curtTimer p (cif && blocked)
      let (d, warned) := d.warning p cif
      if cif && d.curtExpired p then d.enterObstructed p
      else if cif && warned && !blocked then d.enterClosing p
      else d
  else if s = psClosing then
    if d.prtB p 21 && d.curtExpired p then d.enterObstructed p
    else if src != 0 then d.enterOpening p true
    else if d.closedMade p && d.allInWindow p then (d.driftUpdate p true).enterLocking p
    else if d.prtB p 21 && (!d.curtainBlocked p || d.curtainMuted p) then
      let since := d.portal[p].curtAt.getD d.now
      let d := (d.setPrtB p 21 false).modPrt p (fun x => { x with paused := x.paused + (d.now - since), curtAt := none, newStroke := true })
      if d.ptype p = 2 then d.valves p false true
      else d.doorMove p false 1 (if d.prtB p 19 then (match d.slideAx p with | some n => d.refSpeed p (Sax.axis n) | none => 256) else 256) false none
    else d
  else if s = psReversing then
    if x.revMove then
      if d.doorQuiet p && (d.ptype p != 2 || d.roleOn p roOpenEnd) then
        if x.edgeBroke then d.enterOut p psFault 0x0D false
        else if d.retryLim p ≤ d.retries p then d.enterObstructed p
        else
          let d := d.modPrt p (fun x => { x with revMove := false, revLive := false, waitAt := some d.now })
          (d.warning p (cif && decide (d.waitT p ≤ d.warnT p))).1
      else d
    else
      let t0 := x.waitAt.getD d.now
      let over' := decide (t0 + d.waitT p ≤ d.now)
      let (d, warned) := d.warning p (cif && (d.portal[p].warnAt.isSome || decide (t0 + (d.waitT p - d.warnT p) ≤ d.now)))
      if over' && !cif then
        (d.enter p psOpen).wrF (Reg.PRT_STATE p) 26 24 0
      else if over' && warned && !d.doorwayBlocked p then d.enterClosing p
      else d
  else if s = psObstructed then
    let (d, warned) := d.warning p x.closeNew
    if x.closeNew && warned && !d.doorwayBlocked p then
      (d.enterClosing p).wrF (Reg.PRT_STATE p) 26 24 0
    else d
  else if s = psLocking then (if d.secured p then d.enterRest p else d)
  else d

/-- The image of a portal found at start-up, if one is not yet consumed (R320). -/
def Dev.image? (d : Dev) (p : Slot) : Option PortalImage := d.boot.images.find? (fun i => i.slot == p.val)

/-- Highest CYCLE_NO in the own store for a car-level portal (R400). -/
def Dev.lastCycleNo (d : Dev) (p : Slot) : Nat :=
  ((d.rcd.store.map (fun s => s.item.req)).filter (fun q => decide (q.kind = .cycle) && q.portal == d.carPortal p)).foldl
    (fun m q => max m q.cycleNo) 0

/-- END_STATE of the cycle record of a car-level portal with a number (R64 byte 70), if the own store has it. -/
def Dev.endState (d : Dev) (p : Slot) (no : Nat) : Option Nat :=
  ((d.rcd.store.map (fun s => s.item.req)).find? (fun q => decide (q.kind = .cycle) && q.portal == d.carPortal p
    && q.cycleNo == no)).map (fun q => (q.body.getD 46 0).toNat % 16)

/-- PSTATE of the last flushed state (R320): the image's, advanced by the record of the cycle that ended after it. -/
def Dev.flushedState (d : Dev) (p : Slot) (i : PortalImage) : Nat :=
  (d.endState p (i.cycles.toNat + 1)).getD (fld i.state 3 0)

/-- The last flushed state shows a cycle in progress (R66). -/
def Dev.midCycle (d : Dev) (p : Slot) (i : PortalImage) : Bool :=
  decide (psUnlocking ≤ d.flushedState p i ∧ d.flushedState p i ≤ psLocking)

/-- A cycle is taken as lost with the supplies, and with which accumulators: a cycle in progress in the image; or, with
zero accumulators, a portal not secured whose image shows the locked rest (R410) or that has none (R400). -/
def Dev.lostCycle (d : Dev) (p : Slot) (img : Option PortalImage) : Option (List Word) :=
  match img with
  | some i =>
    if d.midCycle p i then some i.acc
    else if decide (d.flushedState p i ≤ psReleased) && !d.secured p then some [] else none
  | none => if d.secured p then none else some []

/-- Accumulators from the CYCLE_ACC words of an image (R64, R66). -/
def accOf (ws : List Word) : Acc :=
  let b := ws.flatMap (fun w => leBytes 4 w.toNat)
  let at' := fun (o n : Nat) => leNat ((b.drop (o - 24)).take n)
  { flags := at' 26 2, tUnlock := at' 32 2 * 200000, tLock := at' 34 2 * 200000, tOpen := at' 36 4 * 200000
    tDwell := at' 40 4 * 200000, tClose := at' 44 4 * 200000, tStepExt := at' 48 2 * 200000, tStepRet := at' 50 2 * 200000
    iPeak := (at' 52 2 : Rat) / 1000, fRes := (sext 16 (at' 54 2) : Rat) / 10, edgeActs := at' 56 1
    curtActs := at' 57 1, reversals := at' 58 1, tempPeak := sext 8 (at' 59 1), energy := (at' 60 4 : Rat) / 1000
    closeLatch := wn (at' 64 4), openSrc := at' 68 1, closeSrc := at' 69 1 }

/-- The first housekeeping task after start-up (R43, R66, R400, R410). A portal that is not secured although its image
shows neither a cycle nor the locked rest, and that has no active cause, enters FAULT with cause 07h (log 116). -/
def Dev.firstEvaluation (d : Dev) (p : Slot) : Dev :=
  let img := d.image? p
  let cyc := max (d.lastCycleNo p) (match img with | some i => i.cycles.toNat | none => 0)
  let d := d.wr (Reg.PRT_CYCLES p) (wn cyc)
  let d := d.modPrt p (fun x => { x with
    evaluated := true, tlPrev := d.tlClose, relPrev := d.release p
    closedPrev := [d.roleOn p roClosed1, d.roleOn p roClosed2] })
  let d := match d.stepAx p with
    | none => d.setSst p ssNotFitted
    | some n => (d.wrB (Reg.MOT_MSTAT (Stx.axis n)) 7 true).setSst p ssUnhomed
  match d.lostCycle p img with
  | some ws =>
    let d := d.modPrt p (fun x => { x with cycOn := true, acc := accOf ws })
    let d := d.enter p psFault 0x10
    (d.cycleEnd p true).bridgesOff p
  | none =>
    if d.fit p roIsolate && d.roleOn p roIsolate then
      (d.modPrt p (fun x => { x with isoIn := true })).enterOut p psIsolated (d.activeCause p) false
    else
      let c := d.activeCause p
      if c != 0 then d.enterOut p psFault c false
      else if d.secured p then d.enterRest p
      else d.enterOut p psFault 0x07 false

/-- FAULT_CAUSE of a portal in ISOLATED (R47): the cause it had in FAULT, else the lowest active at entry or the first
that becomes active while it is isolated (log 117). -/
def Dev.isolatedCause (d : Dev) (p : Slot) : Nat :=
  let old := d.rdF (Reg.PRT_STATE p) 15 8
  if old = 0 then d.activeCause p else old

/-- Rules 1 and 2 and the commands that belong to them, then the requests and the other rules. -/
def Dev.evaluate (d : Dev) (p : Slot) : Dev :=
  let x := d.portal[p]
  let s := d.pst p
  let isoIn := d.roleOn p roIsolate
  let sess := x.cmdGate
  let d := d.modPrt p (fun x => { x with isoIn := isoIn })
  -- host ISOLATE, RESTORE, FAULT_CLEAR and illegal codes
  let d := match x.cmd with
    | some 4 => if sess then (d.cmdDone p 4 0).modPrt p (fun x => { x with isoHost := true }) else d.cmdDone p 4 2
    | some 5 =>
      if !sess then d.cmdDone p 5 2
      else if s = psIsolated ∧ x.isoHost then (d.cmdDone p 5 0).modPrt p (fun x => { x with isoHost := false })
      else d.cmdDone p 5 3
    | some 0 => d.cmdDone p 0 6
    | some c => if 6 ≤ c then d.cmdDone p c 6 else d
    | none => d
  let cause := d.activeCause p
  let iso := isoIn || d.portal[p].isoHost
  if iso && s != psIsolated then
    let d := d.outranked p
    let d := if x.cmd = some 3 then d.cmdDone p 3 (if s = psFault then 4 else 3) else d
    d.enterOut p psIsolated (d.isolatedCause p) false
  else if s = psIsolated then
    let d := (d.honour p (d.gather p)).1
    let d := if x.cmd = some 3 then d.cmdDone p 3 3 else d
    let d := (d.offWhenQuiet p).wrF (Reg.PRT_STATE p) 15 8 (d.isolatedCause p)
    if iso then d
    else if d.secured p then d.enterRest p
    else d.enterOut p psFault 0x0F false
  else if s = psFault then
    let d := (d.honour p (d.gather p)).1
    let d := d.offWhenQuiet p
    if x.cmd = some 3 then
      if cause != 0 then d.cmdDone p 3 5
      else
        let d := d.cmdDone p 3 0
        if d.secured p then d.enterRest p
        else ((d.enter p psOpen).setPrtB p 19 true).cycleStart p 9
    else d
  else if cause != 0 then
    let d := d.outranked p
    let d := if x.cmd = some 3 then d.cmdDone p 3 3 else d
    d.enterOut p psFault cause (cause == 0x09)
  else
    let d := if x.cmd = some 3 then d.cmdDone p 3 3 else d
    let (d, src) := d.honour p (d.gather p)
    d.transition p src

/-- Time spent in the present state since the last housekeeping task, by the counters of R64. -/
def Dev.accTime (d : Dev) (p : Slot) (el : Nat) : Dev :=
  if d.portal[p].cycOn then
    let s := d.pst p
    let t := roundAway ((d.temp : Rat) / 10)
    let lim := (d.axesOf p).any (fun a => d.rdB (Reg.MOT_MSTAT a) 6)
    let slow := d.rdB Reg.TBS_PACE_STATUS 0
    let latch := match d.slideAx p with | some n => d.rd (Reg.MOT_LATCH_POS (Sax.axis n)) | none => 0
    d.modAcc p (fun a => { a with
      tUnlock := a.tUnlock + (if s = psUnlocking then el else 0)
      tLock := a.tLock + (if s = psLocking then el else 0)
      tOpen := a.tOpen + (if s = psOpening then el else 0)
      tDwell := a.tDwell + (if s = psOpen ∨ s = psObstructed then el else 0)
      tClose := a.tClose + (if s = psClosing ∨ s = psReversing then el else 0)
      tempPeak := max a.tempPeak t, closeLatch := latch
      flags := a.flags ||| (if lim then 16 else 0) ||| (if slow then 32 else 0) })
  else d

/-- STATE.RELEASE and TL_CLOSE (R43, R71). -/
def Dev.showInterlock (d : Dev) (p : Slot) : Dev := (d.setPrtB p 22 (d.release p)).setPrtB p 23 d.tlClose

/-- What a housekeeping task does before its rules: the times of the cycle, and the inputs of the rules as they stand
(R43, R56, R58, R64). -/
def Dev.hkPrepare (d : Dev) (p : Slot) : Dev :=
  let x := d.portal[p]
  let d := d.accTime p (if x.evaluated then d.now - x.lastHk else 0)
  let d := d.modPrt p (fun x => { x with lastHk := d.now })
  let d := (d.showInterlock p).keepBands p
  let shared := d.lockShared p
  let d := d.modPrt p (fun x => { x with
    quals := (d.invalidInputs p).zipIdx.map (fun q => if q.1 then some ((x.quals.getD q.2 none).getD d.now) else none)
    autoDue := (x.autoDue || (d.release p && !x.relPrev && x.evaluated)) && d.release p
    lockAt := if d.prtB p 27 && !shared && decide (d.pst p = psLocking) then some d.now else x.lockAt })
  (d.setPrtB p 27 shared).stepEnds p

/-- What a housekeeping task does after its rules: the step, the outputs, and what it remembers (R43, R52, R58, R61);
`el` is the time since the last one, `was` the state before the rules. Under STEP_LEAD the limit LOCK_REL_MAX runs from
the lock request (log 118). An arrival of the release in LOCKED is a request for auto-open at the next tick, in RELEASED,
unless TL_CLOSE discards it (R48, R49, log 119). -/
def Dev.hkFinish (d : Dev) (p : Slot) (was el : Nat) : Dev :=
  let d := d.stepStarts p
  let want := d.lockWanted p
  let d := if want && decide (d.pst p = psUnlocking) && d.portal[p].lockAt.isNone then
      d.modPrt p (fun x => { x with lockAt := some d.now }) else d
  let d := d.lockRequest p want
  let d := if d.ptype p = 2 then
      let s := d.pst p
      d.valves p (s == psOpening || s == psOpen || s == psReversing || s == psObstructed) (s == psClosing && !d.prtB p 21)
    else d
  let d := (d.indicators p).heater p el
  let d := d.modPrt p (fun x => { x with
    tlPrev := d.tlClose, relPrev := d.release p
    closedPrev := [d.roleOn p roClosed1, d.roleOn p roClosed2] })
  let d := d.modPrt p (fun x => { x with
    autoDue := x.autoDue && was == psLocked && decide (d.pst p = psReleased) && !d.tlClose })
  d.showAcc p

/-- A pending command that this member does not run is answered with `result`. -/
def Dev.answer (d : Dev) (p : Slot) (result : Nat) : Dev :=
  match d.portal[p].cmd with
  | some c => d.cmdDone p c result
  | none => d

/-- A portal that this member does not run. -/
def Dev.answerOnly (d : Dev) (p : Slot) (result : Nat) : Dev :=
  ((d.showInterlock p).modPrt p (fun x => { x with lastHk := d.now })).answer p result

/-- The holder of a mirage runs the portal's program in parallel, from the first install on (R282). -/
def Dev.shadows (d : Dev) (p : Slot) : Bool :=
  d.owner p == 1 && d.cvn.mirages[p].installed.isSome && d.portal[p].evaluated

/-- The rules of a housekeeping task, with what comes before and after them. -/
def Dev.hkRules (d : Dev) (p : Slot) : Dev :=
  let x := d.portal[p]
  let e := d.hkPrepare p
  let e := if x.evaluated then e.evaluate p
    else if x.holdNs then e
    else e.firstEvaluation p
  e.hkFinish p (d.pst p) (d.now - x.lastHk)

/-- HOUSEKEEPING_TASK (R44) of one portal. A member that does not drive it answers NOT_OWNER whatever the portal's
type (R51), a driver of a disabled portal WRONG_STATE (log 113). -/
def Dev.housekeeping (d : Dev) (p : Slot) : Dev :=
  if d.drives p then (if d.enabled p then d.hkRules p else d.answerOnly p 3)
  else if d.enabled p && d.shadows p then (d.answer p 7).hkRules p
  else d.answerOnly p 7

/-- A portal command row (R51, log 6): the write, and its processing by the next housekeeping evaluation; a
halted engine receives it and does not process it (R231). -/
def Dev.portalCmd (d : Dev) (p : Slot) (code : Nat) (gate : Bool) : Dev :=
  let d := d.cmdWrite p code gate
  if d.engRun p then d.housekeeping p else d

/-! ### Expiry rows: the time moves on to the limit, and the housekeeping evaluation acts on it -/

/-- The first housekeeping tick at or after `t` and the present time: tick 2 of a position period (R29). Without a tick
pattern, `t` itself. -/
def Dev.hkAt (d : Dev) (t : Nat) : Nat :=
  let t := max t d.now
  let h := d.time.periodStart + 2 * d.pwmP
  if d.posT = 0 then t else h + (t - h + d.posT - 1) / d.posT * d.posT

/-- Evaluate a portal at the first housekeeping tick at or after the limit `t` (R61). -/
def Dev.expiryAt (d : Dev) (p : Slot) (t : Nat) : Dev :=
  let d := d.upTo (d.hkAt t)
  if d.engRun p then d.housekeeping p else d

/-- An expiry row of a timer that started at `t0`; nothing where the timer does not run. -/
def Dev.prtExpiry (d : Dev) (p : Slot) (on : Bool) (t0 : Option Nat) (limit : Nat) : Dev :=
  match t0 with
  | none => d
  | some t => if on && d.drives p then d.expiryAt p (t + limit) else d

end Sys2Proof.Machine
end

