-- ==== Sys2Proof/Machine/Engine.lean ====
section
/-!
DEFINITION. The portal engines around their instruction words (spec/09): tick masks and rows, the start of a
task, the budget certificate, the pace monitor, exceptions with their consequences, and restart.
-/

namespace Sys2Proof.Machine

/-! ### Rows (R216 to R218) -/

/-- The tick masks that a speed divider produces (R216). -/
def masksOf (spd : Nat) : List Nat := if spd = 2 then [1, 3, 4, 9] else [0, 1, 3, 4, 8]

/-- A task descriptor from its 64-bit word (R217). -/
def TaskDesc.ofWord (w : DWord) : TaskDesc :=
  let f := fun hi lo => w.toNat / 2 ^ lo % 2 ^ (hi + 1 - lo)
  { cls := match f 63 62 with | 0 => .mandatory | 1 => .optional | 2 => .selfCheck | _ => .reserved
    id := f 61 56, nsel := f 55 52, spare := f 51 44, selAddr := f 43 32, dispAddr := f 31 16, wcet := f 15 0 }

/-- The rows of an itinerary store (R217): a header, then as many descriptors as its NTASK says. `fuel` bounds the rows. -/
def rowsOf : Nat → List DWord → List ItinRow
  | 0, _ => []
  | _, [] => []
  | fuel + 1, h :: ws =>
    let n := h.toNat / 16 % 16
    { mask := h.toNat % 16, ntask := n, rowWords := h.toNat / 2 ^ 16 % 2 ^ 16
      spare := h.toNat / 2 ^ 8 % 2 ^ 8 + h.toNat / 2 ^ 32 * 2 ^ 8
      tasks := (ws.take n).map TaskDesc.ofWord } :: rowsOf fuel (ws.drop n)

/-- The nominal and the slow-corner itinerary of an image. -/
def EngImage.nominal (i : EngImage) : List ItinRow := rowsOf i.itinN.length i.itinN
def EngImage.slow (i : EngImage) : List ItinRow := rowsOf i.itinS.length i.itinS

/-- The sum of a row's task budgets (R220). -/
def ItinRow.sum (r : ItinRow) : Nat := (r.tasks.map (·.wcet)).sum

/-- The slow-corner itinerary is in force. -/
def Dev.slowItin (d : Dev) : Bool := d.rdB Reg.TBS_PACE_STATUS 0

/-- The itinerary in force of an engine. -/
def Dev.itin (d : Dev) (n : Slot) : List ItinRow :=
  match d.eng[n].img with
  | none => []
  | some i => if d.slowItin then i.slow else i.nominal

/-- A 16-bit entry of table memory by byte offset from 20_0000h. -/
def Dev.tmem16 (d : Dev) (ofs : Nat) : Nat := d.tb ofs + 256 * d.tb (ofs + 1)

def Dev.setRun (d : Dev) (n : Slot) (r : Nat) : Dev := d.wrF (Reg.ENG_STATUS n) 1 0 r

/-! ### Exceptions (R229, R230) -/

/-- The heater's request is off while the engine does not run (R208, log 131); its on-time is counted to here. -/
def Dev.heaterStops (d : Dev) (p : Slot) : Dev :=
  let st := Reg.PRT_HEAT_STATUS p
  let ho := d.portal[p].heatOn + (if d.rdB st 0 then d.now - d.portal[p].lastHk else 0)
  let d := (d.progReq (d.rdF (Reg.PRT_OUTPUT_MAP p) 29 24) false).modPrt p (fun x => { x with heatOn := ho })
  d.wr st (setFld (setBit (d.rd st) 0 false) 31 8 (min 0xFFFFFF (ho / ms 60000)))

/-- The portal's lock request goes off and its other outputs to their reset posture (R230). -/
def Dev.outputsToPosture (d : Dev) (p : Slot) : Dev :=
  let om := d.rd (Reg.PRT_OUTPUT_MAP p)
  let vs := if d.ptype p = 2 then [d.rdF (Reg.PRT_AXIS_MAP p) 21 16, d.rdF (Reg.PRT_AXIS_MAP p) 29 24] else []
  let d := (d.lockRequest p false).heaterStops p
  ([fld om 13 8, fld om 21 16] ++ vs).foldl (fun (d : Dev) k =>
    match toFin? 48 k with
    | none => d
    | some c => d.progReq k (d.postureReq c)) d

/-- ENGINE_EXCEPTION: the engine stops at once; EXC and EXC_PC are latched; on the driver of the portal the
axes are silenced, outputs drop and, in Duo and Ring, the portal is surrendered. -/
def Dev.engException (d : Dev) (n : Slot) (code sub : Nat) : Dev :=
  if !d.engRun n then d
  else
    let e := d.eng[n]
    let id := match e.task with | some t => t.id | none => 0
    let w := 2 ^ 31 + id * 2 ^ 16 + d.rdF (Reg.ENG_STATUS n) 11 8 * 256 + sub * 16 + code
    let d := ((d.wr (Reg.ENG_EXC n) (wn w)).wr (Reg.ENG_EXC_PC n) (wn (e.pc % 4096))).setRun n 2
    let near := (e.excs.filter (fun t => decide (d.now ≤ t + ms 600000)))
    let drove := d.enabled n && d.drives n
    let taken := !d.solo && d.otherReady n
    let d := d.modEng n (fun e => { e with
      task := none, rest := [], stepping := false, excs := d.now :: near, excSinceInstall := true, excDue := true
      locked := e.locked || decide (3 ≤ near.length + 1) })
    let d := (d.modPrt n (fun x => { x with engExc := drove, engTaken := taken })).raiseEng n 0
    if drove then
      let d := (d.axesOf n).foldl Dev.silenceAx d
      (d.outputsToPosture n).portalSurrender n 1
    else d

/-- The next housekeeping tick after an exception: FAULT with cause ENGINE_EXCEPTION, on a holder as its own view of the
portal; on the driver the cycle's end where no member takes the portal over, as at the exception's instant; and the
Fault record (R230). -/
def Dev.engFault (d : Dev) (n : Slot) : Dev :=
  if d.eng[n].excDue then
    let drove := d.portal[n].engExc
    let d := (d.modEng n (fun e => { e with excDue := false })).modPrt n (fun x => { x with engExc := false })
    let w := d.rd (Reg.ENG_EXC n)
    let d := if d.enabled n then d.enter n psFault 0x0C else d
    let d := if drove then
        let d := d.stepHaltNow n
        if !d.portal[n].engTaken then d.cycleEnd n false
        else (d.modPrt n (fun x => { x with cycOn := false, acc := {} })).showAcc n
      else d
    d.request (eventReq (48 + n.val / 3) 3 0 n
      [wn (fld w 3 0), wn (fld w 7 4), wn (fld w 21 16), d.rd (Reg.ENG_EXC_PC n)])
  else d

/-! ### Task starts (R216 to R218, R238) -/

/-- A corrected error: counted, ECC_CORR set (R212, R233). -/
def Dev.eccCorrected (d : Dev) (n : Slot) (prog : Bool) : Dev :=
  let (hi, lo) := if prog then (15, 0) else (31, 16)
  (d.wrF (Reg.ENG_ECC n) hi lo (satAdd 65535 (d.rdF (Reg.ENG_ECC n) hi lo) 1)).raiseEng n 3

/-- TASK_START: the selector picks the dispatch entry; the registers are cleared and the pointers unbound; the
start costs 8 words. `sel` and `entry` are the outcomes of the reads of the selector and of the dispatch entry; an
uncorrectable one raises ECC (R212, R229). -/
def Dev.startTask (d : Dev) (n : Slot) (sel : Ecc := .good) (entry : Ecc := .good) : Dev :=
  match d.eng[n].rest with
  | [] => d
  | t :: ts =>
    let d := d.modEng n (fun e => { e with task := some t, rest := ts })
    let s := (Cells.read zeroCell d.eng[n].data t.selAddr).toNat % 16
    let d := if sel = .corrected then d.eccCorrected n false else d
    if sel = .bad then d.engException n 4 2
    else if t.nsel < s then d.engException n 3 4
    else if entry = .bad then d.engException n 4 3
    else
      let pc := d.tmem16 (t.dispAddr * 8 + 2 * s) % 4096
      d.modEng n (fun e => { e with
        pc := pc, words := 8, tickWords := e.tickWords + 8
        v := Vector.replicate 32 0, w := Vector.replicate 4 0, p := Vector.replicate 8 false, t := Vector.replicate 4 {} })

/-- The work of a tick is complete at the present time: DONE_LAST, DONE_MAX, WORDS_MAX. -/
def Dev.tickDone (d : Dev) (n : Slot) (units words : Nat) : Dev :=
  let up := fun (d : Dev) (r v : Nat) => d.wr r (wn (max (d.rd r).toNat v))
  up (up (d.wr (Reg.ENG_DONE_LAST n) (wn units)) (Reg.ENG_DONE_MAX n) units) (Reg.ENG_WORDS_MAX n) words

/-- The outcome of a sequencer read at a strobe instant. -/
def TickIn.eccOf (i : TickIn) (n : Slot) (w : SeqRead) : Ecc :=
  ((i.ecc.find? (fun x => x.eng == n && decide (x.what = w))).map (·.out)).getD .good

/-- STATUS.MASK and VARIANT at a strobe instant (R233). -/
def Dev.showMask (d : Dev) (mask : Nat) (n : Slot) : Dev := (d.wrF (Reg.ENG_STATUS n) 11 8 mask).wrB (Reg.ENG_STATUS n) 2 d.slowItin

/-- A strobe instant for one engine: work left undone by words executed one by one raises BUDGET 3h; a row that
ran whole (log 49) is done, with fewer words than the budgets of its tasks (R223); then the row of the new mask starts, its header and first task under the sequencer reads of
`i`. An error in the itinerary store counts as one in program memory (log 130). -/
def Dev.engTick (d : Dev) (i : TickIn) (n : Slot) (mask : Nat) (runs : Bool) : Dev :=
  let e := d.eng[n]
  let busy := e.task.isSome || !e.rest.isEmpty
  let d := if d.engRun n && busy then
      if e.stepping then d.engException n 1 3
      else d.tickDone n (d.free (1000 + n.val) (d.pwmP + 1)) (e.tickWords + d.free (1020 + n.val) (max 1 (e.rowBound - e.tickWords)))
    else d
  let d := d.modRcd (fun r => { r with mbxCnt := r.mbxCnt.set n 0 })
  let d := d.showMask mask n
  if d.engRun n then
    let row := if runs then (d.itin n).find? (fun r => r.mask == mask) else none
    let d := d.modEng n (fun e => { e with
      task := none, rest := match row with | some r => r.tasks | none => []
      rowBound := match row with | some r => r.sum | none => 0
      words := 0, tickWords := 0, stepping := i.byWord.contains n })
    let d := if i.eccOf n .row = .corrected then d.eccCorrected n true else d
    if i.eccOf n .row = .bad then d.engException n 4 1
    else d.startTask n (i.eccOf n (.selector 0)) (i.eccOf n (.entry 0))
  else d

/-! ### Certificate checks (R220 to R222, R247) -/

/-- The budget limit of a row (R220). -/
def budgetLimit (pwm : Nat) : Nat := 3 * pwm / 4

/-- A row's figures agree with the certificate (check 20h). -/
def certOk (cert : List (Nat × Nat × Nat)) (slow : Bool) (r : ItinRow) : Bool :=
  r.rowWords == r.sum && cert.any (fun c => c.1 == r.mask && (if slow then c.2.2 else c.2.1) == r.rowWords)

/-- A row's figures are within the budget limit, and every mask has its row (checks 21h and 22h, R222). -/
def EngImage.fits (i : EngImage) (pwm spd : Nat) : Option Nat :=
  let rows := i.nominal ++ i.slow
  if rows.any (fun r => decide (budgetLimit pwm < r.rowWords)) then some 0x21
  else if (masksOf spd).any (fun m => !i.nominal.any (fun r => r.mask == m) || !i.slow.any (fun r => r.mask == m)) then some 0x22
  else none

/-- `a` is a subset of `b` in the same relative order. -/
def subOrder : List TaskDesc → List TaskDesc → Bool
  | [], _ => true
  | _ :: _, [] => false
  | a :: as, b :: bs => if a = b then subOrder as bs else subOrder (a :: as) bs

/-- The tasks of a row that both itineraries hold: mandatory and self-check ones. -/
def ItinRow.kept (r : ItinRow) : List TaskDesc := r.tasks.filter (fun t => !decide (t.cls = .optional))

/-- The slow-corner itinerary against the nominal one (check 23h): the same masks; in each row the same mandatory and
self-check tasks in the same order, and a subset of the optional tasks, all in the nominal row's order. -/
def slowOk (nominal slow : List ItinRow) : Bool :=
  let row := fun (rs : List ItinRow) (m : Nat) => rs.find? (fun r => r.mask == m)
  (nominal ++ slow).all (fun r => match row nominal r.mask, row slow r.mask with
    | some a, some b => subOrder b.tasks a.tasks && decide (b.kept = a.kept)
    | _, _ => false)

/-- Dispatch region of engine n, as an offset from 20_0000h. -/
def dispBase (n : Nat) : Nat := 0x40000 + n * 0x1000
def constBase (n : Nat) : Nat := 0x50000 + n * 0x3800

/-- A descriptor is sound (check 24h). -/
def taskOk (n : Nat) (t : TaskDesc) : Bool :=
  !decide (t.cls = .reserved) && decide (dispBase n ≤ t.dispAddr * 8 ∧ t.dispAddr * 8 + 2 * (t.nsel + 1) ≤ dispBase n + 0x1000)

/-- The dispatch entries of a task name words of the program (check 25h). -/
def EngImage.dispOk (i : EngImage) (n : Nat) (t : TaskDesc) : Bool :=
  (List.range (t.nsel + 1)).all (fun s =>
    let k := (t.dispAddr * 8 - dispBase n) / 2 + s
    match i.dispatch[k]? with
    | none => false
    | some w => decide (w.toNat % 4096 < i.prog.length))

/-- A table descriptor stays in what engine n reads and has no reserved field (R247). -/
def descOk (n : Nat) : TblDesc → Bool
  | .fixed _ b l =>
    decide (8 ≤ l ∧ l ≤ 524280) && b % 8 == 0 && l % 8 == 0
      && (decide (dispBase n ≤ b ∧ b + l ≤ dispBase n + 0x1000) || decide (constBase n ≤ b ∧ b + l ≤ constBase n + 0x3800)
          || decide (0x7C000 ≤ b ∧ b + l ≤ 0x80000))
  | .bank _ _ a => decide (a ≤ 2)
  | .reserved => false

/-- The checks of R221 on one engine image under a tick configuration: the code of the first that fails. -/
def EngImage.check (i : EngImage) (n pwm spd : Nat) : Option Nat :=
  let rows := i.nominal ++ i.slow
  let tasks := rows.flatMap (·.tasks)
  if !(i.nominal.all (certOk i.cert false) && i.slow.all (certOk i.cert true)) then some 0x20
  else match i.fits pwm spd with
    | some c => some c
    | none =>
      if !slowOk i.nominal i.slow then some 0x23
      else if !(tasks.all (taskOk n) && rows.all (fun r => decide (1 ≤ r.ntask ∧ r.ntask ≤ 8 ∧ r.tasks.length = r.ntask))) then some 0x24
      else if !tasks.all (i.dispOk n) then some 0x25
      else if i.layoutN ≠ i.layoutS then some 0x26
      else if !i.descs.all (descOk n) then some 0x27
      else none

/-! ### Pace (R224 to R227) -/

/-- The largest ROW_WORDS over the rows that the tick configuration uses, in every image. -/
def Dev.rowMax (d : Dev) (slow : Bool) : Nat :=
  let ms' := masksOf d.spdDiv
  (slots.flatMap (fun n => match d.eng[n].img with
    | none => []
    | some i => ((if slow then i.slow else i.nominal).filter (fun r => ms'.contains r.mask)).map (·.rowWords))).foldl max 0

/-- MARGIN of R224 for W words at a replica time in 1/256 ns, in units of 2⁻¹⁵ of P, saturating at 8000h. -/
def Dev.margin (d : Dev) (w slowest site : Nat) : Int :=
  let tw : Rat := (slowest : Rat) / 65536          -- word time, ns
  let p : Rat := (d.pwmP : Rat) * 5
  if d.pwmP = 0 then -32768 else satS 16 (d.near ((1 - ((w : Rat) * tw + 1000) / p) * 32768) site)

/-- A percentage of P as a margin. -/
def pct (n : Nat) : Rat := (n : Rat) * 32768 / 100

/-- The margin that a tick with REPLICA_ERR counts as: some value below TRIP_TH (R225, log 59). -/
def Dev.badMargin (d : Dev) (site : Nat) : Int :=
  (d.free site (32768 + (pct (d.rdF Reg.TBS_PACE_CFG 23 16)).ceil.toNat) : Int) - 32768

/-- PACE_MEASURE of a strobe instant, from the four replica times. -/
def Dev.paceMeasure (d : Dev) (reps : List Nat) : Dev :=
  let r := (List.range 4).map (fun i => reps.getD i 0)
  let hi := r.foldl max 0
  let lo := r.foldl min hi
  let err := decide (5000 * 256 < hi) || decide (5 * lo < 4 * hi)
  let d := d.modTime (fun t => { t with slowest := max t.slowest hi, replErr := t.replErr || err })
  let nom := if err then d.badMargin 1044 else d.margin (d.rowMax false) hi 1040
  let cur := if err then d.badMargin 1045
    else if d.slowItin then d.margin (d.rowMax true) hi 1041 else nom
  let least := fun (o : Option Int) (v : Int) => some (match o with | some m => min m v | none => v)
  let d := d.modTime (fun t => { t with minNom := least t.minNom nom, minCur := least t.minCur cur })
  let d := (d.wr Reg.TBS_TWORD (wn (min 65535 (hi / 256)))).wr Reg.TBS_PACE (setFld (setFld 0 31 16 (wi nom).toNat) 15 0 (wi cur).toNat)
  if err then d.raisePace 3 else d

/-- The itinerary in force after the period whose smallest MARGIN_NOM is `nom` (R226). -/
def Dev.itinSelect (d : Dev) (nom : Int) : Dev :=
  let cfg := d.rd Reg.TBS_PACE_CFG
  let low := decide ((nom : Rat) < pct (fld cfg 7 0))
  let lows := if low then min 2 (d.rdF Reg.TBS_PACE_STATUS 2 1 + 1) else 0
  let d := d.wrF Reg.TBS_PACE_STATUS 2 1 lows
  let d := if !d.slowItin && lows == 2 then
      let d := (d.wrB Reg.TBS_PACE_STATUS 0 true).modTime (fun t => { t with holdAt := none })
      (d.incSat Reg.TBS_SWITCHES 0xFFFFFFFF).raisePace 0
    else if d.slowItin then
      if decide (pct (fld cfg 15 8) ≤ (nom : Rat)) then
        let at' := d.time.holdAt.getD d.now
        if decide (at' + fld cfg 31 24 * ms 1000 ≤ d.now) then
          ((d.wrB Reg.TBS_PACE_STATUS 0 false).modTime (fun t => { t with holdAt := none })).raisePace 1
        else d.modTime (fun t => { t with holdAt := some at' })
      else d.modTime (fun t => { t with holdAt := none })
    else d
  d.wrF Reg.TBS_PACE_STATUS 15 8 (match d.time.holdAt with | some a => min 255 ((d.now - a) / ms 1000) | none => 0)

/-- PACE_MIN, ITINERARY_SELECT and PACE_TRIP at a position tick, for the period just completed; none before the first.
The trip looks at the period against the itinerary then in force (R227): a period with REPLICA_ERR trips (R225). Answers
whether the trip surrenders the member. -/
def Dev.paceSelect (d : Dev) : Dev × Bool :=
  match d.time.minNom, d.time.minCur with
  | some nom, some cur =>
    let t := d.time
    let was := d.slowItin
    let d := d.wr Reg.TBS_PACE_MIN (setFld (setFld 0 31 16 (wi nom).toNat) 15 0 (wi cur).toNat)
    let d := d.itinSelect nom
    let cur := if d.slowItin == was then cur else if d.slowItin then d.margin (d.rowMax true) t.slowest 1043 else nom
    let trip := t.replErr || decide ((cur : Rat) < pct (d.rdF Reg.TBS_PACE_CFG 23 16))
    let d := d.modTime (fun t => { t with slowest := 0, replErr := false, minNom := none, minCur := none })
    let d := d.modCvn (fun c => { c with paceTrip := trip })
    if trip then (d.raisePace 2, !d.solo) else (d, false)
  | _, _ => (d, false)

/-! ### Restart (R232, R233) -/

/-- The bundle in force at start-up is readable. -/
def Dev.bundleReadable (d : Dev) : Bool :=
  d.sec.taken && (if d.sec.inForceB then d.sec.slotB.valid else d.sec.slotA.valid)

/-- Load an image: program, itineraries and the initial data memory over zeros. -/
def Engine.load (e : Engine) (i : EngImage) : Engine :=
  { e with
    img := some i
    data := i.init.foldl (fun m w => Cells.write zeroCell m w.1 w.2) []
    task := none, rest := [], stepping := false, words := 0, tickWords := 0, pc := 0 }

/-- RESTART. -/
def Dev.engRestart (d : Dev) (n : Slot) : Dev :=
  let e := d.eng[n]
  let recent := e.excs.filter (fun t => decide (d.now ≤ t + ms 600000))
  let ok := d.rdF (Reg.ENG_STATUS n) 1 0 == 2 && (!d.drives n || d.pst n == psFault) && d.bundleReadable
    && decide (recent.length < 3) && !e.locked
  match ok, e.img with
  | true, some i =>
    let d := (d.setRun n 3).modEng n (fun e => { e.load i with reloadDone := true })
    d.incSat (Reg.ENG_RESTARTS n) 0xFFFFFFFF
  | _, _ => d.raiseEng n 2

/-- A restarted engine starts; its program holds the portal in FAULT. -/
def Dev.engStart (d : Dev) (n : Slot) : Dev :=
  let d := (d.setRun n 1).modEng n (fun e => { e with reloadDone := false, startDue := false, held := true })
  let d := if d.enabled n then d.enter n psFault 0x0C else d
  d.raiseEng n 1

/-- RESTART_COMPLETE: reload and verification are complete, and the engine starts at the first position tick: now, or
where none comes at this instant, with the next. -/
def Dev.engRestartDone (d : Dev) (n : Slot) : Dev :=
  if d.rdF (Reg.ENG_STATUS n) 1 0 == 3 && d.eng[n].reloadDone then
    if d.now = d.time.periodStart then d.engStart n else d.modEng n (fun e => { e with startDue := true })
  else d

/-- The restarted engines that wait for this position tick (R232). -/
def Dev.engStarts (d : Dev) : Dev := slots.foldl (fun (d : Dev) n => if d.eng[n].startDue then d.engStart n else d) d

/-- STAT_CLR. -/
def Dev.engStatClr (d : Dev) (n : Slot) : Dev := (d.wr (Reg.ENG_DONE_MAX n) 0).wr (Reg.ENG_WORDS_MAX n) 0

end Sys2Proof.Machine
end

