-- ==== Sys2Proof/Machine/Irval.lean ====
section
/-!
DEFINITION. The Irval instruction set (spec/10): the ALU slots, the MEM slot with data memory, table memory
and the IO window, and the execution of one word. A word executes as one step: all slots read, all compute,
all write; an exception of any slot leaves everything unwritten (R251).
-/

namespace Sys2Proof.Machine

/-! ### Word formats (R235, R236) -/

/-- An ALU slot from its fields. -/
def aluSlot (op : Nat) (d a b : BitVec 5) : BitVec 21 :=
  BitVec.ofNat 21 (op * 2 ^ 15 + d.toNat * 2 ^ 10 + a.toNat * 2 ^ 5 + b.toNat)
/-- A MEM slot from its fields. -/
def memSlot (mop : Nat) (reg : BitVec 5) (tp : BitVec 2) (off : BitVec 9) : BitVec 20 :=
  BitVec.ofNat 20 (mop * 2 ^ 16 + reg.toNat * 2 ^ 11 + tp.toNat * 2 ^ 9 + off.toNat)
/-- A BASIC word from its slots. -/
def basicWord (alu0 alu1 : BitVec 21) (mem : BitVec 20) : DWord :=
  BitVec.ofNat 64 (alu0.toNat * 2 ^ 41 + alu1.toNat * 2 ^ 20 + mem.toNat)
/-- A LIMM word from its fields. -/
def limmWord (alu0 : BitVec 21) (imm : Word) (dest : BitVec 5) (imop : Nat) : DWord :=
  BitVec.ofNat 64 (2 ^ 62 + alu0.toNat * 2 ^ 41 + imm.toNat * 2 ^ 9 + dest.toNat * 2 ^ 4 + imop)
/-- The word as program memory holds it (R235, R252). -/
def WordCode.apply (c : WordCode) (w : DWord) : DWord :=
  match c with
  | .asRow => w
  | .format f => BitVec.ofNat 64 (w.toNat % 2 ^ 62 + (2 + f.val) * 2 ^ 62)
  | .imop k => if w.toNat / 2 ^ 62 = 1 then BitVec.ofNat 64 (w.toNat / 16 * 16 + 2 + k.val) else w
/-- The field [hi:lo] of an instruction word. -/
def wfld (w : DWord) (hi lo : Nat) : Nat := (w.toNat / 2 ^ lo) % 2 ^ (hi + 1 - lo)

/-! ### Registers (R237) -/

/-- A value register; v0 reads 0. -/
def Engine.rv (e : Engine) (i : Nat) : Word := if i = 0 then 0 else (e.v[i]?).getD 0
def Engine.rw' (e : Engine) (i : Nat) : Int := ((e.w[i]?).getD 0).toInt
def Engine.rp (e : Engine) (i : Nat) : Bool := (e.p[i]?).getD false
def Engine.rt (e : Engine) (i : Nat) : TPtr := (e.t[i]?).getD {}

/-- A destination and the value written to it. -/
inductive Put where
  | v (i : Nat) (x : Word)
  | w (i : Nat) (x : DWord)
  | p (i : Nat) (x : Bool)
  | cur (i : Nat) (x : Word)
  | bind (i : Nat) (desc : Nat)
  deriving DecidableEq, Repr

/-- The register a destination names: class and number. -/
def Put.key : Put → Nat × Nat
  | .v i _ => (0, i) | .w i _ => (1, i) | .p i _ => (2, i) | .cur i _ => (3, i) | .bind i _ => (3, i)

/-- Write a destination; a write to v0 is discarded. -/
def Engine.put (e : Engine) : Put → Engine
  | .v i x => if i = 0 then e else { e with v := e.v.setIfInBounds i x }
  | .w i x => { e with w := e.w.setIfInBounds i x }
  | .p i x => { e with p := e.p.setIfInBounds i x }
  | .cur i x => { e with t := e.t.setIfInBounds i { e.rt i with cur := x } }
  | .bind i k => { e with t := e.t.setIfInBounds i { desc := some k, cur := 0 } }

/-- An exception cause: CODE and SUB of R229. -/
abbrev Exc := Nat × Nat
def reservedOp : Exc := (2, 1)
def reservedField : Exc := (2, 2)
def boundsTable : Exc := (3, 1)
def boundsData : Exc := (3, 2)
def boundsIo : Exc := (3, 3)

/-- What a slot asks for: destinations, or an exception. -/
inductive SlotOut where
  | ok (ps : List Put)
  | exc (x : Exc)
  deriving DecidableEq, Repr

def SlotOut.puts : SlotOut → List Put
  | .ok ps => ps | .exc _ => []
def SlotOut.excs : SlotOut → List Exc
  | .ok _ => [] | .exc x => [x]

/-- `r`, if the fields are allowed (R252). -/
def field (ok : Bool) (r : SlotOut) : SlotOut := if ok then r else .exc reservedField

/-! ### ALU slots (R239 to R242) -/

/-- Saturated 32-bit and 64-bit results (R239). -/
def sat32 (i : Int) : Word := wi (satS 32 i)
def sat64 (i : Int) : DWord := BitVec.ofInt 64 (satS 64 i)
/-- MULQ31 and MULQ16: exact product, rounding term, arithmetic shift, saturation (R239). -/
def mulQ (k : Nat) (a b : Word) : Word := sat32 ((a.toInt * b.toInt + 2 ^ (k - 1)) / 2 ^ k)
/-- WEXT (R242). -/
def wext (w : Int) (s : Nat) : Word := sat32 (if s = 0 then w else (w + 2 ^ (s - 1)) / 2 ^ s)

/-- A two-operand value-register opcode. -/
def aluVV (op : Nat) : Option (Word → Word → Word) :=
  match op with
  | 0x02 => some (· + ·)
  | 0x03 => some (· - ·)
  | 0x04 => some (fun a b => sat32 (a.toInt + b.toInt))
  | 0x05 => some (fun a b => sat32 (a.toInt - b.toInt))
  | 0x06 => some (· &&& ·)
  | 0x07 => some (· ||| ·)
  | 0x08 => some (· ^^^ ·)
  | 0x09 => some (fun a b => a <<< (b.toNat % 32))
  | 0x0A => some (fun a b => a >>> (b.toNat % 32))
  | 0x0B => some (fun a b => a.sshiftRight (b.toNat % 32))
  | 0x0C => some (fun a b => wi (min a.toInt b.toInt))
  | 0x0D => some (fun a b => wi (max a.toInt b.toInt))
  | 0x10 => some (mulQ 31)
  | 0x11 => some (mulQ 16)
  | 0x12 => some (· * ·)
  | 0x28 => some fadd
  | 0x29 => some fsub
  | 0x2A => some fmul
  | 0x2D => some fmin
  | 0x2E => some fmax
  | _ => none

/-- A one-operand value-register opcode; its B field must be 0. -/
def aluV (op : Nat) : Option (Word → Word) :=
  match op with
  | 0x01 => some id
  | 0x0E => some (fun a => sat32 a.toInt.natAbs)
  | 0x0F => some (fun a => sat32 (-a.toInt))
  | 0x32 => some frcp
  | 0x33 => some frsq
  | _ => none

/-- A comparison into a predicate. -/
def aluCmp (op : Nat) : Option (Word → Word → Bool) :=
  match op with
  | 0x18 => some (fun a b => decide (a = b))
  | 0x19 => some (fun a b => decide (a.toInt < b.toInt))
  | 0x1A => some (fun a b => decide (a.toInt ≤ b.toInt))
  | 0x1B => some (fun a b => decide (a.toNat < b.toNat))
  | 0x2F => some fceq
  | 0x30 => some fclt
  | 0x31 => some fcle
  | _ => none

/-- A conversion with its literal B. -/
def aluCvt (op : Nat) : Option (Word → Nat → Word) :=
  match op with
  | 0x34 => some (fun a k => cvtxf a.toInt k)
  | 0x35 => some cvtfx
  | 0x36 => some cvtfxr
  | _ => none

/-- One ALU slot on the registers as they stood before the word. `feed` stands in for the register that the
B field names (R236); `fp` is the predicate read where FEED feeds a predicate opcode (log 54). -/
def Engine.alu (e : Engine) (feed : Option Word) (fp : Bool) (slot : Nat) : SlotOut :=
  let op := slot / 2 ^ 15 % 64
  let d := slot / 2 ^ 10 % 32
  let a := slot / 2 ^ 5 % 32
  let b := slot % 32
  let va := e.rv a
  let vb := feed.getD (e.rv b)
  let pb := if feed.isSome then fp else e.rp b
  match aluVV op with
  | some f => .ok [.v d (f va vb)]
  | none =>
  match aluV op with
  | some f => field (b == 0) (.ok [.v d (f va)])
  | none =>
  match aluCmp op with
  | some f => field (decide (d ≤ 7)) (.ok [.p d (f va vb)])
  | none =>
  match aluCvt op with
  | some f => .ok [.v d (f va b)]
  | none =>
  match op with
  | 0x00 => field (d == 0 && a == 0 && b == 0) (.ok [])
  | 0x13 => field (decide (d ≤ 3)) (.ok [.w d (sat64 (e.rw' d + va.toInt * vb.toInt))])
  | 0x14 => field (decide (d ≤ 3)) (.ok [.w d (sat64 (e.rw' d - va.toInt * vb.toInt))])
  | 0x15 => field (decide (d ≤ 3)) (.ok [.w d (va ++ vb)])
  | 0x16 => field (decide (a ≤ 3)) (.ok [.v d (wext (e.rw' a) (vb.toNat % 64))])
  | 0x1C => field (decide (d ≤ 7 ∧ a ≤ 7 ∧ b ≤ 7)) (.ok [.p d (e.rp a && pb)])
  | 0x1D => field (decide (d ≤ 7 ∧ a ≤ 7 ∧ b ≤ 7)) (.ok [.p d (e.rp a || pb)])
  | 0x1E => field (decide (d ≤ 7 ∧ a ≤ 7) && b == 0) (.ok [.p d (!e.rp a)])
  | 0x1F => field (a == 0 && b == 0)
      (.ok [.v d (wn ((List.range 8).foldl (fun n i => if e.rp i then n + 2 ^ i else n) 0))])
  | 0x20 => field (d == 0 && b == 0) (.ok ((List.range 8).map (fun i => .p i (bit va i))))
  | 0x21 => field (decide (d ≤ 3) && b == 0) (.ok [.cur d va])
  | 0x22 => field (decide (a ≤ 3) && b == 0) (.ok [.v d (e.rt a).cur])
  | 0x23 =>
    let n := match e.img with | some i => i.descs.length | none => 0
    field (decide (d ≤ 3 ∧ a < n) && b == 0) (.ok [.bind d a])
  | 0x2B => .ok [.v d (fma (e.rv d) va vb)]
  | 0x2C => .ok [.v d (fms (e.rv d) va vb)]
  | _ => if 0x38 ≤ op then .ok [.v d (if e.rp (op - 0x38) then va else vb)] else .exc reservedOp

/-! ### Table memory (R244 to R246) -/

/-- Window of a bound pointer: base and length in bytes and WRAP. A BANK descriptor resolves through the
axis map and the bank in force at the strobe instant (R245). -/
def Dev.window (d : Dev) (n : Slot) (p : TPtr) : Option (Nat × Nat × Bool) :=
  match p.desc, d.eng[n].img with
  | some k, some i =>
    match i.descs[k]? with
    | some (.fixed wrap base len) => some (base, len, wrap)
    | some (.bank wrap swing arr) =>
      let m := d.sn (Reg.PRT_AXIS_MAP n)
      let ty := fld (d.sn (Reg.PRT_CFG n)) 1 0
      match toFin? 16 (if swing then fld m 7 4 else fld m 3 0) with
      | some x =>
        if (swing ∧ ty ≠ 1) ∨ (ty ≠ 0 ∧ ty ≠ 1) ∨ 2 < arr then none
        else some (bankTbl x (bit (d.sn (Reg.SAX_BANK_CTRL x)) 16) + 0x800 * arr, 2048, wrap)
      | none => none
    | _ => none
  | _, _ => none

/-- Element `i` of size `sz` of a window, after R246; `none` raises BOUNDS. -/
def elemAt (win : Nat × Nat × Bool) (sz : Nat) (i : Int) : Option Nat :=
  let n := win.2.1 / sz
  if win.2.2 then (if n = 0 then none else some (i % n).toNat)
  else if 0 ≤ i ∧ (i + 1) * sz ≤ win.2.1 then some i.toNat else none

/-- The bytes of an element, least significant first (R13). -/
def Dev.elem (d : Dev) (base sz k : Nat) : Nat := leNat ((List.range sz).map (fun j => BitVec.ofNat 8 (d.tb (base + k * sz + j))))

/-- LDT, LDTH, LDTHP: the destinations, or BOUNDS 1h. -/
def Dev.tableLoad (d : Dev) (n : Slot) (tp : Nat) (off : Int) (reg sz : Nat) (pair : Bool) : SlotOut :=
  let p := d.eng[n].rt tp
  match d.window n p with
  | none => .exc boundsTable
  | some win =>
    let i := p.cur.toInt + off
    let val := fun (k : Nat) => if sz = 4 then wn (d.elem win.1 4 k) else wi (sext 16 (d.elem win.1 2 k))
    match elemAt win sz i with
    | none => .exc boundsTable
    | some k =>
      if pair then
        let k2 := match elemAt win sz (i + 1) with | some k2 => k2 | none => k
        .ok [.v reg (val k), .v (reg + 1) (val k2)]
      else .ok [.v reg (val k)]

/-! ### The IO window (R249, R250) -/

/-- Some register of the block tables lies at `a` (R428). -/
def occupied (a : Nat) : Bool :=
  match findBlock blockRows a with
  | none => false
  | some (b, _) => (findRow b.rows ((a - b.base) % b.stride)).isSome

/-- Start and size in words of a unit 0 to 6; `none` where it is absent. -/
def Dev.ioUnit (d : Dev) (n : Slot) (u : Nat) : Option (Nat × Nat) :=
  let step := if d.stepFitted n then toFin? 12 (d.rdF (Reg.PRT_AXIS_MAP n) 11 8) else none
  match u with
  | 0 => some (Reg.PRT_STATE n, 512)
  | 1 => (d.slideAx n).map (fun (x : Sax) => (Reg.SAX_CTRL x, 512))
  | 2 => (d.swingAx n).map (fun (x : Sax) => (Reg.SAX_CTRL x, 512))
  | 3 => step.map (fun (x : Stx) => (Reg.STX_CTRL x, 512))
  | 4 => (d.slideAx n).map (fun (x : Sax) => (Reg.ENC_CFG x, 64))
  | 5 => (d.swingAx n).map (fun (x : Sax) => (Reg.ENC_CFG x, 64))
  | _ => step.map (fun (x : Stx) => (Reg.ENC_CFG (16 + x.val), 64))

/-- Offsets 300h to 34Ch of units 1 and 2. -/
def inForceWord (u off : Nat) : Bool := decide ((u = 1 ∨ u = 2) ∧ 0xC0 ≤ off ∧ off ≤ 0xD3)

/-- Register address of word `off` of units 0 to 6; `none` raises BOUNDS 3h. -/
def Dev.ioAddr (d : Dev) (n : Slot) (u off : Nat) : Option Nat :=
  match d.ioUnit n u with
  | none => none
  | some (base, size) =>
    if size ≤ off then none
    else if inForceWord u off then some (base + 4 * off)
    else if occupied (base + 4 * off) then some (base + 4 * off) else none

/-- Channels of a portal that exist. -/
def Dev.chansOf (d : Dev) (n : Slot) : List Nat := (d.portalChans n).filter (fun c => decide (c < 48))

/-- DINs that a map of portal n names, THERM included. -/
def Dev.dinsOf (d : Dev) (n : Slot) : List Nat :=
  (((List.range 12).map (d.role n) ++ [d.rdF (Reg.PRT_HEAT_CFG n) 31 24]).filter fitted).map (· % 128)

/-- A word of bits chosen by number: bit i is set where `32 k + i` is in `ns` and `f` holds of it. -/
def pickBits (k : Nat) (ns : List Nat) (f : Nat → Bool) : Word :=
  wn ((List.range 32).foldl (fun s i => if ns.contains (32 * k + i) && f (32 * k + i) then s + 2 ^ i else s) 0)

/-- Current tick index k of the last strobe. -/
def Dev.tickK (d : Dev) : Nat :=
  let n := d.ticksPerPos
  if n = 0 then 0 else (d.time.nextK + n - 1) % n

/-- Unit 7 loads (R249); `none` raises BOUNDS 3h. -/
def Dev.fieldLoad (d : Dev) (n : Slot) (off : Nat) : Option Word :=
  let edge := fun (b : Bool) => if d.edgeNo n b < 24 then d.snBand (d.edgeNo n b) else 0
  let time := match d.time.tc0 with | some o => (d.time.lastStrobe - o) % 2 ^ 64 | none => d.time.frozenTc
  if off < 3 then some (pickBits off (d.dinsOf n) (fun i => bit (d.sn (Reg.FIN_IN_LVL (i / 32))) (i % 32)))
  else if off < 6 then some (pickBits (off - 3) (d.dinsOf n) (fun i => bit (d.sn (Reg.FIN_IN_QUAL (i / 32))) (i % 32)))
  else if off = 6 then some (wn (edge false + 16 * edge true))
  else if off = 7 then some (wn ((d.release n).toNat + 2 * d.tlClose.toNat + 4 * d.tlZvel.toNat))
  else if off < 10 then some (pickBits (off - 8) (d.chansOf n) (fun c => d.fio.reqSnap.getD c false))
  else if off < 12 then some (pickBits (off - 10) (d.chansOf n) (fun c => bit (d.sn (Reg.FSW_HS_STATUS c)) 24))
  else if off = 12 then
    some (wn (d.rdF (Reg.ENG_STATUS n) 11 8 + 256 * (d.tickK % 64) + 2 ^ 16 * (d.rdB (Reg.ENG_STATUS n) 2).toNat))
  else if off = 13 then some (d.sn Reg.TBS_SAMPLE_TICK)
  else if off = 14 then some (wn time)
  else if off = 15 then some (wn (time / 2 ^ 32))
  else if off = 16 then some (wi (sfld (d.sn Reg.PWR_TEMP) 15 0))
  else if off = 17 ∨ (32 ≤ off ∧ off ≤ 61) ∨ (64 ≤ off ∧ off ≤ 127) then some 0
  else none

/-- A register's value for an IO load: as it stood at the strobe instant; write-only bits read 0 (R16). -/
def Dev.ioLoad (d : Dev) (n : Slot) (u off : Nat) : Option Word :=
  if u = 7 then d.fieldLoad n off
  else
    match d.ioAddr n u off with
    | none => none
    | some a =>
      if inForceWord u off then
        match (if u = 1 then d.slideAx n else d.swingAx n) with
        | some x => some (d.sn (bankAddr x (bit (d.sn (Reg.SAX_BANK_CTRL x)) 16) (off - 0xC0)))
        | none => none
      else
        match regAt a with
        | none => some 0
        | some r => some (d.sn a &&& ~~~ r.woMask)

/-- Registers that their chapter names as written by the program, by unit and byte offset (log 55). The step task's part
of STXn.STATUS and FLAGS stands in `stepStore`. -/
def progWritten (u o : Nat) : Bool :=
  match u with
  | 0 => decide (o = 0x00 ∨ o = 0x0C ∨ o = 0x3C ∨ (0x40 ≤ o ∧ o ≤ 0x6C) ∨ (0x120 ≤ o ∧ o ≤ 0x14C))
  | 1 | 2 => decide (o = 0x34 ∨ (0x68 ≤ o ∧ o ≤ 0x7C))
  | 3 => decide (o = 0x64 ∨ o = 0x68)
  | _ => false

/-- The assigned bits of a register that the program writes; the others are reserved and keep reading 0 (R18). -/
def progMask (u o : Nat) : Word :=
  if u = 0 ∧ o = 0x00 then 0x0FFFFF7F
  else if u = 0 ∧ o = 0x3C then 0xFFFFFF07
  else if u = 0 ∧ o = 0x120 then 0xFFFFE777
  else 0xFFFFFFFF

/-- What the step task writes of STXn.STATUS, the EMF bits, and of FLAGS, STALL and SRC_LOST (R202, R203, log 55). -/
def Dev.stepStore (d : Dev) (n : Stx) (o : Nat) (v : Word) : Option Dev :=
  if o = 0x04 then some (d.wrF (Reg.STX_STATUS n) 10 9 (fld v 10 9))
  else if o = 0x08 then
    let d := if bit v 0 then d.raiseStx n 0 else d
    some (if bit v 1 then d.raiseStx n 1 else d)
  else none

/-- The motion page and CTRL of an axis, as a program writes them: MV_TGT, MV_ATTR, MV_TGT2, MCMD (R121),
CMPi_POS and ARM bits, LATCH_CFG.ARM, EN. `none` where the offset is none of these. -/
def Dev.axisStore (d : Dev) (a : Axis) (o : Nat) (v : Word) : Option Dev :=
  if o = 0x140 then some (d.wr (Reg.MOT_MV_TGT a) v)
  else if o = 0x144 then some (d.wr (Reg.MOT_MV_ATTR a) (v &&& 0xFFFFF))
  else if o = 0x148 then some (d.wr (Reg.MOT_MV_TGT2 a) v)
  else if o = 0x150 then some (d.mcmdTake a (fld v 3 0) true)
  else if 0x180 ≤ o ∧ o < 0x190 ∧ o % 4 = 0 then some (d.wr (Reg.MOT_CMP_POS a ((o - 0x180) / 4)) v)
  else if 0x190 ≤ o ∧ o < 0x1A0 ∧ o % 4 = 0 then some (d.cmpArmWrite a ((o - 0x190) / 4) (bit v 15))
  else if o = 0x1A0 then some (d.wrB (Reg.MOT_LATCH_CFG a) 15 (bit v 15))
  else if o = 0x04 ∨ o = 0x08 then (stxOf a).bind (fun (n : Stx) => d.stepStore n o v)
  else if o = 0x000 then
    some (match saxOf a, stxOf a with
      | some n, _ => if d.axEn a = bit v 0 then d else d.servoEn n (bit v 0)
      | _, some n => if d.axEn a = bit v 0 then d else d.stepEn n (bit v 0)
      | _, _ => d)
  else none

/-- HS_REQ_STORE (R249): `none` raises BOUNDS 3h and nothing is stored. A lock request goes to the lock
group (R41). -/
def Dev.hsReqStore (d : Dev) (n : Slot) (hi : Bool) (v : Word) : Option Dev :=
  let k := hi.toNat
  let mine := (d.chansOf n).filter (fun c => c / 32 == k)
  if (List.range 32).any (fun i => bit v i && !mine.contains (32 * k + i)) then none
  else
    let lock := d.rdF (Reg.PRT_OUTPUT_MAP n) 5 0
    some (mine.foldl (fun (d : Dev) (c : Nat) =>
      if c = lock then d.lockRequest n (bit v (c % 32)) else d.progReq c (bit v (c % 32))) d)

/-- A store to a publication slot of the portal's slide axis (R164, log 56); hardware nodes are ignored. -/
def Dev.pubStore (d : Dev) (n : Slot) (node : Nat) (v : Word) : Dev :=
  match d.slideAx n with
  | some x => if 9 ≤ node ∧ node ≤ 0x17 then d.modServo x (fun s => { s with pub := s.pub.set (node - 9) v }) else d
  | none => d

/-- A store of 1 to SURR_REQ: the portal is surrendered at the next strobe instant; ignored in Solo (R249, R288). -/
def Dev.surrStore (d : Dev) (n : Slot) : Dev :=
  if d.solo then d else d.modEng n (fun e => { e with surrReq := true })

/-- Unit 7 stores; `none` raises BOUNDS 3h. -/
def Dev.fieldStore (d : Dev) (n : Slot) (off : Nat) (v : Word) : Option Dev :=
  if off = 8 ∨ off = 9 then d.hsReqStore n (off == 9) v
  else if off < 17 then some d
  else if off = 17 then some (if bit v 0 then d.surrStore n else d)
  else if 32 ≤ off ∧ off ≤ 61 then some (d.pubStore n (off - 32) v)
  else if 64 ≤ off ∧ off ≤ 127 then some (d.mbxStore n (off - 64) v)
  else none

/-- The generator behind units 1 to 3. -/
def Dev.unitAxis (d : Dev) (n : Slot) (u : Nat) : Option Axis :=
  match u with
  | 1 => (d.slideAx n).map Sax.axis
  | 2 => (d.swingAx n).map Sax.axis
  | 3 => (if d.stepFitted n then toFin? 12 (d.rdF (Reg.PRT_AXIS_MAP n) 11 8) else none).map Stx.axis
  | _ => none

/-- The store goes to a duty shadow register (R31). -/
def dutyWord (u off : Nat) : Bool := decide ((u = 1 ∨ u = 2) ∧ 0x10 ≤ off ∧ off ≤ 0x12)

/-- An IO store, or its exception. A store that no chapter names as the program's is ignored (R250). The
OWNER bits of PRTn.STATE are not the program's. -/
def Dev.ioStore (d : Dev) (n : Slot) (u off : Nat) (v : Word) : Dev × Option Exc :=
  let or' := fun (r : Option Dev) => match r with | some d' => (d', none) | none => (d, some boundsIo)
  if u = 7 then or' (d.fieldStore n off v)
  else
    match d.ioAddr n u off with
    | none => (d, some boundsIo)
    | some a =>
      if dutyWord u off then
        if d.time.shadowClosed then (d, some (1, 2)) else (d.wr a (v &&& 0xFFFF), none)
      else
        match (d.unitAxis n u).bind (fun (x : Axis) => d.axisStore x (4 * off) v) with
        | some d' => (d', none)
        | none =>
          if progWritten u (4 * off) then
            (d.wr a (if u = 0 ∧ off = 0 then setFld (v &&& progMask u 0) 17 16 (d.owner n) else v &&& progMask u (4 * off)), none)
          else (d, none)

/-- SHADOW_LATE on the axis of a late duty store (R31, R161). -/
def Dev.lateFlag (d : Dev) (n : Slot) (u : Nat) : Dev :=
  match (if u = 1 then d.slideAx n else d.swingAx n) with
  | some x => d.raiseSax x 5
  | none => d

/-! ### The MEM slot (R243) -/

/-- What a MEM slot does: its result, a data-memory store, an IO store, END, its charge, what it reads
under the error-correcting code: 0 nothing, 2 data memory, 3 table memory; and the value registers that it names as
destinations, whether or not it raises a cause. -/
structure MemOut where
  out : SlotOut := .ok []
  dst : Option (Nat × Word) := none
  io : Option (Nat × Nat × Word) := none
  fin : Bool := false
  charge : Nat := 1
  reads : Nat := 0
  names : List Nat := []
  deriving DecidableEq, Repr

/-- A data-memory word. -/
def Engine.dm (e : Engine) (a : Nat) : Word := Cells.read zeroCell e.data a

/-- One MEM slot on the registers as they stood before the word. -/
def Dev.memOp (d : Dev) (n : Slot) (slot : Nat) : MemOut :=
  let e := d.eng[n]
  let mop := slot / 2 ^ 16 % 16
  let reg := slot / 2 ^ 11 % 32
  let tp := slot / 2 ^ 9 % 4
  let off := slot % 2 ^ 9
  let soff := sext 9 off
  let x := e.rv reg
  let page := tp * 512 + off
  let idx : Int := (e.rt tp).cur.toInt + off
  let inData := decide (0 ≤ idx ∧ idx ≤ 4095)
  let load := fun (a : Nat) => ({ out := .ok [.v reg (e.dm a)], reads := 2, names := [reg] } : MemOut)
  let io := fun (u : Nat) => match d.ioLoad n u off with | some w => SlotOut.ok [.v reg w] | none => .exc boundsIo
  match mop with
  | 0x0 => { out := field (tp == 0 && off == 0) (.ok []) }
  | 0x1 => load page
  | 0x2 => load (2048 + page)
  | 0x3 => { dst := some (page, x) }
  | 0x4 => { dst := some (2048 + page, x) }
  | 0x5 => if inData then load idx.toNat else { out := .exc boundsData, names := [reg] }
  | 0x6 => if inData then { dst := some (idx.toNat, x) } else { out := .exc boundsData }
  | 0x7 => { out := d.tableLoad n tp soff reg 4 false, charge := 3, reads := 3, names := [reg] }
  | 0x8 => { out := d.tableLoad n tp soff reg 2 false, charge := 3, reads := 3, names := [reg] }
  | 0x9 => { out := field (reg % 2 == 0 && reg != 0) (d.tableLoad n tp soff reg 2 true), charge := 5, reads := 3, names := [reg, reg + 1] }
  | 0xA => { out := io tp, charge := 2, names := [reg] }
  | 0xB => { out := io (4 + tp), charge := 2, names := [reg] }
  | 0xC => { io := some (tp, off, x) }
  | 0xD => { io := some (4 + tp, off, x) }
  | 0xF => { out := field (tp == 0 && off == 0) (.ok []), fin := true }
  | _ => { out := .exc reservedOp }

/-! ### One word (R223, R229, R251) -/

/-- The lowest CODE, and the lowest SUB of it. -/
def worst : List Exc → Option Exc
  | [] => none
  | x :: xs => match worst xs with
    | none => some x
    | some y => if x.1 < y.1 ∨ (x.1 = y.1 ∧ x.2 ≤ y.2) then some x else some y

/-- Two destinations of one word name the same register. -/
def collide : List Put → Bool
  | [] => false
  | p :: ps => ps.any (fun q => q.key == p.key) || collide ps

/-- What a word asks for before its destinations are compared: slot results and the MEM slot's. -/
structure WordOut where
  alus : List SlotOut
  mem : MemOut
  excs : List Exc
  deriving DecidableEq, Repr

/-- Decode and compute a word (R235, R236). -/
def Dev.wordOut (d : Dev) (n : Slot) (w : DWord) : WordOut :=
  let e := d.eng[n]
  let s0 := wfld w 61 41
  match wfld w 63 62 with
  | 0 => ⟨[e.alu none false s0, e.alu none false (wfld w 40 20)], d.memOp n (wfld w 19 0), []⟩
  | 1 =>
    let imm := wn (wfld w 40 9)
    let dest := wfld w 8 4
    match wfld w 3 0 with
    | 0 => ⟨[e.alu none false s0, .ok [.v dest imm]], {}, []⟩
    | 1 => ⟨[e.alu (some imm) (d.free 1600 2 == 1) s0], {}, if s0 % 32 = 0 ∧ dest = 0 then [] else [reservedField]⟩
    | _ => ⟨[e.alu none false s0], {}, [reservedField]⟩
  | _ => ⟨[], {}, [reservedOp]⟩

/-- The task in progress on an engine that runs. -/
def Dev.taskOn (d : Dev) (n : Slot) : Option TaskDesc := if d.engRun n then d.eng[n].task else none

/-- Every destination that a word names. -/
def WordOut.puts (o : WordOut) : List Put := o.alus.flatMap SlotOut.puts ++ o.mem.out.puts

/-- Two slots of the word name the same register (R252): a destination counts although its slot raises a cause. -/
def WordOut.clash (o : WordOut) : Bool :=
  collide o.puts || o.mem.names.any (fun r => (o.alus.flatMap SlotOut.puts).any (fun p => p.key == (0, r)))

/-- The IO store of a word, if it has one: the controller after it, and its exception. -/
def Dev.wordIo (d : Dev) (n : Slot) (o : WordOut) : Dev × Option Exc :=
  match o.mem.io with
  | some (u, off, x) => d.ioStore n u off x
  | none => (d, none)

/-- Every cause that a word raises (R223, R229, R252): those of its slots, two destinations of one name, the budget of
its task, and the error-correcting code. -/
def Dev.wordExcs (d : Dev) (env : WordEnv) (task : TaskDesc) (o : WordOut) : List Exc :=
  let words := d.eng[env.eng].words + o.mem.charge
  let budget := if o.mem.fin then decide (task.wcet < words) else decide (task.wcet ≤ words)
  o.excs ++ o.alus.flatMap SlotOut.excs ++ o.mem.out.excs ++ (d.wordIo env.eng o).2.toList
    ++ (if o.clash then [reservedField] else []) ++ (if budget then [(1, 1)] else [])
    ++ (if o.mem.reads != 0 && decide (env.read = .bad) then [(4, o.mem.reads)] else [])

/-- A word raises a cause: nothing of it is written; a late duty store sets SHADOW_LATE. -/
def Dev.wordRaise (d : Dev) (n : Slot) (o : WordOut) (x : Exc) : Dev :=
  let d := if (d.wordIo n o).2 = some (1, 2) then d.lateFlag n (match o.mem.io with | some q => q.1 | none => 1) else d
  d.engException n x.1 x.2

/-- A word raises nothing: all of its destinations and stores are written, its charge counts, and END ends the task. -/
def Dev.wordRetire (d : Dev) (env : WordEnv) (o : WordOut) : Dev :=
  let n := env.eng
  let d := (d.wordIo n o).1.modEng n (fun e =>
    let e := o.puts.foldl Engine.put e
    let e := match o.mem.dst with
      | some (a, x) => { e with data := Cells.write zeroCell e.data a x }
      | none => e
    { e with pc := e.pc + 1, words := e.words + o.mem.charge, tickWords := e.tickWords + o.mem.charge })
  let d := if o.mem.reads = 2 ∧ env.read = .corrected then d.eccCorrected n false else d
  if o.mem.fin then
    let d := d.modEng n (fun e => { e with task := none })
    if d.eng[n].rest.isEmpty then d.tickDone n (d.now - d.time.lastStrobe) d.eng[n].tickWords
    else d.startTask n env.sel env.entry
  else d

/-- Execute the word `w`, as program memory holds it, as the next word of the task in progress on the engine. No effect where the engine
does not run or no task is in progress. -/
def Dev.runWord (d0 : Dev) (env : WordEnv) (w : DWord) : Dev :=
  let n := env.eng
  let d := d0.upTo env.t
  match d.taskOn n with
  | some task =>
    let d := d.modEng n (fun e => { e with stepping := true })
    if 3071 < d.eng[n].pc then d.engException n 2 1
    else if env.fetch = .bad then d.engException n 4 1
    else
      let d := if env.fetch = .corrected then d.eccCorrected n true else d
      let o := d.wordOut n (env.code.apply w)
      match worst (d.wordExcs env task o) with
      | some x => d.wordRaise n o x
      | none => d.wordRetire env o
  | none => d

/-- A BASIC word whose ALU0 slot is the named opcode. -/
def Dev.runAlu (d : Dev) (env : WordEnv) (op : Nat) (dd a b : BitVec 5) (x : WithAlu0) : Dev :=
  d.runWord env (basicWord (aluSlot op dd a b) x.alu1 x.mem)

/-- A BASIC word whose MEM slot is the named opcode. -/
def Dev.runMem (d : Dev) (env : WordEnv) (mop : Nat) (reg : BitVec 5) (tp : BitVec 2) (off : BitVec 9) (x : WithMem) : Dev :=
  d.runWord env (basicWord x.alu0 x.alu1 (memSlot mop reg tp off))

/-- MOVI and FEED (R236). -/
def Dev.runLimm (d : Dev) (env : WordEnv) (alu0 : BitVec 21) (imm : Word) (dest : BitVec 5) (imop : Nat) : Dev :=
  d.runWord env (limmWord alu0 imm dest imop)

/-- The HS_REQ_STORE row: the store alone, with its BOUNDS exception. -/
def Dev.hsReqRow (d : Dev) (n : Slot) (hi : Bool) (v : Word) : Dev :=
  if d.engRun n then
    match d.hsReqStore n hi v with
    | some d => d
    | none => d.engException n 3 3
  else d

end Sys2Proof.Machine
end

