-- ==== Sys2Proof/Machine/Security.lean ====
section
/-!
DEFINITION. The security sequencer (spec/14): OTP and what the registers show of it, bundles and their slots,
attestation, maintenance sessions and gated writes, life-cycle orders and JTAG. Published algorithms are
constants of Config. `gate` says that a write came as a WRITE_G whose counter and tag were accepted (R346,
R368).
-/

namespace Sys2Proof.Machine

/-! ### What the registers show -/

def Dev.slotOf (d : Dev) (b : Bool) : BSlot := if b then d.sec.slotB else d.sec.slotA
def Dev.setSlot (d : Dev) (b : Bool) (s : BSlot) : Dev :=
  d.modSec (fun x => if b then { x with slotB := s } else { x with slotA := s })

/-- State of owner slot i (R337). -/
def Dev.keyState (d : Dev) (i : Nat) : Nat := ((d.sec.otp.owner[i]?).getD (0, 0)).2
def Dev.keyHash (d : Dev) (i : Nat) : Nat := ((d.sec.otp.owner[i]?).getD (0, 0)).1

/-- A slot may serve as the fallback (R341). -/
def Dev.fallbackOk (d : Dev) : Bool :=
  d.sec.taken && (d.slotOf (!d.sec.inForceB)).valid && decide (d.sec.otp.svn ≤ (d.slotOf (!d.sec.inForceB)).svn)
    && d.sec.pending != (if d.sec.inForceB then 1 else 2)

/-- SEC.STATUS, SVN_COUNT, SLOT_A, SLOT_B, KEYSLOTS, LCS.STATE and SGEN follow the sequencer (R354). -/
def Dev.showSec (d : Dev) : Dev :=
  let s := d.sec
  let slotW := fun (b : BSlot) => wn ((if b.valid then 2 ^ 31 else 0) + b.svn % 256)
  let d := d.wr Reg.SEC_STATUS (wn (d.fallbackOk.toNat * 128 + s.pending % 4 * 32 + s.inForceB.toNat * 16
    + s.verifying.toNat * 4 + s.loading.toNat * 2 + s.session.isSome.toNat))
  let d := ((d.wr Reg.SEC_SVN_COUNT (wn s.otp.svn)).wr Reg.SEC_SLOT_A (slotW s.slotA)).wr Reg.SEC_SLOT_B (slotW s.slotB)
  let d := d.wr Reg.SEC_KEYSLOTS (wn ((List.range 4).foldl (fun n i => n + d.keyState i * 4 ^ i) 0))
  let d := d.wr Reg.LCS_STATE (wn (s.otp.wipePending.toNat * 2 ^ 16 + s.otp.log.length * 256 + d.lcState))
  d.wr Reg.LCS_SGEN (wn s.otp.sgen)

/-- Bytes of the message buffer, and their replacement. -/
def Dev.msgBytes (d : Dev) (ofs n : Nat) : List Byte :=
  (((List.range 256).flatMap (fun i => leBytes 4 (d.rd (Reg.SEC_MSG_BUF i)).toNat)).drop ofs).take n
def Dev.msgPut (d : Dev) (bytes : List Byte) : Dev :=
  (wordsOf ((bytes.length + 3) / 4) bytes).zipIdx.foldl (fun (d : Dev) p => if p.2 < 256 then d.wr (Reg.SEC_MSG_BUF p.2) p.1 else d) d

/-- MSG_STATUS: RESULT and BUSY. -/
def Dev.msgResult (d : Dev) (r : Nat) : Dev := d.wr Reg.SEC_MSG_STATUS (wn (r * 256))
def Dev.msgBusy (d : Dev) (j : SecJob) : Dev :=
  (d.modSec (fun s => { s with job := some j })).wrB Reg.SEC_MSG_STATUS 0 true
def Dev.msgDone (d : Dev) (r : Nat) : Dev := (d.modSec (fun s => { s with job := none })).msgResult r

/-- LOAD_RESULT of a failure, with LOAD_FAIL. -/
def Dev.loadFail (d : Dev) (code sect eng : Nat) : Dev :=
  (d.wr Reg.SEC_LOAD_RESULT (wn (2 ^ 31 + eng * 2 ^ 16 + sect * 256 + code))).raiseLoadFail code

/-! ### Accepted keys (R337) -/

def ownerForBundle (st : Nat) : Bool := st == 1 || st == 2
def ownerForToken (st : Nat) : Bool := st == 1 || st == 2 || st == 3
def vendorForToken (st : Nat) : Bool := st == 3
def ownerForOrder (st : Nat) : Bool := st == 1 || st == 2 || st == 3
def vendorForOrder (st : Nat) : Bool := st == 0 || st == 3

/-! ### The bundle (R338) -/

def BSlot.byte (s : BSlot) (i : Nat) : Byte := Cells.read zeroCell s.bytes i
def BSlot.sub (s : BSlot) (ofs n : Nat) : List Byte := Cells.readRun zeroCell 1 s.bytes ofs n
def BSlot.num (s : BSlot) (ofs n : Nat) : Nat := leNat (s.sub ofs n)

def BSlot.nsect (s : BSlot) : Nat := s.num 18 1
def BSlot.hdrLen (s : BSlot) : Nat := s.num 6 2
def BSlot.total (s : BSlot) : Nat := s.num 8 4
def BSlot.keySlot (s : BSlot) : Nat := s.num 17 1
def BSlot.hdrSvn (s : BSlot) : Nat := s.num 20 1
def BSlot.pubkey (s : BSlot) : List Byte := s.sub 32 64
/-- SHA-256 of the header, which BUNDLE_DIGEST and HEALTH carry. -/
def BSlot.digest (s : BSlot) : Nat := Config.sha256 (s.sub 0 s.hdrLen)

/-- The section table. -/
def BSlot.sections (s : BSlot) : List Section :=
  (List.range s.nsect).map (fun i =>
    let o := 96 + 48 * i
    ⟨s.num o 1, s.num (o + 1) 1, s.num (o + 2) 1 % 2 == 1, s.num (o + 4) 4, s.num (o + 8) 4, s.num (o + 16) 32⟩)

def Section.bytes (x : Section) (s : BSlot) : List Byte := s.sub x.ofs x.len

/-- Every byte below `n` was written: extend the covered prefix range by range. -/
def covered (n : Nat) (rs : List (Nat × Nat)) : Nat → Nat → Bool
  | 0, p => decide (n ≤ p)
  | f + 1, p =>
    if n ≤ p then true
    else
      match rs.find? (fun r => decide (r.1 ≤ p ∧ p < r.1 + r.2)) with
      | some r => covered n rs f (r.1 + r.2)
      | none => false

/-- Step 1. -/
def BSlot.formatOk (s : BSlot) : Bool :=
  let ss := s.sections
  s.num 0 4 == 0x31424847 && s.num 4 2 == 1 && decide (2 ≤ s.nsect ∧ s.nsect ≤ 40)
    && s.hdrLen == 160 + 48 * s.nsect && decide (s.hdrLen ≤ s.total ∧ s.total ≤ 8 * 2 ^ 20)
    && ss.all (fun x => x.ofs % 8 == 0 && decide (s.hdrLen ≤ x.ofs ∧ x.ofs + x.len ≤ s.total))
    && ss.zipIdx.all (fun p => ss.zipIdx.all (fun q => p.2 == q.2
        || decide (p.1.ofs + p.1.len ≤ q.1.ofs) || decide (q.1.ofs + q.1.len ≤ p.1.ofs)))

/-- The KEYWRAP section, with its number. -/
def BSlot.keyWrap (s : BSlot) : Option (Section × Nat) := s.sections.zipIdx.find? (fun p => p.1.typ == 5)

/-- The content key (R343): as stored under the storage key, which the present SGEN must still derive; in a slot not yet
verified, unwrapped with the ECDH value of the identity key. -/
def Dev.contentKey (d : Dev) (s : BSlot) : Option Nat :=
  match s.wrapped with
  | some w => if w.gen = d.sec.otp.sgen then some w.key else none
  | none =>
    match d.identityKey, s.keyWrap with
    | some k, some (x, _) =>
      let b := x.bytes s
      (Config.gcmOpen (Config.hmacSha256 (Config.ecdh k (b.take 64)) []) (b.drop 64)).map leNat
    | _, _ => none

/-- The slot with its content key re-wrapped under the storage key in place of KEYWRAP as it arrived (R343, log 148). -/
def Dev.rewrap (d : Dev) (s : BSlot) : BSlot :=
  match d.contentKey s, s.keyWrap with
  | some k, some (x, _) =>
    let b := Config.gcmSeal d.storageKey (leBytes 32 k)
    { s with
      wrapped := some ⟨d.sec.otp.sgen, k⟩
      bytes := Cells.writeRun zeroCell 1 s.bytes x.ofs ((b ++ List.replicate x.len 0).take x.len) }
  | _, _ => s

/-- Plaintext of a section. -/
def Section.plain (x : Section) (s : BSlot) (key : Option Nat) : Option (List Byte) :=
  if x.enc then key.bind (fun k => Config.gcmOpen k (x.bytes s)) else some (x.bytes s)

/-- What a verified bundle carries. -/
structure Bundle where
  engines : List (Nat × EngImage)
  banks : List (Nat × BankImage)
  map : IlkMap
  config : ConfigImage
  deriving DecidableEq, Repr

/-- Sections of type `t` as (index, parsed content); `none` where one does not parse. -/
def parseAll {α : Type} (s : BSlot) (key : Option Nat) (t : Nat) (f : List Byte → Option α) : Option (List (Nat × α)) :=
  (s.sections.filter (fun x => x.typ == t)).foldr (fun x acc =>
    match acc, (x.plain s key).bind f with
    | some l, some v => some ((x.idx, v) :: l)
    | _, _ => none) (some [])

/-- An engine image and an interlock map, each with the SHA-256 of its section's plaintext as its digest (R85, R233). -/
def engineImage (b : List Byte) : Option EngImage := (Config.engineOf b).map (fun i => { i with digest := Config.sha256 b })
def lockMap (b : List Byte) : Option IlkMap := (Config.ilkMapOf b).map (fun m => { m with digest := Config.sha256 b })

/-- The contents of a slot, parsed. -/
def Dev.bundleOf (d : Dev) (s : BSlot) : Option Bundle :=
  let key := d.contentKey s
  match parseAll s key 1 engineImage, parseAll s key 2 Config.banksOf, parseAll s key 3 lockMap,
      parseAll s key 4 Config.configOf with
  | some es, some bs, some [m], some [c] => some ⟨es, bs, m.2, c.2⟩
  | _, _, _, _ => none

/-- Step 10 (R338): a section that the section-type table does not allow beside those before it. -/
def Section.allowed (x : Section) (before : List Section) (enc : Bool) : Bool :=
  match x.typ with
  | 1 => decide (x.idx ≤ 11) && !before.any (fun y => y.typ == 1 && y.idx == x.idx)
  | 2 => decide (x.idx ≤ 15) && !before.any (fun y => y.typ == 2 && y.idx == x.idx)
  | 3 => !before.any (fun y => y.typ == 3)
  | 4 => !before.any (fun y => y.typ == 4)
  | 5 => enc && !before.any (fun y => y.typ == 5)
  | 6 => decide (x.len ≤ 4096)
  | _ => false

/-- Step 10 (R338): the section that breaks the counts of the section-type table; 0 where one is missing (log 136). -/
def BSlot.badCount (s : BSlot) : Option Nat :=
  let ss := s.sections
  let enc := ss.any (·.enc)
  let has := fun (t : Nat) => ss.any (fun x => x.typ == t)
  match ss.zipIdx.find? (fun p => !p.1.allowed (ss.take p.2) enc) with
  | some p => some p.2
  | none => if has 3 && has 4 && (has 5 || !enc) then none else some 0

/-- The first section that fails `f`, by its number. -/
def BSlot.badSection (s : BSlot) (f : Section → Bool) : Option Nat :=
  (s.sections.zipIdx.find? (fun p => !f p.1)).map (·.2)

/-- The sections of type `t` that `ok` refuses, by number and index, an unreadable one among them. -/
def Dev.sectionsFailing (d : Dev) (s : BSlot) (t : Nat) (ok : List Byte → Bool) : List (Nat × Nat) :=
  let key := d.contentKey s
  (s.sections.zipIdx.filter (fun p => p.1.typ == t && !((p.1.plain s key).map ok).getD false)).map (fun p => (p.2, p.1.idx))

/-- Engine images that fail step 11 or 12: code, section, engine. One that does not parse fails some check of step 11
(log 136). -/
def Dev.engineFails (d : Dev) (s : BSlot) : List (Nat × Nat × Nat) :=
  let key := d.contentKey s
  s.sections.zipIdx.filterMap (fun p =>
    if p.1.typ = 1 then
      match (p.1.plain s key).bind engineImage with
      | none => some (0x20 + d.free 503 7, p.2, p.1.idx)
      | some i => (i.check p.1.idx d.pwmP d.spdDiv).map (fun c => (c, p.2, p.1.idx))
    else none)

/-- The KEYWRAP section where it does not unwrap, else the first ENC section whose tag is not valid (step 9). -/
def Dev.decryptFails (d : Dev) (s : BSlot) : Option Nat :=
  match s.keyWrap, d.contentKey s with
  | some (_, i), none => some i
  | _, key => s.badSection (fun x => (x.plain s key).isSome)

/-- Verification in the order of R340: CODE, section and engine; CODE 0 is success. -/
def Dev.verify (d : Dev) (s : BSlot) : Nat × Nat × Nat :=
  if !s.formatOk then (0x01, 0, 0)
  else if s.total ≠ s.len ∨ covered s.total s.written (s.written.length + 1) 0 = false then (0x09, 0, 0)
  else if s.num 12 4 ≠ 0x1216 ∨ 3 < s.num 16 1 then (0x02, 0, 0)
  else if !ownerForBundle d.lcState then (0x0B, 0, 0)
  else if 3 < s.keySlot ∨ d.keyState s.keySlot ≠ 1 ∨ Config.sha256 s.pubkey ≠ d.keyHash s.keySlot then (0x03, 0, 0)
  else if !Config.ecdsaValid s.pubkey (Config.sha256 (s.sub 0 (s.hdrLen - 64))) (s.sub (s.hdrLen - 64) 64) then (0x05, 0, 0)
  else if s.hdrSvn < d.sec.otp.svn then (0x06, 0, 0)
  else
    match s.badSection (fun x => Config.sha256 (x.bytes s) == x.digest || (x.typ == 5 && s.wrapped.isSome)) with
    | some i => (0x07, i, 0)
    | none =>
      match d.decryptFails s with
      | some i => (0x08, i, 0)
      | none =>
        match s.badCount, d.sectionsFailing s 4 (fun b => (Config.configOf b).isSome) ++ d.sectionsFailing s 2 (fun b => (Config.banksOf b).isSome) with
        | some i, _ => (0x10, i, 0)
        | none, x :: _ => (0x10, x.1, 0)
        | none, [] =>
          let fails := d.engineFails s
          match fails.find? (fun f => f.1 != 0x27) with
          | some f => f
          | none =>
            match fails, d.sectionsFailing s 3 (fun b => ((lockMap b).map IlkMap.ok).getD false) with
            | f :: _, _ => f
            | [], x :: _ => (0x28, x.1, 0)
            | [], [] => (0, 0, 0)

/-! ### Loading (R339 to R341) -/

/-- The slot that a load goes to: neither in force nor pending. -/
def Dev.freeSlot (d : Dev) : Option Bool :=
  let busy := fun (b : Bool) => (d.sec.taken && d.sec.inForceB == b) || d.sec.pending == (if b then 2 else 1)
  if !busy false then some false else if !busy true then some true else none

/-- The slot being loaded or verified. -/
def Dev.loadSlot (d : Dev) : Bool := (d.freeSlot).getD (!d.sec.inForceB)

/-- A load in progress is aborted and its slot left invalid. -/
def Dev.loadAbort (d : Dev) (code : Nat) : Dev :=
  if d.sec.loading || d.sec.verifying then
    let b := d.loadSlot
    let d := d.setSlot b { d.slotOf b with valid := false }
    let d := d.modSec (fun s => { s with loading := false, verifying := false, programming := false })
    (d.loadFail code 0 0).showSec
  else d

/-- LOAD_BEGIN. -/
def Dev.loadBegin (d : Dev) (gate : Bool) : Dev :=
  if !(gate && d.hasRight 3) then d.loadFail 0x0A 0 0
  else
    let n := (d.rd Reg.SEC_LOAD_LEN).toNat
    match d.freeSlot with
    | none => d
    | some b =>
      if d.sec.verifying || n < 1 || 8 * 2 ^ 20 < n then d
      else
        let d := d.setSlot b { len := n }
        (d.modSec (fun s => { s with loading := true, wiped := s.wiped.filter (· != b.toNat) })).showSec

/-- LOAD_WIN_WRITE: bytes at offset `o` of the window. -/
def Dev.loadWindow (d : Dev) (o : Nat) (bytes : List Byte) (gate : Bool) : Dev :=
  if !(gate && d.hasRight 3) then d.loadFail 0x0A 0 0
  else if d.sec.loading then
    let b := d.loadSlot
    let s := d.slotOf b
    let at' := (d.rd Reg.SEC_LOAD_OFS).toNat + o
    (d.setSlot b { s with
      bytes := Cells.writeRun zeroCell 1 s.bytes at' bytes, written := s.written ++ [(at', bytes.length)] }).modSec
      (fun x => { x with programming := true })
  else d

/-- A program operation of the bundle slot ends: the part is in NAND, or the load fails with 0Ch. -/
def Dev.loadProgrammed (d : Dev) (ok : Bool) : Dev :=
  if ok then d.modSec (fun s => { s with programming := false }) else d.loadAbort 0x0C

/-- LOAD_END. -/
def Dev.loadEnd (d : Dev) (gate : Bool) : Dev :=
  if !(gate && d.hasRight 3) then d.loadFail 0x0A 0 0
  else if d.sec.loading then (d.modSec (fun s => { s with loading := false, verifying := true })).showSec
  else d

/-- LOAD_ABORT. -/
def Dev.loadAbortCmd (d : Dev) (gate : Bool) : Dev :=
  if !(gate && d.hasRight 3) then d.loadFail 0x0A 0 0 else d.loadAbort 0x0D

/-- BUNDLE_VERIFY: verification of the slot ends. -/
def Dev.bundleVerify (d : Dev) : Dev :=
  if d.sec.verifying then
    let b := d.loadSlot
    let s := d.slotOf b
    let d := d.modSec (fun x => { x with verifying := false })
    match d.verify s with
    | (0, _, _) =>
      let d := d.setSlot b { d.rewrap s with valid := true, svn := s.hdrSvn }
      let d := d.modSec (fun x => { x with pending := if b then 2 else 1 })
      ((d.wr Reg.SEC_LOAD_RESULT 0).raiseSec 0).showSec
    | (c, i, e) => ((d.setSlot b { s with valid := false }).loadFail c i e).showSec
  else d

/-- REVERT: a valid fallback becomes PENDING. -/
def Dev.revert (d : Dev) (gate : Bool) : Dev :=
  if !(gate && d.hasRight 3) then d.loadFail 0x0A 0 0
  else if d.fallbackOk then (d.modSec (fun s => { s with pending := if s.inForceB then 1 else 2 })).showSec
  else d

/-- SVN_COMMIT (R342). -/
def Dev.svnCommit (d : Dev) (gate : Bool) : Dev :=
  if !(gate && d.hasRight 3) then d.loadFail 0x0A 0 0
  else
    let s := d.slotOf d.sec.inForceB
    let carried := (s.sections.filter (fun x => x.typ == 1)).map (·.idx)
    if d.sec.taken && slots.all (fun n => !carried.contains n.val || d.engRun n) then
      let n := max d.sec.otp.svn (min 64 s.svn)
      let inval := fun (b : BSlot) => { b with valid := b.valid && decide (n ≤ b.svn) }
      let d := d.modSec (fun x => { x with otp := { x.otp with svn := n }, slotA := inval x.slotA, slotB := inval x.slotB })
      (d.raiseSec 1).showSec
    else d

/-- KEY_ORDER (R337). -/
def Dev.keyOrder (d : Dev) (gate : Bool) : Dev :=
  if !(gate && d.hasRight 8) then d
  else if d.sec.job.isSome then d.wrF Reg.SEC_MSG_STATUS 15 8 3
  else if !ownerForOrder d.lcState then d.msgResult 5
  else
    match Config.keyOrderOf (d.msgBytes 0 1024) with
    | none => d.msgResult 1
    | some o =>
      let active := (List.range 4).filter (fun i => d.keyState i == 1)
      let put := fun (h st : Nat) => d.modSec (fun s => { s with otp := { s.otp with owner := s.otp.owner.set o.slot (h, st) } })
      if 3 < o.slot ∨ o.signer = o.slot ∨ !active.contains o.signer then d.msgResult 4
      else if !Config.ecdsaValidFor (d.keyHash o.signer) (Config.sha256 o.signed) o.sig then d.msgResult 1
      else
        match o.fill with
        | some h => if d.keyState o.slot = 0 then (((put h 1).raiseSec 8).msgResult 0).showSec else d.msgResult 4
        | none =>
          if d.keyState o.slot = 1 ∧ 2 ≤ active.length then
            (((put (d.keyHash o.slot) 2).raiseSec 8).msgResult 0).showSec
          else d.msgResult 4

/-! ### Attestation (R344) -/

/-- CERT_READ. -/
def Dev.certRead (d : Dev) : Dev :=
  if d.sec.job.isSome then d.wrF Reg.SEC_MSG_STATUS 15 8 3
  else if d.sec.otp.killed ∨ d.lcState = 4 then d.msgResult 5 else (d.msgPut d.sec.otp.cert).msgResult 0

/-- ATTEST. -/
def Dev.attest (d : Dev) : Dev :=
  if d.sec.job.isSome then d.wrF Reg.SEC_MSG_STATUS 15 8 3
  else if d.sec.otp.killed ∨ d.lcState = 4 then d.msgResult 5
  else
    let n := d.msgBytes 0 16
    (d.modSec (fun s => { s with attNonce := n })).msgBusy .attest

/-- Bytes 0 to 79 of the attestation report. -/
def Dev.report (d : Dev) : List Byte :=
  let keys := (List.range 4).foldl (fun n i => n + d.keyState i * 4 ^ i) 0
  let hdr := (List.range 8).flatMap (fun i => leBytes 4 (d.rd (Reg.SEC_BUNDLE_DIGEST i)).toNat)
  leBytes 1 1 ++ leBytes 1 d.lcState ++ leBytes 1 d.sec.otp.svn ++ leBytes 1 keys ++ d.sec.attNonce ++ hdr
    ++ leBytes 4 (d.rd Reg.ILK_MAP_ID).toNat ++ leBytes 3 d.rcd.pwrCycles ++ leBytes 1 (d.cvn.role % 8 + d.conf * 16)
    ++ leBytes 5 d.opTime ++ leBytes 1 d.sec.otp.sgen ++ leBytes 14 0

/-- REPORT_READY. -/
def Dev.reportReady (d : Dev) : Dev :=
  if d.sec.job = some .attest then
    let r := d.report
    (d.msgPut (r ++ d.sign (Config.sha256 r))).msgDone 0
  else d

/-! ### Sessions (R345 to R347) -/

/-- CHAL_REQ. -/
def Dev.chalReq (d : Dev) : Dev :=
  if d.sec.job.isSome then d.wrF Reg.SEC_MSG_STATUS 15 8 3
  else if d.sec.otp.killed ∨ d.lcState = 4 then d.msgResult 5
  else d.msgBusy .challenge

/-- CHALLENGE_READY: a fresh nonce and a fresh ephemeral key; they replace the last challenge. -/
def Dev.challengeReady (d : Dev) : Dev :=
  if d.sec.job = some .challenge then
    let nonce := leBytes 16 (d.free 500 (2 ^ 128))
    let eph := 1 + d.free 501 (2 ^ 256)
    let pub := Config.ephemeralPub eph
    let d := d.modSec (fun s => { s with chal := some (nonce, eph, d.opTime) })
    (d.msgPut (nonce ++ pub ++ d.sign (Config.sha256 (nonce ++ pub)))).msgDone 0
  else d

/-- SESS_START. -/
def Dev.sessStart (d : Dev) : Dev :=
  if d.sec.session.isSome ∨ d.sec.job.isSome then d.wrF Reg.SEC_MSG_STATUS 15 8 3
  else (d.modSec (fun s => { s with tokenAt := d.opTime })).msgBusy .token

/-- First 8 bytes of the SHA-256 of the identity public key. -/
def Dev.deviceId (d : Dev) : List Byte := (leBytes 32 d.sec.pubkey).take 8

/-- A refusal for which the spec names no code: some code of 1 to `n` (log 57). -/
def Dev.someCode (d : Dev) (n : Nat) : Nat := 1 + d.free 502 n

/-- Result of a token check: 0, or the code of MSG_STATUS.RESULT. -/
def Dev.tokenCheck (d : Dev) : Nat :=
  let t := d.msgBytes 0 160
  let ks := leNat ((t.drop 30).take 1)
  let life := leNat ((t.drop 28).take 2)
  match d.sec.chal with
  | none => 2
  | some (nonce, _, at') =>
    if t.take 8 ≠ d.deviceId ∨ (t.drop 8).take 16 ≠ nonce then 2
    else if at' + 60000 < d.sec.tokenAt then 6
    else if !(ownerForToken d.lcState) then 5
    else if (if ks = 0xFF then !vendorForToken d.lcState else decide (d.keyState ks ≠ 1)) then 4
    else
      let h := if ks = 0xFF then d.sec.otp.vendorRoot else d.keyHash ks
      if !Config.ecdsaValidFor h (Config.sha256 (t.take 96)) (t.drop 96) then 1
      else if life < 1 ∨ 3600 < life then d.someCode 6
      else 0

/-- The string that R346 names, with the nonce. -/
def sessionInfo (nonce : List Byte) : List Byte :=
  ([0x4B, 0x44, 0x43, 0x31, 0x32, 0x31, 0x36, 0x20, 0x53, 0x45, 0x53, 0x53, 0x49, 0x4F, 0x4E] : List Byte) ++ nonce

/-- TOKEN_CHECKED: the session opens, or the token is refused. A token is used once. -/
def Dev.tokenChecked (d : Dev) : Dev :=
  if d.sec.job = some .token then
    match d.tokenCheck, d.sec.chal with
    | 0, some (nonce, eph, _) =>
      let t := d.msgBytes 0 160
      let ks := leNat ((t.drop 30).take 1)
      let rights := wn (leNat ((t.drop 24).take 4) % 512)
      let k := Config.hmacSha256 (Config.ecdh eph ((t.drop 32).take 64)) (sessionInfo nonce)
      let s : Session := ⟨rights, k, ks, d.opTime + 1000 * leNat ((t.drop 28).take 2), 0, 0⟩
      let d := d.modSec (fun x => { x with session := some s, chal := none })
      let d := (((d.wr Reg.SEC_SESS_RIGHTS rights).wr Reg.SEC_SESS_CTR 0).wrF Reg.SEC_SESS_FAILS 1 0 0).wr Reg.SEC_SESS_STATUS (wn ks)
      ((d.raiseSec 2).msgDone 0).showSec
    | r, _ => (d.raiseSec 4).msgDone r
  else d

/-- A session ends: its bypasses end (R189, R347), and a load is aborted (R339). -/
def Dev.sessEnd (d : Dev) : Dev :=
  match d.sec.session with
  | none => d
  | some _ =>
    let d := d.modSec (fun s => { s with session := none })
    let d := slots.foldl (fun (d : Dev) (p : Slot) => if d.rdB (Reg.PRT_OBS_STATUS p) 15 then d.bypassEnd p else d) d
    let d := ((d.wr Reg.SEC_SESS_RIGHTS 0).wr Reg.SEC_SESS_STATUS 0).wr Reg.SEC_SESS_CTR 0
    ((d.raiseSec 3).loadAbort 0x0D).showSec

/-- SESS_END, a gated write needing no right. -/
def Dev.sessEndCmd (d : Dev) (gate : Bool) : Dev := if gate then d.sessEnd else d

/-- SESSION_EXPIRY: LIFETIME has elapsed in operating time. -/
def Dev.sessionExpiry (d : Dev) : Dev :=
  match d.sec.session with
  | none => d
  | some s => (d.upTo (d.rcd.released + (s.endsAt - d.rcd.opBase) * 200000)).sessEnd

/-- The counter and tag of a gated write at its completion (R346, R368): accepted or not, with the counts that
follow. A valid tag ends a row of bad ones. A counter of FFFF_FFFFh ends the session and the write is refused with it (R347). -/
def Dev.gateCheck (d : Dev) (ctr : Nat) (mac : List Byte) (signed : List Byte) : Dev × Bool :=
  match d.sec.session with
  | none => (d, false)
  | some s =>
    let tag := (leBytes 32 (Config.hmacSha256 s.key (leBytes 4 ctr ++ signed))).take 16
    if tag ≠ mac then
      let d := d.wrF Reg.SEC_SESS_FAILS 31 16 (satAdd 65535 (d.rdF Reg.SEC_SESS_FAILS 31 16) 1)
      let d := (d.wrF Reg.SEC_SESS_FAILS 1 0 (min 3 (s.fails + 1))).modSec (fun x => { x with session := some { s with fails := s.fails + 1 } })
      let d := d.raiseSec 5
      (if 3 ≤ s.fails + 1 then d.sessEnd else d, false)
    else if ctr ≤ s.ctr then
      ((d.wrF Reg.SEC_SESS_FAILS 1 0 0).modSec (fun x => { x with session := some { s with fails := 0 } }), false)
    else if 0xFFFFFFFF ≤ ctr then (d.sessEnd, false)
    else
      let d := d.modSec (fun x => { x with session := some { s with ctr := ctr, fails := 0 } })
      ((d.wr Reg.SEC_SESS_CTR (wn ctr)).wrF Reg.SEC_SESS_FAILS 1 0 0, true)

/-! ### The life cycle (R348 to R350) -/

/-- The allowed transitions. -/
def lcAllowed (a b : Nat) : Bool :=
  b == 4 || (a == 0 && b == 1) || (a == 1 && b == 2) || (a == 2 && b == 3) || (a == 3 && b == 1)

/-- The order in the message buffer, in the order of R349's list; owner keys stand in orders to PROVISIONED. -/
def Dev.lifeOrder (d : Dev) : Option LifeOrder :=
  let b := d.msgBytes 0 1024
  let tgt := leNat ((b.drop 8).take 1)
  let keys := if tgt = 1 then Config.orderKeysOf (b.drop 10) else some ([], 0)
  keys.map (fun k =>
    let o := 10 + k.2
    ⟨b.take 8, tgt, leNat ((b.drop 9).take 1), k.1, (b.drop o).take 64, b.take (o + 64), (b.drop (o + 64)).take 64⟩)

/-- The signing key is accepted in the present state (R337). -/
def Dev.orderKeyOk (d : Dev) (o : LifeOrder) : Bool :=
  let h := Config.sha256 o.pubkey
  (vendorForOrder d.lcState && h == d.sec.otp.vendorRoot)
    || (ownerForOrder d.lcState && (List.range 4).any (fun i => d.keyState i == 1 && d.keyHash i == h))

/-- LCS.RESULT of an order: 0 where it is accepted. -/
def Dev.orderCheck (d : Dev) (o : LifeOrder) : Nat :=
  let st := d.lcState
  let okKeys := if st = 0 ∧ o.target = 1 then decide (1 ≤ o.keys.length ∧ o.keys.length ≤ 4) else true
  if o.device ≠ d.deviceId ∨ !okKeys then d.someCode 8
  else if !lcAllowed st o.target then 1
  else if !d.orderKeyOk o then 2
  else if !Config.ecdsaValid o.pubkey (Config.sha256 o.signed) o.sig then 3
  else if o.logIndex ≠ d.sec.otp.log.length then 4
  else if 16 ≤ d.sec.otp.log.length then 5
  else if slots.any (fun p => d.enabled p && d.drives p && !([0, 1, 9, 10].contains (d.pst p))) then 6
  else if d.ilk.map.isSome && !decide (d.pair 2 = .present) then 7
  else if d.sec.loading || d.sec.verifying || d.jnl.compacting then 8
  else 0

/-- ORDER (R349): an accepted order requests its Safety record and starts the flush of R350; the rest follows
when that flush is complete. -/
def Dev.lifeCycle (d : Dev) (gate : Bool) : Dev :=
  if d.lcState ≠ 0 ∧ !(gate && d.hasRight 6) then d
  else
    let refuse := fun (c : Nat) => (d.wr Reg.LCS_RESULT (wn c)).raiseSec 7
    match d.lifeOrder with
    | none => refuse (d.someCode 8)
    | some o =>
      match d.orderCheck o with
      | 0 =>
        let d := (d.wr Reg.LCS_RESULT 0).raiseSec 6 0xFF [wn d.lcState, wn o.target]
        let d := (Dev.drainAll 256 d).sessEnd
        (d.modSec (fun s => { s with order := some o })).flushTrigger
      | c => refuse c

/-- The bundle slots are erased. -/
def Dev.wipeSlots (d : Dev) : Dev :=
  d.modSec (fun s => { s with
    slotA := {}, slotB := {}, pending := 0, taken := false, inForceB := false, loading := false, verifying := false
    wiped := s.wiped ++ [0, 1] })

/-- The configuration journal is erased. -/
def Dev.wipeJournal (d : Dev) : Dev := { (d.modSec (fun s => { s with wiped := s.wiped ++ [2] })) with jnl := {} }

/-- The record stores are erased, and their overwrite counts with them; `create` starts new ones with SEQ 1. -/
def Dev.wipeStores (d : Dev) : Dev :=
  (d.modRcd (fun r => { r with
    store := [], genOpen := none, safOpen := none, blocks := r.blocks.filter (fun b => decide (b.2 = .bad))
    chainGen := 0, chainSaf := 0, sealPrevGen := 0, sealPrevSaf := 0, sealDue := [], sealWait := false, lastCyc := List.replicate 48 0
    unfl := [], job := [], jobAdopt := [], tallies := [] })).modSec (fun s => { s with wiped := s.wiped ++ [3, 4] })
  |> fun (d : Dev) => (List.range 4).foldl (fun (d : Dev) i => d.wr (Reg.REC_OVW i) 0) d

/-- Steps 3 and 4 of R350 for the transition that the last two log entries name, per the wipe table. -/
def Dev.lcWipe (d : Dev) : Dev :=
  let log := d.sec.otp.log
  let to' := log.getLast?.getD 0
  let from' := log.dropLast.getLast?.getD 0
  let d := if to' = 3 ∨ to' = 4 then d.modSec (fun s => { s with otp := { s.otp with sgen := min 16 (s.otp.sgen + 1) } }) else d
  let d := if to' = 4 then
      d.modSec (fun s => { s with otp := { s.otp with killed := true, owner := s.otp.owner.map (fun o => (o.1, 2)), cert := [] } })
    else d
  let d := if from' = 1 ∧ to' = 2 then d else d.wipeSlots.wipeJournal
  let d := if to' = 3 then d else d.wipeStores
  let d := if to' = 4 then d.modRcd (fun r => { r with opBase := 0, pwrCycles := 0 }) else d
  (d.modSec (fun s => { s with otp := { s.otp with wipePending := false } })).showSec

/-- Step 2 of R350 and what the order writes into owner slots. -/
def Dev.lcLog (d : Dev) (o : LifeOrder) : Dev :=
  d.modSec (fun s => { s with
    order := none
    otp := { s.otp with
      log := s.otp.log ++ [o.target], wipePending := true
      owner := o.keys.foldl (fun ow k => if ((ow[k.1]?).getD (0, 3)).2 = 0 then ow.set k.1 (k.2, 1) else ow) s.otp.owner } })

/-! ### JTAG (R351, R352) -/

/-- EXTEST is acceptable now: in PROVISIONED and FIELD, a session with the JTAG right, and every portal LOCKED or ISOLATED
in Solo, a member-scope surrender in Duo and Ring (R352). -/
def Dev.extestOk (d : Dev) : Bool :=
  let quiet := if d.solo then slots.all (fun p => !d.enabled p || d.pst p == psLocked || d.pst p == psIsolated) else d.cvn.surrendered
  let st := d.lcState
  st == 0 || st == 3 || ((st == 1 || st == 2) && d.hasRight 7 && quiet)

/-- An instruction is accepted (R351); `vendor` says that a vendor-signed order is presented. -/
def Dev.jtagOk (d : Dev) (i : JtagIns) (vendor : Bool) : Bool :=
  match i with
  | .idcode | .bypass => true
  | .sample => d.lcState != 4
  | .extest => d.extestOk
  | .vendorTest => (d.lcState == 0 || d.lcState == 3) && vendor

/-- The instruction register takes `i`; EXTEST ends where it stood: a Solo controller drives again only after a reset of
the control die (R352). -/
def Dev.jtagLoad (d : Dev) (i : JtagIns) : Dev :=
  d.modSec (fun s => { s with ir := i, extest := decide (i = .extest), needReset := s.needReset || (s.extest && !decide (i = .extest) && d.solo) })

/-- TRST_N: the instruction register takes IDCODE (log 149). -/
def Dev.trstN (d : Dev) : Dev := d.jtagLoad .idcode

/-- JTAG_INSTRUCTION: a refused one loads BYPASS (R351). -/
def Dev.jtag (d : Dev) (i : JtagIns) (vendor : Bool) : Dev :=
  if d.jtagOk i vendor then
    if i = .extest ∧ !d.sec.extest then (d.enterPosture.jtagLoad .extest).raiseSec 9 else d.jtagLoad i
  else (d.jtagLoad .bypass).raiseSec 10

end Sys2Proof.Machine
end

