-- ==== Sys2Proof/Machine/Power.lean ====
section
/-!
DEFINITION. The power sequencer and what the supervisor reports of temperature and power fail (spec/16 R375,
R380 to R391, spec/13 R318, R319): entry conditions, the member's own state, joint entry, waking, exit, and
the thermal flags.
-/

namespace Sys2Proof.Machine

/-! ### Exit latencies (R387) -/

/-- DIV of the modulator clock of group `k`, held in SAX0.DSMCLK to SAX3.DSMCLK (R143). -/
def Dev.dsmDiv (d : Dev) (k : Nat) : Nat := d.rdF (Reg.SAX_DSMCLK k) 5 0
/-- 3 × OSR × DIV in 5 ns units of a servo axis (R387). -/
def Dev.filterStart (d : Dev) (n : Sax) : Nat := 3 * d.rdF (Reg.SAX_DSM_CFG n) 8 0 * d.dsmDiv (n.val / 4)

/-- EXIT_HOLD, EXIT_STABLE and EXIT_DORMANT are recomputed, in µs; a figure that is no whole number of
microseconds is one of the two beside it (log 42). -/
def Dev.exitFigures (d : Dev) : Dev :=
  let f := (saxes.filter (fun n => d.axEn (Sax.axis n))).foldl (fun m n => max m (d.filterStart n)) 0
  let hold := us 20 + max (us 30) f
  let dormant := ms 280 + (if d.solo then 1 else 66) * d.posT
  let toUs := fun (t site : Nat) => wi (d.near ((t : Rat) / 200) site)
  ((d.wr Reg.PWR_EXIT_HOLD (toUs hold 60)).wr Reg.PWR_EXIT_STABLE (wn 20000)).wr Reg.PWR_EXIT_DORMANT (toUs dormant 61)

/-- EXIT(s) in µs. -/
def Dev.exitOf (d : Dev) (s : PwrSt) : Nat :=
  match s with
  | .run => 0
  | .hold => d.rdF Reg.PWR_EXIT_HOLD 31 0
  | .stable => d.rdF Reg.PWR_EXIT_STABLE 31 0
  | .dormant => d.rdF Reg.PWR_EXIT_DORMANT 31 0

/-- The least of the three tolerances, µs. -/
def Dev.tolerance (d : Dev) : Nat :=
  min (min (d.rdF Reg.PWR_TOL_HOST 23 0) (d.rdF Reg.PWR_TOL_FIELD 23 0)) (d.rdF Reg.PWR_TOL_MOTION 23 0)

/-- EXIT(s) + P ≤ tol (R382). -/
def Dev.tolerates (d : Dev) (s : PwrSt) : Bool := decide (us (d.exitOf s) + d.pwmP ≤ us d.tolerance)

/-! ### Entry conditions (R381) -/

/-- An input that a map byte names is made, by its level as the control die knows it (R24). -/
def Dev.byteMade (d : Dev) (b : Nat) : Bool :=
  fitted b && (bit (d.rdUp (Reg.FIN_IN_LVL (b % 128 / 32))) (b % 128 % 32) != decide (128 ≤ b))

/-- Every enabled portal in LOCKED or ISOLATED; for DORMANT an ISOLATED one has LOCKED_1 made. -/
def Dev.portalsRest (d : Dev) (s : PwrSt) : Bool :=
  slots.all (fun p => !d.enabled p || d.pst p == psLocked
    || (d.pst p == psIsolated && (s != .dormant || d.byteMade (d.role p roLocked1))))

/-- Every axis at rest with an empty queue and no homing, and the trace unit not sampling. -/
def Dev.axesRest (d : Dev) : Bool :=
  axes.all (fun a => !d.mot[a].busy && d.mot[a].queue.isEmpty && decide (d.mot[a].home = .idle))
    && decide (d.trace.st = .idle ∨ d.trace.st = .done)

/-- No bundle load, compaction, life-cycle order or session in progress. -/
def Dev.inactive (d : Dev) : Bool :=
  !d.sec.loading && !d.sec.verifying && !d.jnl.compacting && d.sec.order.isNone && d.sec.session.isNone

/-- Own records and journal flushed, and the host write buffer empty. -/
def Dev.allFlushed (d : Dev) (hostIdle : Bool) : Bool :=
  d.rcd.unfl.isEmpty && d.rcd.job.isEmpty && d.jnl.pending.isEmpty && d.jnl.jobs.isEmpty && hostIdle

/-- PFI low, WAKE_N high, nothing pending at or above WAKE_PRIO. -/
def Dev.nothingWaits (d : Dev) : Bool :=
  !d.rcd.pfi && !d.pwr.wakeLow
    && !(List.range 64).any (fun s => d.srcPend s && d.srcEn s && decide (d.rdF Reg.PWR_CFG 1 0 ≤ d.srcPrio s))

/-- The conditions of a state, in the order of PWR.STATUS.BLOCK from bit 16, tolerance and partner last. -/
def Dev.conditions (d : Dev) (s : PwrSt) (hostIdle : Bool) : List Bool :=
  let deep := s != .hold
  [d.portalsRest s, d.axesRest, !deep || d.inactive, !deep || d.allFlushed hostIdle, !deep || d.nothingWaits,
    s != .dormant || decide (d.pair 2 = .present), d.tolerates s, d.syncOk]

/-- The conditions that must hold for a dwell: all but the tolerance. -/
def Dev.mayEnter (d : Dev) (s : PwrSt) (hostIdle : Bool) : Bool :=
  let c := d.conditions s hostIdle
  (c.take 6).all id && c.getD 7 false

/-- Dwell of a state in 5 ns units. -/
def Dev.dwell (d : Dev) (s : PwrSt) : Nat :=
  if s = .hold then d.rdF Reg.PWR_CFG 19 16 * d.posT else d.rdF Reg.PWR_CFG 31 24 * ms 1000

/-- States below RUN, shallowest first. -/
def sleepStates : List PwrSt := [.hold, .stable, .dormant]

/-- STATUS: BLOCK over the column of DORMANT, JOINT, OWN, STATE. -/
def Dev.showPwr (d : Dev) (hostIdle : Bool) : Dev :=
  let blk := ((d.conditions .dormant hostIdle).zipIdx.map (fun x => if x.1 then 0 else 2 ^ (16 + x.2))).sum
  d.wr Reg.PWR_STATUS (wn (blk + (match d.pwr.joint with | some j => j.code | none => d.pwr.st.code) * 256
    + d.pwr.own.code * 16 + d.pwr.st.code))

/-- POWER_STATE_PICK at a position tick in RUN or HOLD (R382). In Solo the state picked is at once the joint
state. A HOLD condition that fails in HOLD, or a tolerance too small for it, is wake cause 0Bh (R385, R391). -/
def Dev.powerPick (d : Dev) (hostIdle : Bool) : Dev :=
  if decide (d.pwr.st = .stable ∨ d.pwr.st = .dormant) || d.pwr.exiting then d
  else
    let since := sleepStates.zipIdx.map (fun x =>
      if d.mayEnter x.1 hostIdle then some ((d.pwr.since.getD x.2 none).getD d.now) else none)
    let held := fun (s : PwrSt) (t : Option Nat) => match t with
      | some t => decide (t + d.dwell s ≤ d.now)
      | none => false
    let own := sleepStates.zipIdx.foldl (fun own x =>
      if held x.1 (since.getD x.2 none) && d.tolerates x.1 then x.1 else own) PwrSt.run
    let own := if d.pwr.wakeLow && own.code > 1 then .hold else own
    let d := d.modPwr (fun p => { p with since := since, own := own })
    let d := if d.solo then d.modPwr (fun p => { p with joint := if p.st.code < own.code then some own else none }) else d
    let d := if decide (d.pwr.st = .hold) && !(d.mayEnter .hold hostIdle && d.tolerates .hold) then d.wakeOn 0x0B else d
    d.showPwr hostIdle

/-- The states below RUN whose conditions held in `o` and fail in `d` (R381); the flags say that the host's write buffer is
empty. -/
def Dev.breaks (o d : Dev) (oIdle dIdle : Bool) : List PwrSt :=
  sleepStates.filter (fun s => o.mayEnter s oIdle && !d.mayEnter s dIdle)

/-- At a strobe the dwells of the states `bs`, whose conditions broke before it, start anew, however short the break was; a
break of HOLD's conditions in HOLD is wake cause 0Bh (R381, R385, log 82). -/
def Dev.breakDwells (d : Dev) (bs : List PwrSt) : Dev :=
  if bs.isEmpty || !d.ticking then d
  else
    let d := d.modPwr (fun p => { p with since := sleepStates.zipIdx.map (fun x => if bs.contains x.1 then none else p.since.getD x.2 none) })
    if bs.contains .hold && decide (d.pwr.st = .hold) then d.wakeOn 0x0B else d

/-! ### Entry (R380, R383) -/

/-- Add the time since the last change to the state in force (PWR.TIME_IN). -/
def Dev.accState (d : Dev) : Dev :=
  d.modPwr (fun p => { p with
    inState := p.inState.set p.st.code (p.inState.getD p.st.code 0 + (d.now - p.lastAcc)), lastAcc := d.now })

/-- Gates of the servo axes and bridges of the step axes follow the power state: outputs are off below RUN,
without silencing (R380). -/
def Dev.showOutputs (d : Dev) : Dev :=
  let d := saxes.foldl (fun (d : Dev) (n : Sax) =>
    d.wrB (Reg.SAX_STATUS n) 0 (decide (d.pwr.st = .run) && d.axEn (Sax.axis n) && !d.servo[n].silenced)) d
  stxes.foldl Dev.stepRefs d

/-- Heater requests go off (R209). -/
def Dev.heatersOff (d : Dev) : Dev :=
  slots.foldl (fun (d : Dev) p =>
    if d.enabled p then (d.progReq (d.rdF (Reg.PRT_OUTPUT_MAP p) 29 24) false).wrB (Reg.PRT_HEAT_STATUS p) 0 false else d) d

/-- Enter `s` from the state in force. -/
def Dev.powerEnter (d : Dev) (s : PwrSt) : Dev :=
  let deep := decide (s = .stable ∨ s = .dormant)
  let fresh := deep && !decide (d.pwr.st = .stable)
  let d := d.accState
  let d := d.modPwr (fun p => { p with st := s, joint := none, enteredAt := if fresh then d.now else p.enteredAt })
  let d := (d.heatersOff.showOutputs.wrF Reg.PWR_STATUS 1 0 s.code).wrF Reg.PWR_STATUS 9 8 s.code
  let d := if deep then (d.wrB Reg.EVC_PEER_SUM_W 18 false).wrB Reg.EVC_PEER_SUM_E 18 false else d
  d.raisePwr 6

/-- A wake cause that counts in state `s` is present at this instant (R385). -/
def Dev.causeNow (d : Dev) (s : PwrSt) : Option Nat := match d.pwr.causeAt with
  | some (t, code) => if t = d.now ∧ d.wakesIn s code then some code else none
  | none => none

/-- POWER_STATE_ENTRY: the joint state is entered where the own permitted state still allows it; otherwise
ENTRY_ABORT and a wake pulse (R383). A wake cause present at the tick stops the entry too, and CAUSE reports it
(R385). Entry moves only deeper. -/
def Dev.powerEntry (d : Dev) : Dev :=
  match d.pwr.joint with
  | none => d
  | some j =>
    if d.pwr.exiting || decide (j.code ≤ d.pwr.st.code) then d.modPwr (fun p => { p with joint := none })
    else
      let abort := fun (d : Dev) => (d.modPwr (fun p => { p with joint := none, wakePulse := !d.solo })).raisePwr 9
      match d.causeNow j with
      | some code => abort (d.wr Reg.PWR_CAUSE (wn (d.pwr.st.code * 256 + code)))
      | none => if j.code ≤ d.pwr.own.code then d.powerEnter j else abort d

/-! ### Waking and exit (R385 to R389) -/

/-- WAKE: a cause of R385's table arrives at time `t`. -/
def Dev.wakeRow (d : Dev) (code : Nat) (t : Nat) : Dev := (d.upTo t).wakeOn code

/-- WAKE_N takes a level (R370). -/
def Dev.wakeN (d : Dev) (low : Bool) : Dev :=
  let fall := low && !d.pwr.wakeLow
  let d := d.modPwr (fun p => { p with wakeLow := low })
  if fall then d.wakeOn 1 else d

/-- TOLERANCE_WRITE of TOL_HOST, TOL_FIELD or TOL_MOTION: it takes effect at the next position tick, where a tolerance too
small for the state in force is wake cause 0Bh (R391, `powerPick`). -/
def Dev.tolWrite (d : Dev) (which : Nat) (v : Word) : Dev := d.wr (Reg.PWR_TOL_HOST + 4 * which) (v &&& 0xFFFFFF#32)

/-- Time limits that stood still resume from their frozen values (R384). -/
def Dev.resumeTimers (d : Dev) (k : Nat) : Dev :=
  let sh := fun (t : Option Nat) => t.map (· + k)
  let d := slots.foldl (fun (d : Dev) p =>
    (d.modMir p (fun m => { m with installed := sh m.installed })).modLease p (fun l =>
      { l with sent := sh l.sent, answered := sh l.answered, rcvd := sh l.rcvd })) d
  (d.modCvn (fun c => { c with healthAt := c.healthAt.map sh })).modRcd (fun r => { r with lastFlush := r.lastFlush + k })

/-- Servo axes after DORMANT (R388): speed measurement restarts, the set-point is realigned and REF_VALID
clears. -/
def Dev.dormantServos (d : Dev) : Dev :=
  saxes.foldl (fun (d : Dev) (n : Sax) =>
    let a := Sax.axis n
    if d.axEn a then ((d.modEnc a (fun e => { e with restart := true })).realign a).wrB (Reg.MOT_MSTAT a) 6 false else d) d

/-- Steps whose STEP_RET input is not made are no longer known (R388). -/
def Dev.sleepSteps (d : Dev) : Dev :=
  slots.foldl (fun (d : Dev) p => match d.stepAx p with
    | none => d
    | some n => if d.byteMade (d.role p roStepRet) then d
        else (d.wrB (Reg.MOT_MSTAT (Stx.axis n)) 7 true).setSst p ssUnhomed) d

/-- The carrier restarts with a position tick now (R387, log 66). -/
def Dev.restartCarrier (d : Dev) : Dev :=
  let n := max 1 d.ticksPerPos
  d.modTime (fun t => { t with nextValley := t.now, nextK := (t.nextK + n - 1) / n * n })

/-- EXIT_COMPLETE at time `t`, and no sooner than the steps of R387 end: RUN begins. Nothing where no exit is in
progress. -/
def Dev.exitComplete (d : Dev) (t : Nat) : Dev :=
  if d.pwr.exiting then
    let d := (d.upTo (max t d.pwr.exitAt)).accState
    let was := d.pwr.st
    let d := if was = .hold then d else d.resumeTimers (d.now - d.pwr.enteredAt)
    let d := d.modPwr (fun p => { p with st := .run, own := .run, joint := none, exiting := false, wakePulse := false
                                         since := [none, none, none] })
    let d := ((d.wrF Reg.PWR_STATUS 1 0 0).wrF Reg.PWR_STATUS 5 4 0).wrF Reg.PWR_STATUS 9 8 0
    let d := if was = .dormant then d.restartCarrier.dormantServos else d
    (d.sleepSteps.showOutputs).raisePwr 7
  else d

/-! ### Power fail (R318, R386, R399) -/

/-- The DONE step has not completed (R399). -/
def Dev.starting (d : Dev) : Bool := !decide (d.boot.st = .running ∨ d.boot.st = .reset)

/-- R399: before DONE a PFI stops start-up; once the NAND step is complete, the counts and pending entries are
flushed and sealed. -/
def Dev.startupPf (d : Dev) : Dev :=
  let nandUp := decide (d.boot.st ∈ [BootSt.verify, .load, .config, .replay, .recorder, .engines, .done])
    || (decide (d.boot.st = .stopped) && fld (d.rd Reg.SYS_STATUS) 11 8 != 5 && fld (d.rd Reg.SYS_STATUS) 11 8 != 6)
  let d := (d.modBoot (fun b => { b with pfStop := true })).modRcd (fun r => { r with
    pfi := true, pf := .captured, pfAt := d.now })
  let d := d.wrB Reg.REC_STATUS 0 true
  if nandUp then
    let early := !decide (d.boot.st ∈ [BootSt.engines, .done])
    let qs := d.rcd.prio ++ d.rcd.intake
    let d := if early then
        (qs.foldl (fun (d : Dev) q => d.tally q.src .recorderOffline q.sev) d).modRcd (fun r => { r with prio := [], intake := [] })
      else d
    (d.flushTrigger.modRcd (fun r => { r with sealWait := true })).sealIfDue
  else d

/-- PFI_ACCEPT: PFI stands high for 1 µs. A bundle load is aborted and a compaction abandoned (R332, R339); in
STABLE and DORMANT the images of the state at entry are written without waking (R386). -/
def Dev.pfiAccept (d : Dev) : Dev :=
  if d.rcd.pfi || decide (d.boot.st = .reset) then d
  else if d.starting then ((d.loadAbort 0x0D).startupPf).raisePwr 4
  else
    let d := (d.loadAbort 0x0D).compactAbandon
    let asleep := decide (d.pwr.st = .stable ∨ d.pwr.st = .dormant)
    let d := d.raisePwr 4
    let d := d.pfAccept
    if asleep then d.pfTick else d

/-- PFI_FALL: PFI falls without a reset (R319); start-up resumes at the step in which it stopped (R399). -/
def Dev.pfiFall (d : Dev) : Dev :=
  if d.rcd.pfi then
    let d := d.raisePwr 5
    if d.boot.pfStop then
      (((d.modBoot (fun b => { b with pfStop := false })).modRcd (fun r => { r with pfi := false, pf := .idle })).wrB Reg.REC_STATUS 0 false)
    else d.pfFall
  else d

/-! ### Temperature and supplies (R288, R375) -/

/-- TEMP_CHANGE: PWR.TEMP takes `t`, in 0.1 °C. -/
def Dev.tempChange (d : Dev) (t : BitVec 16) : Dev :=
  let old := d.temp
  let new := t.toInt
  let d := d.wr Reg.PWR_TEMP (wn t.toNat)
  let warn := sfld (d.rd Reg.PWR_TEMP_CFG) 7 0 * 10
  let hyst : Int := d.rdF Reg.PWR_TEMP_CFG 15 8 * 10
  let d := if old < 1250 ∧ 1250 ≤ new then d.raisePwr 12 else d
  if !d.pwr.tempHot && decide (warn ≤ new) then (d.modPwr (fun p => { p with tempHot := true })).raisePwr 10
  else if d.pwr.tempHot && decide (new ≤ warn - hyst) then (d.modPwr (fun p => { p with tempHot := false })).raisePwr 11
  else d

/-- THERMAL_SURRENDER: at or above 130 °C for 1 ms (R288 code 15h). -/
def Dev.thermalSurrender (d : Dev) : Dev :=
  if d.solo then d else (d.raisePwr 13).memberSurrender 0x15

/-- A supply leaves its range for 2 µs, or is back in it: 0 VCORE, 1 VDDIO33, 2 VDDA, 3 VDDIO18 (R375). -/
def Dev.supply (d : Dev) (i : Fin 4) (out : Bool) : Dev :=
  let was := d.pwr.oor.getD i false
  let d := d.modPwr (fun p => { p with oor := p.oor.set i out })
  let d := d.wrB Reg.PWR_SUPPLY i (!out)
  if out && !was then d.raisePwr i else d

end Sys2Proof.Machine
end

