-- ==== Sys2Proof/Machine/Commit.lean ====
section
/-!
DEFINITION. Staged configuration and commit (spec/17 R402 to R405): the staged set, the checks that the
chapters place on a COMMIT with the reasons of R404, and what an accepted commit changes at its tick.
-/

namespace Sys2Proof.Machine

/-! ### The staged set -/

/-- The staged fields that differ from the fields in force, in address order (R402). -/
def Dev.stagedSet (d : Dev) : Cells 32 :=
  (d.staged ++ d.regs).foldl (fun m p =>
    let k := stMaskAt p.1
    if (d.rd p.1 ^^^ d.stg p.1) &&& k = 0 then m else m.insert p.1 (d.stg p.1 &&& k)) []

/-- The values in force replaced by a set of fields. -/
def Dev.putFields (d : Dev) (fs : List (Nat × Word)) : Dev := fs.foldl (fun d f => d.putField f.1 f.2) d

/-- Some field of the register at `a` is changed by the commit. -/
def changed (o c : Dev) (a : Nat) : Bool := o.rd a != c.rd a

/-! ### Checks (R404) -/

/-- A failed check: the register it names and its REASON. -/
abbrev Fail := Nat × Nat

/-- One check: it fails where `bad` holds. -/
def chk (bad : Bool) (a reason : Nat) : List Fail := if bad then [(a, reason)] else []
/-- `v` lies outside `lo` to `hi`. -/
def out (v lo hi : Nat) : Bool := decide (v < lo ∨ hi < v)
/-- Check a field's range (RANGE). -/
def Dev.rng (c : Dev) (a h l lo hi : Nat) : List Fail := chk (out (c.rdF a h l) lo hi) a 1
/-- A binary32 value that is positive and finite. -/
def fpos (w : Word) : Bool := match FVal.ofWord w with
  | .num q => decide (0 < q)
  | _ => false

/-- The tick configuration (R28, R222, R259, R301). A portal whose TYPE is NONE counts neither as LOCKED nor as outside LOCKED
and ISOLATED: it has no cycle, and only the enabled portals are looked at (DESIGN CHOICE, log 132). -/
def tickChecks (o c : Dev) : List Fail :=
  let a := Reg.TBS_TICK_CFG
  if !changed o c a then [] else
  let p := c.pwmP
  chk (p % 2 == 1 || out p 5000 25000 || c.rdF a 17 16 == 0 || c.rdF a 19 18 == 0) a 1
    ++ chk (axes.any o.axEn || slots.any (fun s => o.enabled s && o.pst s != psLocked && o.pst s != psIsolated)) a 4
    ++ chk (!o.solo && !o.rdB Reg.CVN_STATUS 17) a 5
    ++ chk (slots.any (fun n => match o.eng[n].img with
        | none => false
        | some i => (i.fits p c.spdDiv).isSome)) a 6
    ++ chk ((!o.solo && c.posT % us 100 != 0) || (o.ring && decide (us 1500 < c.posT))) a 8

/-- PWM_PERIOD against the modulator clock of a group and an axis' OSR (R145, R169, R211). -/
def Dev.ratioBad (c : Dev) (k osr : Nat) : Bool :=
  let v := c.dsmDiv k
  v == 0 || c.pwmP % v != 0 || osr == 0 || (c.pwmP / v) % osr != 0

/-- PACE_CFG (R234). -/
def paceChecks (c : Dev) : List Fail :=
  let a := Reg.TBS_PACE_CFG
  c.rng a 31 24 1 255 ++ c.rng a 23 16 1 9 ++ c.rng a 7 0 10 40 ++ c.rng a 15 8 0 50
    ++ chk (decide (c.rdF a 15 8 < c.rdF a 7 0 + 5)) a 9

/-- PWR.CFG and PWR.TEMP_CFG (R391); a WAKE_DIN bit cannot name a DIN above 95. -/
def pwrChecks (c : Dev) : List Fail :=
  c.rng Reg.PWR_CFG 31 24 1 255 ++ c.rng Reg.PWR_CFG 19 16 1 15
    ++ c.rng Reg.PWR_TEMP_CFG 15 8 1 20
    ++ chk (decide (sfld (c.rd Reg.PWR_TEMP_CFG) 7 0 < 60 ∨ 120 < sfld (c.rd Reg.PWR_TEMP_CFG) 7 0)) Reg.PWR_TEMP_CFG 1

/-- CVN.CFG (R301). -/
def cvnChecks (o c : Dev) : List Fail :=
  let a := Reg.CVN_CFG
  if o.solo then chk (c.rdB a 2 || c.rdF a 31 16 != 0x1E) a 8
  else chk (out (c.rdF a 31 16) 5 600) a 8
    ++ chk (o.duo && !c.rdB a 2 && saxes.any (fun n => o.axEn (Sax.axis n) && decide (c.rdF (Reg.SAX_PWM_CFG n) 8 0 < 20))) a 8

/-! Portals -/

/-- Timing fields and the plain ranges of a portal (R39, R61). -/
def portalRanges (c : Dev) (p : Slot) : List Fail :=
  c.rng (Reg.PRT_CFG p) 19 12 5 100 ++ chk (decide (1 < c.rdF (Reg.PRT_CFG p) 8 7)) (Reg.PRT_CFG p) 1
    ++ c.rng (Reg.PRT_TIME_A p) 25 16 0 600 ++ c.rng (Reg.PRT_TIME_A p) 9 0 0 500
    ++ c.rng (Reg.PRT_TIME_B p) 31 24 5 200 ++ c.rng (Reg.PRT_TIME_B p) 23 16 5 200
    ++ c.rng (Reg.PRT_TIME_B p) 15 8 2 200 ++ c.rng (Reg.PRT_TIME_B p) 7 0 2 200
    ++ c.rng (Reg.PRT_TIME_C p) 31 24 5 100 ++ c.rng (Reg.PRT_TIME_C p) 23 16 0 250
    ++ c.rng (Reg.PRT_TIME_C p) 15 8 5 250 ++ c.rng (Reg.PRT_TIME_C p) 7 0 5 250

/-- Address of the INPUT_MAP register of a role. -/
def roleAddr (p : Slot) (r : Nat) : Nat := Reg.PRT_INPUT_MAP p (r / 4)

/-- Roles that the portal's type and options require (R39). -/
def Dev.required (c : Dev) (p : Slot) : List Nat :=
  [roClosed1, roLocked1] ++ (if c.ptype p = 2 then [roOpenEnd] else [])
    ++ (if c.stepFitted p then [roStepRet] else []) ++ (if c.rdB (Reg.PRT_CFG p) 11 then [roBtnClose] else [])

/-- A channel field names no channel and is not 3Fh. -/
def chanReserved (v : Nat) : Bool := decide (48 ≤ v ∧ v ≤ 62)

/-- One portal's maps on their own (R40). -/
def mapAlone (c : Dev) (p : Slot) : List Fail :=
  let ax := Reg.PRT_AXIS_MAP p
  let om := Reg.PRT_OUTPUT_MAP p
  let em := Reg.PRT_EDGE_MAP p
  let step := c.rdF ax 11 8
  let valves := [c.rdF ax 21 16, c.rdF ax 29 24]
  (List.range 12).flatMap (fun r =>
      let b := c.role p r % 128
      chk (decide (0x60 ≤ b ∧ b ≤ 0x7E)) (roleAddr p r) 2)
    ++ (c.required p).flatMap (fun r => chk (!c.fit p r) (roleAddr p r) 2)
    ++ chk (decide (0xC ≤ step ∧ step ≤ 0xE) || (c.stepFitted p && step == 0xF)) ax 2
    ++ chk (valves.any chanReserved || (c.ptype p == 2 && valves.any (· == 0x3F))) ax 2
    ++ chk (c.ptype p == 1 && c.rdF ax 3 0 == c.rdF ax 7 4) ax 2
    ++ chk ([c.rdF em 4 0, c.rdF em 12 8].any (fun e => decide (24 ≤ e ∧ e ≤ 30))) em 2
    ++ chk ([c.rdF om 5 0, c.rdF om 13 8, c.rdF om 21 16, c.rdF om 29 24].any chanReserved
        || out (c.rdF om 5 0) 40 47) om 2

/-- A use of a shared resource by an enabled portal: kind and number, register, portal, and whether it is a
LOCK_CH. Kinds: 0 servo axis, 1 step axis, 2 edge, 3 channel, 4 DIN. -/
structure Use where
  kind : Nat
  num : Nat
  addr : Nat
  prt : Slot
  lock : Bool
  deriving DecidableEq, Repr

/-- What an enabled portal names (R40, R211). -/
def Dev.uses (c : Dev) (p : Slot) : List Use :=
  let ax := Reg.PRT_AXIS_MAP p
  let om := Reg.PRT_OUTPUT_MAP p
  let em := Reg.PRT_EDGE_MAP p
  let heat := c.rd (Reg.PRT_HEAT_CFG p)
  (c.servosOf p).map (fun n => ⟨0, n.val, ax, p, false⟩)
    ++ (c.stepAx p).toList.map (fun n => ⟨1, n.val, ax, p, false⟩)
    ++ ([c.rdF em 4 0, c.rdF em 12 8].filter (fun e => decide (e < 24))).map (fun e => ⟨2, e, em, p, false⟩)
    ++ ((if c.ptype p = 2 then [c.rdF ax 21 16, c.rdF ax 29 24] else []).filter (fun x => decide (x < 48))).map
        (fun x => ⟨3, x, ax, p, false⟩)
    ++ ([(c.rdF om 5 0, true), (c.rdF om 13 8, false), (c.rdF om 21 16, false), (c.rdF om 29 24, false)].filter
        (fun x => decide (x.1 < 48))).map (fun x => ⟨3, x.1, om, p, x.2⟩)
    ++ ((List.range 12).filter (fun r => c.fit p r)).map (fun r => ⟨4, c.role p r % 128, roleAddr p r, p, false⟩)
    ++ (if (fld heat 1 0 == 1 || fld heat 1 0 == 3) && fitted (fld heat 31 24)
        then [⟨4, fld heat 31 24 % 128, Reg.PRT_HEAT_CFG p, p, false⟩] else [])

/-- The uses of one channel form a lock group: LOCK_CH fields of one side, three portals at most (R41). -/
def Dev.lockGroup (c : Dev) (us : List Use) : Bool :=
  us.all (·.lock) && decide (us.length ≤ 3)
    && (us.map (fun u => c.rdB (Reg.PRT_CFG u.prt) 4)).eraseDups.length == 1

/-- Resources that two fields name (R40, R41): channels and DINs in any two fields, the others in two portals. -/
def mapShared (c : Dev) : List Fail :=
  let all := (slots.filter c.enabled).flatMap c.uses
  all.flatMap (fun u =>
    let same := all.filter (fun w => w.kind == u.kind && w.num == u.num)
    chk (decide (1 < same.length) && !(u.kind == 3 && c.lockGroup same)
      && (decide (3 ≤ u.kind) || same.any (fun w => w.prt != u.prt))) u.addr 2)

/-- The portal maps against the locked interlock map (R87). -/
def ilkChecks (o c : Dev) (p : Slot) : List Fail :=
  match o.ilk.map with
  | none => []
  | some m =>
    match m.slots[p.val]? with
    | none => []
    | some s =>
      if !c.enabled p && !s.en then []
      else
        let cfg := Reg.PRT_CFG p
        let roles := [(roClosed1, s.closed1), (roClosed2, s.closed2), (roLocked1, s.locked1), (roLocked2, s.locked2),
          (roStepRet, s.stepRet), (roIsolate, s.isolate)]
        let ch := c.rdF (Reg.PRT_OUTPUT_MAP p) 5 0
        chk (c.enabled p != s.en || c.rdB cfg 4 != s.right || c.stepFitted p == (s.stepRet % 128 == 0x7F)) cfg 3
          ++ roles.flatMap (fun r =>
              let a := c.role p r.1
              chk (!(a == r.2 || (!fitted a && !fitted r.2))) (roleAddr p r.1) 3)
          ++ chk (!(decide (40 ≤ ch) && m.lockClass.getD (ch - 40) 0 == (if s.right then 2 else 1))) (Reg.PRT_OUTPUT_MAP p) 3

/-- The Ring axis split (R301). -/
def ringAxes (c : Dev) (p : Slot) : List Fail :=
  let lowHalf := decide (p.val < 6)
  chk (c.ring && ((c.servosOf p).any (fun n => decide (n.val < 8) != lowHalf)
    || (c.stepAx p).toList.any (fun n => decide (n.val < 6) != lowHalf))) (Reg.PRT_AXIS_MAP p) 8

/-- The obstacle page (R191). -/
def obsChecks (c : Dev) (p : Slot) : List Fail :=
  let geom := Reg.PRT_OBS_GEOM p
  let seal' := Reg.PRT_OBS_SEAL p
  let react := Reg.PRT_OBS_REACT p
  let mode := c.obsMode p
  let stroke := c.rdF geom 31 16
  chk (mode == 3) (Reg.PRT_OBS_CFG p) 1
    ++ (List.range 8).flatMap (fun z =>
        chk (out (c.zoneK p z) 8 32) (if z < 4 then Reg.PRT_OBS_ZONE_K0 p else Reg.PRT_OBS_ZONE_K1 p) 1)
    ++ chk (decide (3000 < stroke) || decide (100 < c.sealLen p)) geom 1
    ++ c.rng seal' 31 16 40 1000 ++ c.rng seal' 15 0 40 1000
    ++ c.rng react 26 24 1 7 ++ c.rng react 23 16 0 250 ++ c.rng (Reg.PRT_OBS_DRIFT_CFG p) 7 0 10 90
    ++ chk (c.rdB (Reg.PRT_OBS_CFG p) 11 && c.ptype p != 2 && stroke == 0) (Reg.PRT_OBS_CFG p) 9
    ++ chk (decide (stroke ≤ c.sealLen p)) geom 9
    ++ chk (decide (stroke < c.rdF react 15 0)) react 9
    ++ chk (decide (c.rdF seal' 15 0 < baseTh mode)) seal' 9
    ++ chk (mode != 3 && decide (ms (confMs mode) < c.posT + c.spdT)) (Reg.PRT_OBS_CFG p) 9

/-- The heater (R211); a thermostat that appears in another role is found among the shared DINs. -/
def heatChecks (c : Dev) (p : Slot) : List Fail :=
  let a := Reg.PRT_HEAT_CFG p
  let src := c.rdF a 1 0
  let ch := c.rdF (Reg.PRT_OUTPUT_MAP p) 29 24
  let temp := fun h l => sfld (c.rd a) h l
  if src = 0 then [] else
  chk (ch == 0x3F || (match toFin? 48 ch with
      | some k => c.lockClass k
      | none => false)) (Reg.PRT_OUTPUT_MAP p) 2
    ++ chk (decide (temp 15 8 < -40 ∨ 60 < temp 15 8 ∨ temp 23 16 < -40 ∨ 60 < temp 23 16 ∨ temp 23 16 ≤ temp 15 8)) a 1
    ++ chk ((src == 1 || src == 3) && !fitted (c.rdF a 31 24)) a 2

/-- Everything about one portal. -/
def portalChecks (o c : Dev) (p : Slot) : List Fail :=
  portalRanges c p ++ ilkChecks o c p
    ++ (if c.enabled p then mapAlone c p ++ ringAxes c p ++ obsChecks c p ++ heatChecks c p else [])

/-! Axes -/

/-- The modulator group of an axis (R143). -/
def axGroup (a : Axis) : Nat := match stxOf a with
  | some n => n.val / 3
  | none => a.val / 4

/-- The debounce time plus sample interval of a DIN, 5 ns units (R117, R255); continuous mode samples every
microsecond, and no DIN takes no time. -/
def Dev.detectT (c : Dev) (i : Nat) : Nat :=
  if 96 ≤ i then 0 else
  let g := c.rd (Reg.FIN_GRP_CFG (i / 8))
  us (c.rdF (Reg.FIN_DEB i) 15 0) + (if bit g 15 then us 1 else us 10 * fld g 9 0)

/-- The motion page of an enabled axis (R96, R117). -/
def motionChecks (c : Dev) (a : Axis) : List Fail :=
  let r := fun x => (c.rd x).toNat
  let vs := [Reg.MOT_LIM_O_V a, Reg.MOT_LIM_C_V a]
  let js := [Reg.MOT_LIM_O_A a, Reg.MOT_LIM_O_J a, Reg.MOT_LIM_C_A a, Reg.MOT_LIM_C_J a]
  let din := c.rdF (Reg.MOT_LATCH_CFG a) 6 0
  let creep := r (Reg.MOT_HOME_CREEP_V a)
  let retract : Lim := ⟨(r (Reg.MOT_LIM_C_A a) : Rat), (r (Reg.MOT_LIM_C_J a) : Rat)⟩
  let reach : Rat := (creep : Rat) * ((c.detectT din + c.posT : Nat) : Rat) / 200000000 + stopDist creep retract
  chk (r (Reg.MOT_SCALE a) == 0) (Reg.MOT_SCALE a) 1
    ++ vs.flatMap (fun x => chk (out (r x) 1 20000000) x 1)
    ++ js.flatMap (fun x => chk (r x == 0) x 1)
    ++ chk (decide (1 < c.rdF (Reg.MOT_MCFG a) 1 0)) (Reg.MOT_MCFG a) 1
    ++ chk (r (Reg.MOT_STOP_A a) != 0 && decide (r (Reg.MOT_STOP_A a) < max (r (Reg.MOT_LIM_O_A a)) (r (Reg.MOT_LIM_C_A a))))
        (Reg.MOT_STOP_A a) 9
    ++ chk (r (Reg.MOT_STOP_J a) != 0 && decide (r (Reg.MOT_STOP_J a) < max (r (Reg.MOT_LIM_O_J a)) (r (Reg.MOT_LIM_C_J a))))
        (Reg.MOT_STOP_J a) 9
    ++ chk ((stxOf a).isSome && decide ((r (Reg.MOT_RET_DEPTH a) : Rat) ≤ reach))
        (Reg.MOT_HOME_CREEP_V a) 9

/-- Microstep rates of a step axis (R196). -/
def rateChecks (c : Dev) (n : Stx) : List Fail :=
  let a := Stx.axis n
  let r := fun x => (c.rd x).toNat
  [Reg.MOT_LIM_O_V a, Reg.MOT_LIM_C_V a].flatMap (fun x => chk (decide (1000000 < r x)) x 9)
    ++ chk (decide (min (r (Reg.MOT_LIM_O_V a)) (r (Reg.MOT_LIM_C_V a)) < r (Reg.MOT_START_V a))) (Reg.MOT_START_V a) 9

/-- An encoder channel (R139). -/
def encChecks (o c : Dev) (n : Enc) : List Fail :=
  let a := Reg.ENC_CFG n
  let en := o.axEn (Enc.axisOf n)
  let moved := (o.rd a ^^^ c.rd a) &&& 0xD3#32 != 0     -- EN, DIR_INV, HALL_REV, FILT
  c.rng a 23 18 1 63 ++ c.rng a 15 8 1 255
    ++ chk (!isServoCh n && (c.rdB a 2 || c.rdB a 3)) a 1
    ++ chk (isServoCh n && c.rdB a 2 && c.rdF (Reg.ENC_INDEX_CFG n) 23 0 == 0) a 1
    ++ chk (en && (!c.rdB a 0 || moved)) a 4

/-- Some enabled axis belongs to modulator group `k` (R143). -/
def Dev.groupEn (o : Dev) (k : Nat) : Bool := axes.any (fun a => o.axEn a && axGroup a == k)

/-- A servo axis (R169, R301). -/
def servoChecks (o c : Dev) (n : Sax) : List Fail :=
  let k := n.val / 4
  let en := o.axEn (Sax.axis n)
  let cfg := Reg.SAX_CFG n
  let pwm := Reg.SAX_PWM_CFG n
  let dsm := Reg.SAX_DSM_CFG n
  let osr := c.rdF dsm 8 0
  let osrOc := c.rdF dsm 15 10
  chk (c.rdF cfg 4 0 == 0 && !c.rdB cfg 8) cfg 1
    ++ c.rng pwm 8 0 10 400 ++ c.rng pwm 17 9 0 400
    ++ c.rng dsm 8 0 8 256 ++ chk (osrOc != 0 && out osrOc 8 32) dsm 1 ++ chk (decide (c.dsmDiv k ≤ c.rdF dsm 21 16)) dsm 1
    ++ chk (decide (osr < osrOc)) dsm 7
    ++ chk (decide (c.pwmP < 2 * (2 * c.rdF pwm 8 0 + c.minLow n + c.rdF pwm 17 9))) pwm 9
    ++ [Reg.SAX_IFS n, Reg.SAX_KT n, Reg.SAX_RATIO n, Reg.SAX_VBUS n].flatMap (fun x => chk (!fpos (c.rd x)) x 1)
    ++ chk (en && c.ratioBad k osr) Reg.TBS_TICK_CFG 7
    ++ [cfg, dsm].flatMap (fun x => chk (changed o c x && o.groupEn k) x 4)
    ++ chk (!o.solo && en && decide (us 8 < 3 * osr * c.dsmDiv k)) dsm 8

/-- A modulator clock (R169, R301). -/
def clockChecks (o c : Dev) (k : Nat) : List Fail :=
  let a := Reg.SAX_DSMCLK k
  chk (c.rdF a 5 0 % 2 == 1 || out (c.rdF a 5 0) 10 40) a 1
    ++ chk (changed o c a && o.groupEn k) a 4
    ++ chk (!o.solo && o.groupEn k && c.rdF a 9 8 != 2) a 8

/-- An enabled step axis (R211, R301). -/
def stepChecks (o c : Dev) (n : Stx) : List Fail :=
  let k := n.val / 3
  let chop := Reg.STX_CHOP_CFG n
  let cur := Reg.STX_CUR_CFG n
  let dsm := Reg.STX_DSM_CFG n
  let stall := Reg.STX_STALL_CFG n
  let osr := c.rdF dsm 8 0
  let mode := c.rdF stall 1 0
  let run := ftoRat (c.rd (Reg.STX_I_RUN n))
  chk (c.rdF (Reg.STX_CFG n) 2 0 == 7) (Reg.STX_CFG n) 1
    ++ c.rng chop 27 24 1 15 ++ c.rng chop 20 16 0 16 ++ c.rng chop 12 8 2 16 ++ c.rng chop 6 0 4 80
    ++ c.rng cur 31 24 1 100 ++ c.rng cur 23 16 10 100
    ++ c.rng dsm 15 10 8 32 ++ c.rng dsm 8 0 8 256 ++ chk (decide (c.dsmDiv k ≤ c.rdF dsm 21 16)) dsm 1
    ++ chk (decide (osr < c.rdF dsm 15 10)) dsm 7
    ++ c.rng stall 31 24 1 64 ++ c.rng stall 23 16 10 90 ++ c.rng stall 15 8 10 170
    ++ c.rng (Reg.STX_DEV_WIN n) 15 0 1 65535
    ++ chk (!fpos (c.rd (Reg.STX_I_RUN n)) || decide (95 * ftoRat (c.rd (Reg.STX_IFS n)) < 100 * run)) (Reg.STX_I_RUN n) 1
    ++ [Reg.STX_IFS n, Reg.STX_VBUS n, Reg.STX_COIL_R n, Reg.STX_COIL_L n].flatMap (fun x => chk (!fpos (c.rd x)) x 1)
    ++ chk (c.rdB stall 2 && ((mode != 1 && (fceq (c.rd (Reg.STX_KE n)) f0 || c.rd (Reg.STX_EMF_MIN_V n) == 0))
        || (mode != 0 && c.rd (Reg.STX_ENC_RATIO n) == 0))) stall 1
    ++ chk (c.ratioBad k osr) Reg.TBS_TICK_CFG 7
    ++ [Reg.STX_CFG n, dsm].flatMap (fun x => chk (changed o c x) x 4)
    ++ chk (!o.solo && decide (us 8 < 3 * osr * c.dsmDiv k)) dsm 8

/-! Field I/O, traces and triggers -/

/-- Inputs, switches and sense (R267, R270, R273). -/
def fieldChecks (o c : Dev) : List Fail :=
  let mapped := (slots.filter c.enabled).flatMap c.portalChans
  (List.range 12).flatMap (fun g => chk (!c.rdB (Reg.FIN_GRP_CFG g) 16 && out (c.rdF (Reg.FIN_GRP_CFG g) 9 0) 2 1000) (Reg.FIN_GRP_CFG g) 1)
    ++ (List.range 96).flatMap (fun i => chk (!c.rdB (Reg.FIN_DEB i) 16 && out (c.rdF (Reg.FIN_DEB i) 15 0) 2 65000) (Reg.FIN_DEB i) 1)
    ++ chans.flatMap (fun (k : Ch) =>
        let a := Reg.FSW_HS_CFG k
        chk (c.rdF a 7 0 == 0 || c.rdF a 23 16 == 0) a 1
          ++ chk (if o.solo then c.shared k else mapped.contains k.val && !c.shared k) a 8)
    ++ c.rng Reg.FSN_SNS_CFG 23 8 500 3300
    ++ chk (c.rdB Reg.FSN_SNS_CFG 30 && c.scanList.isEmpty) Reg.FSN_SNS_CFG 1

/-- Snapshot triggers (R333). -/
def trigChecks (c : Dev) : List Fail :=
  (List.range 8).flatMap (fun t =>
    let a := Reg.REC_SNAP_CFG t
    chk (c.rdB a 31 && (out (c.rdF a 21 16) 1 32 || decide (4 < c.rdF a 26 24))) a 1)

/-- Every check on the candidate `c` over the values in force `o` (R404). -/
def allChecks (o c : Dev) : List Fail :=
  tickChecks o c ++ paceChecks c ++ pwrChecks c ++ cvnChecks o c
    ++ slots.flatMap (portalChecks o c) ++ mapShared c
    ++ (axes.filter o.axEn).flatMap (motionChecks c) ++ stxes.flatMap (rateChecks c)
    ++ encs.flatMap (encChecks o c) ++ saxes.flatMap (servoChecks o c) ++ (List.range 4).flatMap (clockChecks o c)
    ++ (stxes.filter (fun n => o.axEn (Stx.axis n))).flatMap (stepChecks o c)
    ++ fieldChecks o c ++ trigChecks c

/-- The failure that is reported: lowest address, then lowest reason. -/
def firstFail : List Fail → Option Fail
  | [] => none
  | f :: fs =>
    match firstFail fs with
    | none => some f
    | some g => if g.1 < f.1 ∨ (g.1 = f.1 ∧ g.2 < f.2) then some g else some f

/-- The outcome of the checks of R404: NOT_READY and POWER_FAIL name no register. -/
def Dev.commitCheck (d : Dev) : Option Fail :=
  if !decide (d.boot.st = .done ∨ d.boot.st = .running) then some (0, 0x0A)
  else if d.rcd.pfi then some (0, 0x0B)
  else firstFail (allChecks d (d.putFields d.stagedSet))

/-- The consistency checks that a replayed COMMIT passes again: all but those that ask for the state of the
running controller (R331). -/
def Dev.replayCheck (d : Dev) (fs : List (Nat × Word)) : Option Fail :=
  firstFail ((allChecks d (d.putFields fs)).filter (fun f => f.2 != 4 && f.2 != 5))

/-! ### The commit -/

/-- A write of SYS.COMMIT.GO (R402). -/
def Dev.commitGo (d : Dev) : Dev :=
  if d.rdB Reg.SYS_COMMIT_STATUS 31 then d
  else
    let w := setBit (d.rd Reg.SYS_COMMIT_STATUS) 31 true
    (d.wr Reg.SYS_COMMIT_STATUS w).modTime (fun t => { t with goAt := t.now })

/-- What an accepted commit brings about beside the values in force (R28, R100, R101, R128, R234, R387, R403):
`o` is the controller before it. -/
def Dev.commitEffects (d o : Dev) : Dev :=
  let ch := fun a => changed o d a
  let d := if ch Reg.TBS_TICK_CFG then
      ((d.modTime (fun t => { t with nextK := 0 })).wr Reg.TBS_POS_PERIOD (wn d.posT)).raiseTbs 2 else d
  let d := if ch Reg.TBS_PACE_CFG then
      ((d.wrF Reg.TBS_PACE_STATUS 2 1 0).wrF Reg.TBS_PACE_STATUS 15 8 0).modTime (fun t => { t with holdAt := none }) else d
  let d := if ch Reg.TBS_TICK_CFG || saxes.any (fun n => ch (Reg.SAX_DSM_CFG n)) || stxes.any (fun n => ch (Reg.STX_DSM_CFG n))
      then d.exitFigures else d
  let d := axes.foldl (fun (d : Dev) (a : Axis) =>
    if (List.range 16).any (fun i => ch (Reg.MOT_MCFG a + 4 * i)) then
      (d.modMot a (fun x => { x with replan := true })).setGovernor a else d) d
  let d := encs.foldl (fun (d : Dev) (c : Enc) =>
    let d := if o.rdB (Reg.ENC_CFG c) 4 != d.rdB (Reg.ENC_CFG c) 4 then d.hallReform c else d
    if !o.rdB (Reg.ENC_CFG c) 0 && d.rdB (Reg.ENC_CFG c) 0 then d.encEnable c else d) d
  (d.noteSampling o).hsSettleAll.edgesSettle

/-- COMMIT_STATUS at resolution: REASON 0 where accepted. -/
def commitWord (reason : Nat) (empty : Bool) : Word :=
  wn ((if reason = 0 then 2 ^ 30 else 2 ^ 29) + (if empty then 2 ^ 28 else 0) + reason)

/-- The commit resolves (R17, R402 to R404): applied whole, or rejected with the first failure. -/
def Dev.commitResolve (d : Dev) : Dev :=
  if !d.rdB Reg.SYS_COMMIT_STATUS 31 then d
  else
    match d.commitCheck with
    | some (a, r) =>
      let d := (d.wr Reg.SYS_COMMIT_STATUS (commitWord r false)).wr Reg.SYS_COMMIT_ADDR (wn a)
      d.wrF Reg.SYS_COMMIT_CNT 15 0 (satAdd 0xFFFF (d.rdF Reg.SYS_COMMIT_CNT 15 0) 1)
    | none =>
      let set := d.stagedSet
      let o := d
      let d := d.wr Reg.SYS_COMMIT_STATUS (commitWord 0 set.isEmpty)
      let d := d.wrF Reg.SYS_COMMIT_CNT 31 16 (satAdd 0xFFFF (d.rdF Reg.SYS_COMMIT_CNT 31 16) 1)
      if set.isEmpty then d
      else ((d.putFields set).commitEffects o).journal (.commit set)

end Sys2Proof.Machine
end

