-- ==== Sys2Proof/Machine/Startup.lean ====
section
/-!
DEFINITION. Resets and start-up (spec/17 R392 to R401, spec/01 R27): the resets of the table, the
release of the control die, the steps of the start-up sequence, and journal replay (spec/13 R331). A
control-die reset is prepared where its cause arises and made by the row CONTROL_DIE_RESET (log 60).
-/

namespace Sys2Proof.Machine

/-! ### SYS.STATUS -/

/-- STEP of SYS.STATUS (R396). -/
def BootSt.step : BootSt → Nat
  | .reset => 0 | .wipe => 1 | .keys => 2 | .nand => 3 | .verify => 4 | .load => 5 | .config => 6 | .replay => 7
  | .recorder => 8 | .engines => 9 | .done => 10 | .running => 10 | .stopped => 15

/-- Go to a start-up step. -/
def Dev.toStep (d : Dev) (s : BootSt) : Dev := (d.modBoot (fun b => { b with st := s })).wrF Reg.SYS_STATUS 3 0 s.step

/-- Start-up stops with a RESULT (R397). -/
def Dev.stopAt (d : Dev) (result : Nat) : Dev := (d.toStep .stopped).wrF Reg.SYS_STATUS 11 8 result

/-! ### Resets (R392) -/

/-- Registers of the field die and of the timebase, which a reset of the control die leaves alone: FIO, ILK,
TBS time and tick registers with TBS.FLAGS. -/
def keptReg (a : Nat) : Bool :=
  decide (0x050000 ≤ a ∧ a < 0x054000) || decide (0x060000 ≤ a ∧ a < 0x061000) || decide (0x003000 ≤ a ∧ a < 0x003040)
    || a == Reg.TBS_FLAGS

/-- RW registers return to their reset values at every reset (R330), those of the field I/O block among them. -/
def rwReg (a : Nat) : Bool := match regAt a with
  | none => false
  | some r => r.row.rw != 0

/-- Counts that the stores and the seals carry through a reset (R323, R326). -/
def storeReg (a : Nat) : Bool := (List.range 4).any (fun s => a == Reg.REC_OVW s)

/-- The registers a control-die reset leaves: PWR.SUPPLY and the supply flags of the supervisor too (R375). -/
def Dev.keptRegs (d : Dev) : Cells 32 :=
  let ks := d.regs.filter (fun p => (keptReg p.1 && !rwReg p.1) || storeReg p.1 || p.1 == Reg.PWR_SUPPLY)
  Cells.write resetOf ks Reg.PWR_FLAGS (d.rd Reg.PWR_FLAGS &&& 0xF#32)

/-- What NAND, one-time-programmable memory and the test access port keep of the security sequencer through a reset: only
another instruction or TRST_N ends EXTEST (R352). -/
def Security.kept (s : Security) : Security :=
  { otp := s.otp, slotA := s.slotA, slotB := s.slotB, inForceB := s.inForceB, taken := s.taken, pending := s.pending,
    fallback := s.fallback, wiped := s.wiped, pubkey := s.pubkey, ir := s.ir, extest := s.extest }

/-- What NAND keeps of the recorder. -/
def Recorder.kept (r : Recorder) : Recorder :=
  { store := r.store, genOpen := r.genOpen, safOpen := r.safOpen, blocks := r.blocks, eraseCnt := r.eraseCnt
    spareUsed := r.spareUsed, chainGen := r.chainGen, chainSaf := r.chainSaf, sealPrevGen := r.sealPrevGen
    sealPrevSaf := r.sealPrevSaf, opBase := r.opBase, pwrCycles := r.pwrCycles }

/-- What NAND keeps of the journal. -/
def Journal.kept (j : Journal) : Journal :=
  { half0 := j.half0, half1 := j.half1, active1 := j.active1, next := j.next }

/-- Resets of code 05h within the last 10 minutes. -/
def Dev.spineResets (d : Dev) : List Nat := d.boot.spineAt.filter (fun t => decide (d.now ≤ t + ms 600000))

/-- SYS.RESET_CAUSE. -/
def resetWord (cause n : Nat) : Word := wn (min 3 n * 256 + cause)

/-- A bundle slot whose load the reset cut short stays invalid (R339). -/
def Dev.loadCut (d : Dev) : Dev :=
  if d.sec.loading || d.sec.verifying then let b := d.loadSlot; d.setSlot b { d.slotOf b with valid := false } else d

/-- A reset cuts the program operation that writes journal entries: some of them are whole in NAND, and the next may be
torn (R331, log 155). -/
def Dev.cutProgram (d : Dev) : Dev :=
  if d.rdB Reg.REC_STATUS 1 && d.rcd.job.isEmpty && d.rcd.jobAdopt.isEmpty then
    let es := d.jnl.nextOp.1
    let k := d.free 3101 (es.length + 1)
    let torn := (es.drop k).take (d.free 3102 2)
    d.modJnl (fun j => j.append (es.take k ++ torn.map (fun e => { e with good := false })))
  else d

/-- A reset of the control die alone (R350, R392): its memories, FIFOs, timers and registers are zeroed or reset;
the field die, the timebase, NAND and what the supervisor holds stay. -/
def Dev.controlReset (d : Dev) (cause : Nat) : Dev :=
  let d := d.enterPosture.loadCut.cutProgram
  let spine := if cause = 5 then d.spineResets ++ [d.now] else d.spineResets
  let d' : Dev :=
    { regs := Cells.write resetOf d.keptRegs Reg.SYS_RESET_CAUSE (resetWord cause spine.length)
      enc := d.enc.map (fun _ => { winAt := d.time.posRun })
      seq := d.seq, time := { d.time with slowest := 0, replErr := false, holdAt := none, timeHi := 0 }, ilk := d.ilk
      fio := { d.fio with
        hs := d.fio.hs.map (fun h => { h with req := false }), reqSnap := List.replicate 48 false, frame := [], reqDue := []
        image := none, upImage := none, badDn := false, badUp := false, failsDn := [], failsUp := [], tripDn := false, tripUp := false
        silent := false }
      cvn := { role := d.cvn.role, surrIn := d.cvn.surrIn, surrLow := d.cvn.surrLow }, rcd := d.rcd.kept, jnl := d.jnl.kept, sec := d.sec.kept
      pwr := { oor := d.pwr.oor, counts := d.pwr.counts, told := d.pwr.told, xtalLost := d.pwr.xtalLost
               wakeLow := d.pwr.wakeLow, lastAcc := d.now }
      boot := { cause := cause, since := d.now, tripAt := (d.boot.resetDue.map (·.2)).getD d.now, spineAt := spine, supHold := decide (cause = 5 ∧ 3 ≤ spine.length) } }
  { ((d'.wrB Reg.SYS_STATUS 16 true).hsSettleAll.edgesSettle.noteSampling d) with staged := d'.regs }

/-- A reset of both dies (causes 01h and 02h): everything returns to reset but NAND and one-time-programmable
memory; the time counter stands at 0 until RST_N is released. -/
def Dev.fieldReset (d : Dev) (cause : Nat) : Dev :=
  let d := d.loadCut.cutProgram
  let regs := Cells.write resetOf (d.regs.filter (fun p => storeReg p.1)) Reg.SYS_RESET_CAUSE (resetWord cause 0)
  { regs := regs, seq := d.seq, time := { now := d.now, pllLock := d.time.pllLock && cause != 2 }
    ilk := { permOff := [some d.now, some d.now] }
    cvn := { role := d.cvn.role, surrIn := d.cvn.surrIn, surrLow := d.cvn.surrLow }, rcd := d.rcd.kept, jnl := d.jnl.kept
    sec := if cause = 2 then { d.sec.kept with ir := .idcode, extest := false } else d.sec.kept
    pwr := { oor := d.pwr.oor, wakeLow := d.pwr.wakeLow, lastAcc := d.now }
    boot := { cause := cause, since := d.now } }

/-- RST_N_ASSERT and VFLD_LOSS at time `t`. -/
def Dev.rstN (d : Dev) (t : Nat) : Dev := (d.upTo t).fieldReset 1
def Dev.vfldLoss (d : Dev) (t : Nat) : Dev := (d.upTo t).fieldReset 2

/-- A control-die reset for `cause` is due from now. -/
def Dev.resetDue (d : Dev) (cause : Nat) : Dev :=
  if d.boot.st = .reset then d else d.modBoot (fun b => { b with resetDue := some (cause, d.now) })

/-- Steps 1 to 4 of R318 ahead of a reset of cause 05h or 06h. -/
def Dev.resetFlush (d : Dev) : Dev :=
  if d.rcd.pf = .idle then
    let d := d.modRcd (fun r => { r with pf := .accepted, pfAt := d.now })
    (d.wrB Reg.REC_STATUS 0 true).flushTrigger
  else d

/-- The reset due is ready to be made at the present time (R392): 05h after the flush or 20 ms after the trip,
06h after the flush, 07h after step 4 of R350, the others at once. -/
def Dev.resetReady (d : Dev) (cause at' : Nat) : Bool :=
  let flushed := decide (d.rcd.pf = .done) || !d.nandOk
  if cause = 5 then flushed || decide (at' + ms 20 ≤ d.now)
  else if cause = 6 then flushed
  else if cause = 7 then d.sec.order.isNone
  else true

/-- Steps 3 and 4 of R350 where they are pending; the journal carries PWR_CYCLES and OP_TIME on.
Where PROVISIONED to FIELD keeps it, they go to the half in force. -/
def Dev.lcFinish (d : Dev) : Dev :=
  if d.sec.otp.wipePending then
    let cycles := d.rcd.pwrCycles
    let op := d.opTime
    let to' := d.lcState
    let d := d.lcWipe
    if to' = 4 then d
    else
      d.modJnl (fun j =>
        { j.append (placeEntries 1 false (Journal.tail j.active) [⟨j.next, .pwrStart cycles op, true, 0, 0, 0⟩]).1 with next := j.next + 1 })
  else d

/-- CONTROL_DIE_RESET at time `t`: the reset due is made once it is ready; one of a life-cycle change ends steps 3 and 4
of R350. -/
def Dev.controlDieReset (d : Dev) (t : Nat) : Dev :=
  let d := d.upTo t
  match d.boot.resetDue with
  | some (c, at') => if d.resetReady c at' then (if c = 7 then d.lcFinish else d).controlReset c else d
  | none => d

/-- Reset codes 04h: crystal loss (R32). Tick strobes stop, gates are silenced, TIMEBASE_OK, LOOP_OK and HOLD fall;
DLP_KILL does not operate. -/
def Dev.crystalLoss (d : Dev) (t : Nat) : Dev :=
  let d := d.upTo t
  if !d.time.xtalOk then d
  else
    let tc := d.timeCounter
    let d := d.modTime (fun x => { x with xtalOk := false, frozenTc := tc, tc0 := none })
    let d := (axes.filter d.drivesAx).foldl Dev.silenceAx d
    let d := ((d.memberSurrender 0x13).enterPosture.wrB Reg.ILK_STATUS 30 false).loopEval
    (d.modPwr (fun p => { p with xtalLost := true })).resetDue 4

/-- SUPPLY_OUT_OF_RANGE (R288, R289, R375): VCORE, VDDIO33 or VDDA leaves its range or returns to it at `t`. -/
def Dev.supplyOut (d : Dev) (i : Fin 3) (out : Bool) (t : Nat) : Dev :=
  let d := (d.upTo t).supply ⟨i.val, by omega⟩ out
  if out then (d.memberSurrender 0x14).resetDue 3
  else if d.boot.st = .reset ∧ d.boot.cause = 3 then d.modBoot (fun b => { b with since := d.now }) else d

/-- UNCORRECTABLE_ECC outside engine memories (R288 code 11h). -/
def Dev.eccSurrender (d : Dev) : Dev := d.memberSurrender 0x11

/-- RESET_GO (R393). -/
def Dev.resetGo (d : Dev) : Dev :=
  let mine := slots.filter (fun p => d.enabled p && d.drives p)
  let rest := fun (p : Slot) => [psLocked, psReleased, psIsolated, psFault].contains (d.pst p)
  let ok := if d.solo then mine.all rest || !slots.any d.engRun else mine.isEmpty
  if ok then (d.resetDue 6).resetFlush else d.setFlag Reg.SYS_FLAGS 0

/-! ### The timebase and the release -/

/-- ILK.STATUS.TIMEBASE_OK: the crystal runs and ticks are issued; the loop is evaluated again (R75). -/
def Dev.timebaseOn (d : Dev) : Dev := (d.wrB Reg.ILK_STATUS 30 true).loopEval

/-- The time counter, the carrier and the tick generator start: the first valley is now, with k = 0, and the
first current tick reads 1 (R27). -/
def Dev.startTimebase (d : Dev) : Dev :=
  let d := d.modTime (fun t => { t with
    tc0 := some t.now, frozenTc := 0, nextK := 1, nextValley := t.now + d.pwmP, lastStrobe := t.now, posTicks := 1, posRun := t.posRun + 1
    periodStart := t.now })
  (d.wr Reg.TBS_SAMPLE_TICK 1).timebaseOn

/-- RST_N_RELEASE at time `t` with the straps ROLE_ID. -/
def Dev.rstRelease (d : Dev) (t : Nat) (role : Fin 8) : Dev :=
  let d := d.upTo t
  if d.time.rstN || !(d.boot.st = .reset ∧ d.boot.cause ≤ 2) then d
  else
    let d := (d.modTime (fun x => { x with rstN := true })).modBoot (fun b => { b with since := d.now })
    let d := d.modCvn (fun c => { c with role := role.val })
    if d.time.pllLock then d.startTimebase else d

/-- PLL_LOCK at time `t`. -/
def Dev.pllLocks (d : Dev) (t : Nat) : Dev :=
  let d := (d.upTo t).modTime (fun x => { x with pllLock := true })
  if d.time.rstN && d.time.tc0.isNone && d.time.xtalOk then d.startTimebase else d

/-- PLL_SLIP (R375): the PLL loses lock for more than 100 ns. -/
def Dev.pllSlip (d : Dev) : Dev := (d.modTime (fun t => { t with pllLock := false })).raiseTbs 0

/-- The release condition of R392 holds. -/
def Dev.releasable (d : Dev) : Bool :=
  let c := d.boot.cause
  let ran := d.now - d.boot.since
  decide (d.boot.st = .reset) && !d.boot.supHold && d.suppliesOk
    && (if c ≤ 2 then d.time.rstN && d.time.pllLock && decide (us 200 ≤ ran)
        else if c = 3 then decide (ms 1 ≤ ran)
        else if c = 4 then decide (ms 10 ≤ ran)
        else if c = 5 then decide (us 100 ≤ ran) || decide (d.boot.tripAt + ms 20 ≤ d.now)
        else decide (us 100 ≤ ran))

/-- Highest OP_TIME found in the stores and the journal (R303). -/
def Dev.foundOpTime (d : Dev) : Nat :=
  let j := (d.jnl.half0 ++ d.jnl.half1).foldl (fun (m : Nat) e => match e.body with | .pwrStart _ o => max m o | _ => m) d.rcd.opBase
  d.rcd.store.foldl (fun m s => max m s.item.req.opTime) j

/-- CONTROL_DIE_RELEASE at time `t` (R392). After a crystal loss the time counter goes on from where it stood
and a new pattern starts (log 61). -/
def Dev.controlRelease (d : Dev) (t : Nat) : Dev :=
  let d := d.upTo t
  if !d.releasable then d
  else
    let d := if d.time.xtalOk then d else
      (d.modTime (fun x => { x with xtalOk := true, tc0 := some (x.now - x.frozenTc), nextK := 0, nextValley := x.now })).timebaseOn
    let op := d.foundOpTime
    let d := d.modRcd (fun r => { r with released := d.now, opBase := op })
    let d := (List.range 4).foldl (fun (d : Dev) i => d.wrB Reg.PWR_SUPPLY i (!d.pwr.oor.getD i false)) d
    (d.wrF Reg.CVN_STATUS 10 8 d.cvn.role).toStep .wipe

/-! ### Steps (R396, R397) -/

/-- KEYS: a pending erase is completed; engines run only in PROVISIONED and FIELD (R348). -/
def Dev.stepKeys (d : Dev) : Dev :=
  let d := d.lcFinish
  let d := d.showSec
  if d.lcState = 1 ∨ d.lcState = 2 then d.toStep .nand else d.stopAt 5

/-- NAND: bad-block table, region map and open pages. -/
def Dev.stepNand (d : Dev) (ok : Bool) : Dev :=
  if !ok then d.stopAt 6
  else
    let d := d.wrB Reg.REC_STATUS 2 true
    let d := d.wr Reg.JNL_NAND_STATUS (wn ((64 - d.rcd.spareUsed) * 2 ^ 16 + d.rcd.spareUsed))
    let d := d.wr Reg.JNL_ERASE_MAX (wn (d.rcd.eraseCnt.foldl (fun m e => max m e.2) 0))
    let d := d.wrB Reg.REC_STATUS 3 (decide (d.erasedBlocks safLo safN ≤ 8))
    d.toStep .verify

/-- A slot verifies now. -/
def Dev.slotVerifies (d : Dev) (b : Bool) : Bool := (d.slotOf b).valid && (d.verify (d.slotOf b)).1 == 0

/-- Take the bundle of a slot (R341). -/
def Dev.takeBundle (d : Dev) (b isNew : Bool) : Dev :=
  let d := d.modSec (fun s => { s with inForceB := b, taken := true, pending := if s.pending = (if b then 2 else 1) then 0 else s.pending })
  let dg := leBytes 32 (d.slotOf b).digest
  let d := (wordsOf 8 dg).zipIdx.foldl (fun (d : Dev) w => d.wr (Reg.SEC_BUNDLE_DIGEST w.2) w.1) d
  ((d.modBoot (fun x => { x with newBundle := isNew })).showSec).toStep .load

/-- A slot that was chosen at start-up and does not verify is invalid (R340). -/
def Dev.slotFails (d : Dev) (b : Bool) : Dev := d.setSlot b { d.slotOf b with valid := false }

/-- VERIFY: the PENDING slot if it verifies, else the slot in force, else the fallback (R341). -/
def Dev.stepVerify (d : Dev) : Dev :=
  let pend := d.sec.pending == 2
  if d.sec.pending ≠ 0 ∧ d.slotVerifies pend then d.takeBundle pend true
  else
    let d := if d.sec.pending ≠ 0 then (d.slotFails pend).modSec (fun s => { s with pending := 0 }) else d
    let b := d.sec.inForceB
    if d.sec.taken && d.slotVerifies b then d.takeBundle b false
    else
      let d := if d.sec.taken then d.slotFails b else d
      let tried := d.sec.taken && decide (d.sec.otp.svn ≤ (d.slotOf (!b)).svn)
      if tried && d.slotVerifies (!b) then d.takeBundle (!b) true
      else ((if tried then d.slotFails (!b) else d).modSec (fun s => { s with taken := false })).showSec.stopAt 1

/-- The bundle in force, parsed. -/
def Dev.bundle (d : Dev) : Option Bundle := d.bundleOf (d.slotOf d.sec.inForceB)

/-- Write bytes into table memory. -/
def Dev.tblPut (d : Dev) (ofs : Nat) (bs : List Byte) : Dev := { d with tmem := Cells.writeRun zeroCell 1 d.tmem ofs bs }

/-- Load one engine: program, itineraries, tables, certificate and identity (R215, R233). -/
def Dev.loadEngine (d : Dev) (e : Nat × EngImage) : Dev :=
  match toFin? 12 e.1 with
  | none => d
  | some n =>
    let i := e.2
    let d := d.modEng n (fun x => x.load i)
    let d := d.wr (Reg.ENG_IMAGE_ID n) (wn (leNat ((leBytes 32 i.digest).take 4)))
    let mine := fun (m : Nat) => m < 16 && (i.nominal.any (fun r => r.mask == m) || i.slow.any (fun r => r.mask == m))
    let d := i.cert.foldl (fun (d : Dev) c => if mine c.1 then d.wr (Reg.ENG_CERT n c.1) (wn (c.2.2 * 2 ^ 16 + c.2.1)) else d) d
    ((d.tblPut (dispBase n) (i.dispatch.flatMap (fun w => leBytes 2 w.toNat))).tblPut (constBase n) (i.consts.take 0x3800)).tblPut 0x7C000
      (i.shared.take 0x4000)

/-- Write one bank and seal it. -/
def Dev.loadBank (d : Dev) (n : Sax) (b : Bool) (regs : List Word) (tbl : List Byte) : Dev :=
  let d := regs.zipIdx.foldl (fun (d : Dev) w => if w.2 < 20 then d.wr (bankAddr n b w.2) (w.1 &&& bankMask w.2) else d) d
  let d := d.tblPut (bankTbl n b) (tbl.take 0x1800)
  (d.wr (Reg.SAX_BANK_CRC n b.toNat) (crc32c (d.bankBytes n b))).wrB (Reg.SAX_BANK_CTRL n) (if b then 18 else 17) true

/-- LOAD: program memory, itinerary stores, table memory and banks; bank A in force. -/
def Dev.stepLoad (d : Dev) : Dev :=
  match d.bundle with
  | none => d.stopAt 1
  | some u =>
    let d := u.engines.foldl Dev.loadEngine d
    let d := u.banks.foldl (fun (d : Dev) b => match toFin? 16 b.1 with
      | none => d
      | some n =>
        let d := d.loadBank n false b.2.regsA b.2.tblA
        let d := if b.2.hasB then d.loadBank n true b.2.regsB b.2.tblB else d
        d.wrB (Reg.SAX_BANK_CTRL n) 16 false) d
    d.toStep .config

/-- ROLE_ID agrees with the configuration (R3). -/
def Dev.strapsOk (d : Dev) (c : ConfigImage) : Bool :=
  if c.conf = 0 then true else if c.conf = 1 then decide (d.cvn.role ≤ 1)
  else if c.conf = 2 then decide (d.cvn.role < c.ringSize) else false

/-- A change of the tick configuration starts a new pattern at the next valley (R27). -/
def Dev.newPattern (d o : Dev) : Dev :=
  if changed o d Reg.TBS_TICK_CFG then (d.modTime (fun t => { t with nextK := 0 })).wr Reg.TBS_POS_PERIOD (wn d.posT) else d

/-- Values in force are staged too. -/
def Dev.stageAll (d : Dev) : Dev := { d with staged := d.regs }

/-- CONFIG: straps, the CONFIG section as staged and in force, the posture table and the interlock map. -/
def Dev.stepConfig (d : Dev) : Dev :=
  match d.bundle with
  | none => d.stopAt 1
  | some u =>
    let c := u.config
    if !d.strapsOk c then d.stopAt 2
    else
      let o := d
      let d := d.putFields c.values
      let d := (d.wrF Reg.CVN_CFG 1 0 c.conf).wrF Reg.CVN_CFG 11 8 c.ringSize
      let d := (d.newPattern o).wrF Reg.FED_EDG_STATUS 1 0 c.conf
      let d := chans.foldl (fun (d : Dev) (k : Ch) =>
        d.wrF (Reg.FSW_HS_CFG k) 31 30 (if d.lockClass k then 0 else c.posture.getD k 0)) d
      let d := if d.solo then d else
        (slots.foldl (fun (d : Dev) p => d.setOwner p 3) (d.modRcd (fun r => { r with seqHold := true }))).wrB Reg.REC_STATUS 7 true
      let d := (d.stageAll).hsSettleAll.edgesSettle
      let d := d.applyMap u.map
      let d := chans.foldl (fun (d : Dev) (k : Ch) => if d.lockClass k then d.wrF (Reg.FSW_HS_CFG k) 31 30 0 else d) d
      let d := (d.noteSampling o).stageAll
      match d.ilk.map with
      | none => d.stopAt 3
      | some k => if k.digest = u.map.digest then d.toStep .replay else d.stopAt 4

/-! ### Replay (R331) -/

/-- A seal that the journal carries: the bank's CRC is shown and the bank is sealed. -/
def Dev.replaySeal (d : Dev) (n : Sax) (b : Bool) (crc : Word) : Dev :=
  (d.wr (Reg.SAX_BANK_CRC n b.toNat) crc).wrB (Reg.SAX_BANK_CTRL n) (if b then 18 else 17) true

/-- Bank data that the journal carries; it unseals the bank. -/
def Dev.replayBank (d : Dev) (n : Sax) (b : Bool) (ofs : Nat) (bs : List Byte) : Dev :=
  let d := d.wrB (Reg.SAX_BANK_CTRL n) (if b then 18 else 17) false
  if ofs < 0x80 then
    (wordsOf (bs.length / 4) bs).zipIdx.foldl (fun (d : Dev) w =>
      if ofs / 4 + w.2 < 20 then d.wr (bankAddr n b (ofs / 4 + w.2)) (w.1 &&& bankMask (ofs / 4 + w.2)) else d) d
  else d.tblPut (bankTbl n b + (ofs - 0x80)) bs

/-- What a replay gathers: images, a complete IMAGE_END, tallies, the parts so far of an entry that goes on, and how many
entries were applied. -/
structure Found where
  openI : List PortalImage := []
  images : List PortalImage := []
  ended : Bool := false
  tallies : List Tally := []
  partC : List (Nat × Word) := []
  partT : List Tally := []
  parts : Nat := 0
  applied : Nat := 0
  deriving DecidableEq, Repr

/-- Newer images of a slot replace older ones. -/
def mergeImages (old new : List PortalImage) : List PortalImage :=
  old.filter (fun o => !new.any (fun n => n.slot == o.slot)) ++ new

/-- Apply one journal entry. -/
def Dev.replayEntry (x : Dev × Found) (e : JEntry) : Dev × Found :=
  let (d, f) := x
  let f := { f with applied := f.applied + 1 }
  match e.body with
  | .commit fs true => (d, { f with partC := f.partC ++ fs, parts := f.parts + 1 })
  | .commit fs false =>
    let all := f.partC ++ fs
    let g := { f with partC := [], parts := 0 }
    match d.replayCheck all with
    | none => (((d.putFields all).newPattern d).noteSampling d, g)
    | some _ => (d.raiseJnl 2, { g with applied := f.applied - f.parts - 1 })
  | .bankData a b o bs => match toFin? 16 a with
    | some n => (d.replayBank n (b == 1) o bs, f)
    | none => (d, f)
  | .bankSeal a b c => match toFin? 16 a with
    | some n => (d.replaySeal n (b == 1) c, f)
    | none => (d, f)
  | .bankSwap a b => match toFin? 16 a with
    | some n => (d.wrB (Reg.SAX_BANK_CTRL n) 16 (b == 1), f)
    | none => (d, f)
  | .pwrStart c o => (d.modRcd (fun r => { r with pwrCycles := c, opBase := max r.opBase o }), f)
  | .tallyState ts true => (d, { f with partT := f.partT ++ ts })
  | .tallyState ts false => (d, { f with tallies := f.partT ++ ts, partT := [] })
  | .image i => (d, { f with openI := f.openI ++ [i] })
  | .imageEnd => (d, { f with images := mergeImages f.images f.openI, openI := [], ended := true })
  | .imageConsumed => (d, { f with images := [], openI := [], ended := false })
  | .snapBegin | .snapEnd _ => (d, f)

/-- A pending count whose tally record has reached the store since is no longer pending. -/
def Dev.tallyStored (d : Dev) (t : Tally) : Bool :=
  d.rcd.store.any (fun s => decide (s.item.req.kind = .tally) && s.item.req.src == t.src
    && leNat (s.item.req.body.take 1) == t.reason.code && decide (t.last ≤ leNat ((s.item.req.body.drop 16).take 5)))

/-- REPLAY: the selected half of the journal, or, with a bundle that takes effect, a journal of its own
configuration. The PWR_CYCLES, images and counts that the old journal holds carry over. A torn entry ends the half: the
next entry follows the last good one (log 155). -/
def Dev.stepReplay (d : Dev) : Dev :=
  let half := d.jnl.selected
  let (es, torn) := goodPrefix (if half then d.jnl.half1 else d.jnl.half0)
  let d := d.modJnl (fun j => { j with
    active1 := half, half0 := if half then j.half0 else es, half1 := if half then es else j.half1 })
  let top := (d.jnl.half0 ++ d.jnl.half1).foldl (fun m e => if e.good then max m e.jseq else m) 0
  let d := d.modJnl (fun j => { j with next := top + 1 })
  let new := d.boot.newBundle
  let d := if torn then d.raiseJnl 1 else d
  let keep := if new then es.filter (fun e => match e.body with
      | .commit _ _ | .bankData _ _ _ _ | .bankSeal _ _ _ | .bankSwap _ _ => false
      | _ => true) else es
  let (d, f) := keep.foldl Dev.replayEntry (d, ({} : Found))
  let d := d.wr Reg.JNL_REPLAYED (wn f.applied)
  let d := d.wr Reg.JNL_JSEQ (wn (es.foldl (fun m e => max m e.jseq) 0))
  let d := d.wr Reg.JNL_SNAP_JSEQ (wn ((es.foldl (fun (m : Nat) e => match e.body with | .snapEnd l => l | _ => m) 0)))
  let d := d.modBoot (fun b => { b with images := f.images, imageEnd := f.ended })
  let d := d.modRcd (fun r => { r with tallies := r.tallies ++ f.tallies.filter (fun t => !d.tallyStored t) })
  let d := axes.foldl Dev.setGovernor d.stageAll
  let d := (if new then d.journalReset else d).showJnl
  (d.exitFigures).toStep .recorder

/-! ### The recorder step (R303, R320, R323) -/

/-- The next page of a region after closing the open one. -/
def closePage (o : Option (Nat × Nat × Nat)) : Option (Nat × Nat × Nat) := match o with
  | some (b, pg, u) => if u = 0 then some (b, pg, u) else if pg < 63 then some (b, pg + 1, 0) else none
  | none => none

/-- A LATE seal is due over an unsealed stretch of a region. -/
def Dev.lateSeal (d : Dev) (saf : Bool) : Dev :=
  if d.unsealed saf then d.sealEnd saf 1 else d

/-- Tallies for the occurrences that the field die and the supervisor counted while the control die could not
record: one for each flag (R88, R375). -/
def Dev.untold (d : Dev) : Dev :=
  let op := d.opTime
  let one := fun (src sev n : Nat) => if n = 0 then [] else [(⟨src, .recorderOffline, 2 ^ sev, sev, n, op, op⟩ : Tally)]
  let ts := (List.range 12).flatMap (fun b => one (ilkSrc b) (d.ilkSev b) (d.ilk.counts.getD b 0 - d.ilk.told.getD b 0))
    ++ (List.range 4).flatMap (fun b => one 32 3 (d.pwr.counts.getD b 0 - d.pwr.told.getD b 0))
  let d := (d.modIlk (fun i => { i with told := i.counts })).modPwr (fun p => { p with told := p.counts })
  if ts.isEmpty then d
  else ((d.modRcd (fun r => { r with tallies := r.tallies ++ ts })).setFlag Reg.REC_FLAGS 0).occur 26

/-- RECORDER: open pages closed, a LATE seal, PWR_START, unconsumed images, and where the numbers stand. -/
def Dev.stepRecorder (d : Dev) : Dev :=
  let own := (d.rcd.store.filter (fun s => !s.adopted)).map (·.item)
  let top := own.foldl (fun m r => if r.req.kind = .seal then m else max m r.seq) 0
  let started := d.rcd.pwrCycles != 0
  let d := d.modRcd (fun r => { r with
    genOpen := closePage r.genOpen, safOpen := closePage r.safOpen, lastFlush := d.now
    pwrCycles := satAdd 0xFFFFFF r.pwrCycles 1
    lastCyc := own.foldl (fun l q => if q.req.kind = .cycle then l.set q.req.portal (max (l.getD q.req.portal 0) q.req.cycleNo) else l) r.lastCyc })
  let d := (d.lateSeal false).lateSeal true
  let d := (d.setSeqAt Reg.REC_NEXT_SEQ_LO (top + 1)).setSeqAt Reg.REC_FLUSHED_SEQ_LO top
  let d := d.journal (.pwrStart d.rcd.pwrCycles d.opTime)
  let d := d.wrB Reg.REC_PF_STATUS 20 (!d.boot.images.isEmpty)
  let d := d.wrF Reg.REC_PF_STATUS 19 16 d.boot.images.length
  let d := if started && !d.boot.imageEnd && d.boot.cause != 7 then d.raiseRec 8 else d
  let d := if d.pwr.xtalLost then (d.modPwr (fun p => { p with xtalLost := false })).raiseTbs 1 else d
  let d := d.untold
  let d := d.toStep .engines
  if d.returnsDone then d.seqResume else d

/-- STARTUP_STEP_COMPLETE at time `t`: the step in progress ends and the next begins; `nandOk` says that the
region map was readable. While a PFI stands no further step starts (R399). -/
def Dev.startupStep (d : Dev) (t : Nat) (nandOk : Bool) : Dev :=
  let d := d.upTo t
  if d.boot.pfStop then d
  else
    match d.boot.st with
    | .wipe => d.toStep .keys
    | .keys => d.stepKeys
    | .nand => d.stepNand nandOk
    | .verify => d.stepVerify
    | .load => d.stepLoad
    | .config => d.stepConfig
    | .replay => d.stepReplay
    | .recorder => d.stepRecorder
    | _ => d

/-- ENGINES ends at a position tick: every engine that the bundle carries starts. In Duo and Ring a portal that
this member comes to drive is held in FAULT until the other candidate is heard of (R401). -/
def Dev.stepEngines (d : Dev) : Dev :=
  let d := slots.foldl (fun (d : Dev) n => if d.eng[n].img.isSome then d.setRun n 1 else d) d
  let d := if d.solo then d else slots.foldl (fun (d : Dev) p => d.modPrt p (fun x => { x with holdNs := true })) d
  d.toStep .done

/-- Nothing holds posture beside start-up: good upstream frames arrive, no trip stands, the map is the locked one, and
neither EXTEST nor the reset it asks for (R25, R26, R85, R352). -/
def Dev.postureMayEnd (d : Dev) : Bool :=
  !d.fio.silent && !d.fio.tripUp && !d.fio.tripDn && !d.ilk.mismatch && !d.sec.extest && !d.sec.needReset && d.time.xtalOk

/-- DONE: with the first housekeeping tick posture ends and start-up is complete; in Duo and Ring unconsumed
images of portals go out as STATE frames with SUB 80h. Every step axis starts with POS_UNCERTAIN (R400, R401). -/
def Dev.stepDone (d : Dev) : Dev :=
  let d := if d.postureMayEnd then d.leavePosture else d
  let d := d.wr Reg.SYS_STARTUP_MS (wi (d.near ((d.now - d.rcd.released : Nat) / 200000 : Rat) 63))
  let d := d.modBoot (fun b => { b with doneAt := d.now })
  let d := d.modCvn (fun c => { c with startAt := d.now })
  let d := d.boot.images.foldl (fun (d : Dev) i => match toFin? 12 i.slot with
    | some p => if d.drives p then d else d.send 1 0x80 (d.carPortal p) (.state i.block) (some (d.otherWest p))
    | none => d) d
  let d := stxes.foldl (fun (d : Dev) (n : Stx) => d.wrB (Reg.MOT_MSTAT (Stx.axis n)) 7 true) d
  (d.exitFigures).toStep .running

/-- IMAGE_CONSUMED once each image is applied by its driver's first evaluation, or its portal is another
member's (R320, R401). -/
def Dev.consumeImages (d : Dev) : Dev :=
  let done := fun (i : PortalImage) => match toFin? 12 i.slot with
    | none => true
    | some p => !d.enabled p || d.owner p == 1 || (d.drives p && d.portal[p].evaluated)
  if d.boot.images.isEmpty || !d.boot.images.all done then d
  else (d.modBoot (fun b => { b with images := [] })).journal .imageConsumed

/-! ### Life-cycle transitions (R350) -/

/-- A flush completes; an accepted life-cycle order goes on with step 2 of R350, and the reset that ends it is due: until
then WIPE_PENDING stands. -/
def Dev.afterFlush (d : Dev) : Dev :=
  let d := d.flushComplete
  match d.sec.order with
  | none => d
  | some o =>
    if d.rdB Reg.REC_STATUS 1 then d
    else ((d.lcLog o).showSec).resetDue 7

/-- NAND_PROGRAM_COMPLETE: an operation of the flush in progress, or one of a bundle load (R321, R339). -/
def Dev.programmed (d : Dev) (ok : Bool) : Dev :=
  if d.rcd.job.isEmpty && d.rcd.jobAdopt.isEmpty && d.jnl.jobs.isEmpty && d.sec.programming then d.loadProgrammed ok
  else d.nandProgram ok

/-- NOT_STARTED_HOLD_END at time `t` (R401): 5 s after DONE the driver's hold ends. -/
def Dev.holdEnd (d : Dev) : Dev :=
  let d := d.upTo (d.boot.doneAt + ms 5000)
  slots.foldl (fun (d : Dev) p => if d.drives p then d.modPrt p (fun x => { x with holdNs := false }) else d) d

/-- SEQ_HOLD_END: 5 s after start-up (R315). -/
def Dev.seqHoldEnd (d : Dev) : Dev :=
  let d := d.upTo (d.cvn.startAt + ms 5000)
  if decide (d.boot.st ∈ [BootSt.engines, .done, .running]) then d.seqResume else d

end Sys2Proof.Machine
end

