-- ==== Sys2Proof/Machine/Tick.lean ====
section
/-!
DEFINITION. The strobe instant (spec/01 R27 to R34, spec/17 R403, spec/95): what comes about at a
carrier valley, in the order of R403, with the standard task set run natively (log 49); and the
spine frames and the silence that lead to posture (R24 to R26, R394).
-/

namespace Sys2Proof.Machine

/-! ### Kinds of tick (R29) -/

/-- What a tick carries: its index k in the position period, and the kinds beside the current tick. -/
structure Kinds where
  k : Nat
  spd : Bool
  pos : Bool
  obs : Bool
  hk : Bool
  deriving DecidableEq, Repr

/-- The kinds of tick k (R29): speed at multiples of the divider, position at 0, obstacle one tick after each
speed tick, housekeeping at 2. -/
def kindsAt (spdDiv k : Nat) : Kinds :=
  ⟨k, decide (k % spdDiv = 0), decide (k = 0), decide (k % spdDiv = 1), decide (k = 2)⟩

/-- The tick mask (R216). -/
def Kinds.mask (x : Kinds) : Nat := x.spd.toNat + 2 * x.pos.toNat + 4 * x.obs.toNat + 8 * x.hk.toNat

/-! ### Parts of a strobe -/

/-- SAMPLE_TICK_ADVANCE (R27, R375). -/
def Dev.sampleTick (d : Dev) : Dev :=
  let v := d.rd Reg.TBS_SAMPLE_TICK
  let d := d.wr Reg.TBS_SAMPLE_TICK (v + 1)
  if v = 0xFFFFFFFF#32 then d.raiseTbs 3 else d

/-- The strobe's time: the valley that was awaited. -/
def Dev.atValley (d : Dev) (pos : Bool) : Dev :=
  let d := d.upTo d.time.nextValley
  let d := d.modTime (fun t => { t with
    lastStrobe := t.now, shadowClosed := false, posTicks := t.posTicks + pos.toNat, posRun := t.posRun + pos.toNat
    periodStart := if pos then t.now else t.periodStart })
  if pos then { d.modPwr (fun p => { p with wakePulse := false }) with setNow := [] } else d

/-- The next valley, once a commit can no longer change the pattern. -/
def Dev.nextAfter (d : Dev) : Dev :=
  d.modTime (fun t => { t with nextK := t.nextK + 1, nextValley := t.now + d.pwmP })

/-- SNAPSHOT (R33): the registers and request bits as they stand; while bad frames stand, the field die's last
good image (R24). -/
def Dev.snapshot (d : Dev) : Dev :=
  let regs := match d.fio.image with
    | none => d.regs
    | some f => d.regs.filter (fun p => decide (p.1 < 0x050000)) ++ f ++ d.regs.filter (fun p => decide (0x061000 ≤ p.1))
  { d.modFio (fun f => { f with reqSnap := f.hs.toList.map (·.req) }) with
    snap := regs, stepd := d.stepd.map (fun s => { s with issuedSnap := s.issued }) }

/-- Position history, and the strobe of the snapshot in which a latch edge first appears (R114). -/
def Dev.history (d : Dev) (a : Axis) : Dev :=
  let fresh := d.fio.image.isNone
  d.modMot a (fun m => { m with
    hist := ((d.now, d.posInt a) :: m.hist).take 2048
    latch := m.latch.map (fun l => if l.seenAt.isNone && fresh then { l with seenAt := some d.now } else l) })

/-- The interpolated set-point one current tick before tick `j` of `n` (R91). -/
def Dev.spBefore (d : Dev) (a : Axis) (j n : Nat) : Int :=
  let m := d.mot[a]
  if j = 0 then
    let δ := (m.spPrev - m.spPrev2) * (n - 1 : Nat)
    m.spPrev2 + (if n = 0 then 0 else if 0 ≤ δ then δ / n else -((-δ) / n))
  else d.spInterp a (j - 1) n

/-- Compares of one axis at a strobe: arming writes classify themselves, live set-point compares are evaluated
(R111, R112). -/
def Dev.compares (d : Dev) (a : Axis) (j n : Nat) : Dev :=
  let arms := d.mot[a].cmpArm
  let d := d.cmpStrobe a
  let d := d.cmpEval a true (d.spBefore a j n) (d.spInterp a j n)
  if arms.isEmpty then d
  else arms.foldl (fun (d : Dev) i => d.cmpClassify a i) (d.modMot a (fun m => { m with cmpArm := [] }))

/-- The front end of one encoder channel at a strobe instant: the samples before it, and the speed (R124, R129). -/
def Dev.encTick (d : Dev) (c : Enc) : Dev := (d.encUpTo c d.now).speedTick c d.now

/-- Positions that are not to be trusted from this position tick on (R127, R132, R135). -/
def Dev.encPosTicks (d : Dev) (pos : Bool) : Dev := if pos then encs.foldl Dev.encPosTick d else d

/-- The sequencer and the measurements of a step axis at a current tick (R193, R195, R200, R201). -/
def Dev.stepLatch (d : Dev) (i : TickIn) (n : Stx) : Dev :=
  ((d.stepSettle n).stepMeasure n (i.ia.getD n []) (i.ib.getD n [])).devEvaluate n

/-- Writes that wait for a strobe: enables, clears of POS_UNCERTAIN, a bank swap, surrender requests (R34, R136, R159,
R288). -/
def Dev.strobeWrites (d : Dev) : Dev :=
  let d := stxes.foldl Dev.stepEnsDue (saxes.foldl Dev.servoEnsDue d)
  let d := encs.foldl Dev.uncClrDue d
  let d := saxes.foldl (fun (d : Dev) (n : Sax) => match d.servo[n].swapReq with
    | none => d
    | some (b, g) => (d.modServo n (fun s => { s with swapReq := none })).bankSwap n b g) d
  let d := slots.foldl (fun (d : Dev) p => if d.eng[p].surrReq then (d.modEng p (fun e => { e with surrReq := false })).portalSurrender p 2 else d) d
  if d.cvn.surrGo then (d.modCvn (fun c => { c with surrGo := false })).memberSurrender 0x16 else d

/-- SETPOINT_ISSUE of every generator (R91 to R107). -/
def Dev.generators (d : Dev) : Dev :=
  let d := axes.foldl (fun (d : Dev) a => d.motCommands a) d
  axes.foldl (fun (d : Dev) a => d.motIssue a) d

/-! ### The tasks (R30, R141, log 49) -/

/-- Run `f` on each servo axis in use on a portal that is enabled. -/
def Dev.eachServo (d : Dev) (p : Slot) (f : Dev → Sax → Dev) : Dev :=
  (d.servosOf p).foldl (fun (d : Dev) n => if d.axEn (Sax.axis n) then (f d n).pubSat n else d) d

/-- The current task of one portal (R141). -/
def Dev.currentTask (d : Dev) (p : Slot) : Dev :=
  let d := (d.eachServo p Dev.servoCur).accCurrent p
  (d.servosOf p).foldl (fun (d : Dev) n =>
    d.modServo n (fun s => { s with pub := s.pub.set 14 (d.rd (Reg.PRT_STATE p)) })) d

/-- The step task of one portal (R200 to R203). -/
def Dev.stepTaskOf (d : Dev) (p : Slot) : Dev := match d.stepAx p with
  | some n => d.stepTask p n (d.sst p == ssExtending || d.sst p == ssRetracting)
  | none => d

/-- The housekeeping task of one portal (R44); the hold of R401 ends once the other candidate was heard. -/
def Dev.hkTask (d : Dev) (p : Slot) : Dev :=
  let d := if d.portal[p].holdNs && d.boot.peerSeen.getD p false && d.drives p then d.modPrt p (fun x => { x with holdNs := false }) else d
  d.housekeeping p

/-- A standard task of engine `p`'s program, run whole (log 49); a disabled portal has the housekeeping task alone. -/
def Dev.stdTask (d : Dev) (p : Slot) (k : StdTask) : Dev :=
  match k with
  | .housekeeping => d.hkTask p
  | .other => d
  | .position => if d.enabled p then d.eachServo p Dev.servoPos else d
  | .speed => if d.enabled p then (d.eachServo p Dev.servoSpd).accSpeed p else d
  | .current => if d.enabled p then d.currentTask p else d
  | .step => if d.enabled p then d.stepTaskOf p else d
  | .obstacle => if d.enabled p && (d.drives p || d.shadows p) && d.portal[p].evaluated then d.obstacleTask p else d

/-- The standard task that a TASK_ID of engine `n`'s image stands for. -/
def Dev.kindOf (d : Dev) (n : Slot) (id : Nat) : StdTask :=
  match d.eng[n].img with
  | some i => ((i.std.find? (fun x => x.1 == id)).map (·.2)).getD .other
  | none => .other

/-- The tasks of the row in progress, in the order of the row (R30, R217), `k` counting them; none where the words come
as commands. A task that raises an exception at its start ends the row. -/
def Dev.runRow (i : TickIn) (n : Slot) : Nat → Nat → Dev → Dev
  | 0, _, d => d
  | fuel + 1, k, d =>
    match d.taskOn n with
    | none => d
    | some t =>
      let d := d.stdTask n (d.kindOf n t.id)
      if d.eng[n].rest.isEmpty then d
      else Dev.runRow i n fuel (k + 1) (d.startTask n (i.eccOf n (.selector (k + 1))) (i.eccOf n (.entry (k + 1))))

/-- The row of engine `n`, unless its words come as commands. -/
def Dev.rowTasks (d : Dev) (i : TickIn) (n : Slot) : Dev := if d.eng[n].stepping then d else Dev.runRow i n 16 0 d

/-- What a housekeeping tick brings beside the portals' tasks: start-up completes, images are consumed. -/
def Dev.hkTick (d : Dev) : Dev :=
  let d := if d.boot.st = .done ∧ !d.boot.pfStop then d.stepDone else d
  d.consumeImages

/-- The engines' rows: every engine in a state of power that runs the row (R380). -/
def Dev.engRows (d : Dev) (x : Kinds) (i : TickIn) : Dev :=
  let runs := decide (d.pwr.st = .run) || (decide (d.pwr.st = .hold) && x.hk)
  slots.foldl (fun (d : Dev) n => d.engTick i n x.mask runs) d

/-! ### TICK_STROBE (R29, R403) -/

/-- The pace monitor at a position tick: the itinerary in force, and the trip that surrenders the member (R226, R227). -/
def Dev.pacePeriod (d : Dev) : Dev :=
  let r := d.paceSelect
  if r.2 then r.1.memberSurrender 0x10 else r.1

/-- A position period whose SYNC pulse has not come yet; one that had none breaks the run toward lock (R278). -/
def Dev.pulseAwait (d : Dev) : Dev :=
  if d.solo || d.rdB Reg.CVN_STATUS 17 then d
  else d.modCvn (fun c => { c with silent := c.silent + 1, missCnt := c.missCnt + 1, lockCnt := if c.missCnt = 0 then c.lockCnt else 0 })

/-- The commit that a position tick resolves: its GO came 40 µs before, or earlier (R402). -/
def Dev.commitDue (d : Dev) : Dev := if d.time.goAt + us 40 ≤ d.now then d.commitResolve else d

/-- What every position tick begins with: the triggers may fire again, itinerary and pace trip, the commit (R226, R227,
R278, R307, R402). -/
def Dev.posFirst (d : Dev) : Dev :=
  ((d.modRcd (fun r => { r with fired := [], mbxCnt := List.replicate 12 0 })).pulseAwait.pacePeriod).commitDue

/-- The start of the engines, and the set-points. -/
def Dev.posThen (d : Dev) : Dev :=
  let d := if d.boot.st = .engines ∧ !d.boot.pfStop then d.stepEngines else d
  d.engStarts.generators

/-- What a position tick does once its tasks are done: power-fail work, home returns, health, power state. -/
def Dev.posAfter (d : Dev) (hostIdle : Bool) : Dev :=
  let d := d.homeReleases.healthTick
  let d := if d.solo then d else d.crossRead
  if d.boot.st = .running then d.powerPick hostIdle else d

/-- The HALTs that wait for this strobe instant. One on an axis that an engine exception of the same instant silences
falls to the silence (R206). -/
def Dev.haltsNow (d : Dev) (x : Kinds) (i : TickIn) : Dev :=
  let due := axes.filter (fun a => d.mot[a].mcmds.any (fun c => c.code == 5))
  if due.isEmpty then d
  else
    let e := d.engRows x i
    let out := slots.filter (fun n => d.engRun n && !e.engRun n && d.drives n)
    (due.filter (fun a => !out.any (fun n => (d.axesOf n).contains a))).foldl Dev.haltsDue d

/-- A strobe instant while the controller runs (RUN or HOLD). -/
def Dev.liveStrobe (d : Dev) (x : Kinds) (n : Nat) (i : TickIn) (hostIdle : Bool) : Dev :=
  let run := decide (d.pwr.st = .run)
  let d := encs.foldl Dev.encTick d
  let d := stxes.foldl (fun (d : Dev) s => d.stepLatch i s) d
  let d := saxes.foldl (fun (d : Dev) s => (d.servoLatch s (i.iu.getD s []) (i.iv.getD s [])).servoShadow s) d
  let d := d.strobeWrites.encPosTicks x.pos
  let d := (if x.pos then d.posFirst else d).haltsNow x i
  let d := if x.pos then d.posThen else d
  let d := d.nextAfter
  let d := axes.foldl (fun (d : Dev) a => (d.history a).compares a x.k n) d
  let d := stxes.foldl (fun (d : Dev) s => d.microsteps s x.k n) d
  let d := d.snapshot
  let d := if x.pos then (d.stateCapture.installs).pfTick else d
  let d := d.paceMeasure i.replicas
  let d := if x.hk then slots.foldl Dev.engFault d else d
  let d := d.engRows x i
  let d := if run then d.traceTick x.k n else d
  let d := slots.foldl (fun (d : Dev) p => d.rowTasks i p) d
  let d := if x.hk then d.hkTick else d
  if x.pos then d.posAfter hostIdle else d

/-- A strobe in STABLE: the engines and the servo and step front ends stand; the ticks, the encoders, the snapshot and
the pace monitor go on, and its trip surrenders as in RUN (R380, R389). -/
def Dev.stableStrobe (d : Dev) (x : Kinds) (i : TickIn) : Dev :=
  let d := (encs.foldl Dev.uncClrDue (encs.foldl Dev.encTick d)).encPosTicks x.pos
  let d := if x.pos then d.posFirst else d
  let d := slots.foldl (Dev.showMask · x.mask) (axes.foldl Dev.history d.nextAfter)
  d.snapshot.paceMeasure i.replicas

/-- TICK_STROBE: the awaited valley. None while the carrier stands: before the release of RST_N or PLL lock,
after a crystal loss, in DORMANT. -/
def Dev.tickStrobe (d : Dev) (i : TickIn) (hostIdle : Bool) : Dev :=
  if !d.ticking then d
  else
    let d := d.syncStrobe
    let n := max 1 d.ticksPerPos
    let x := kindsAt (max 1 d.spdDiv) (d.time.nextK % n)
    let d := d.modTime (fun t => { t with nextK := t.nextK % n })
    let d := (d.atValley x.pos).sampleTick
    let d := (d.wrF Reg.TBS_STATUS 19 16 x.mask).wrF Reg.TBS_STATUS 13 8 x.k
    if d.boot.st = .reset then d.nextAfter
    else
      let d := d.surrStrobe
      let d := if d.pwr.st = .stable then d.stableStrobe x i else d.liveStrobe x n i hostIdle
      encs.foldl Dev.encHeld d

/-- SHADOW_CLOSE (R31): 1 µs before the next valley. -/
def Dev.shadowClose (d : Dev) : Dev :=
  (d.upTo (d.time.nextValley - us 1)).modTime (fun t => { t with shadowClosed := true })

/-! ### The spine (R24 to R26, R394) -/

/-- The spine event of R25. No table names its source or a record of it: an occurrence of some source (log 110). -/
def Dev.spineEvent (d : Dev) : Dev := d.occur (d.free 70 64)

/-- A trip at the control-die end (R25): gates and bridges silenced, driven portals to FAULT, the spine event,
surrender 12h. -/
def Dev.tripControl (d : Dev) : Dev :=
  let d := ((axes.filter d.drivesAx).foldl Dev.silenceAx d).spineEvent
  let d := (slots.filter (fun p => d.enabled p && d.drives p)).foldl (fun (d : Dev) p =>
    ((d.enter p psFault 0x0C).stepHaltNow p).cycleEnd p false) d
  ((d.memberSurrender 0x12).resetDue 5).resetFlush

/-- A trip at the field-die end: posture, and the reset of the control die that clears the trip. -/
def Dev.tripField (d : Dev) : Dev := (d.enterPosture.resetDue 5).resetFlush

/-- A frame that carries the posture bit silences the axes driven (R394). -/
def Dev.postureSilence (d : Dev) : Dev :=
  if d.fio.posture && d.canRecord then
    (axes.filter (fun a => d.drivesAx a && d.axEn a && !d.mot[a].silenced)).foldl Dev.silenceAx d
  else d

/-- SPINE_FRAME at time `t`: received at the field die (`up`) or at the control die, its CRC good or not. A posture that
upstream silence brought in service ends with the next good upstream frame, without a reset (log 111). -/
def Dev.spineFrame (d : Dev) (up ok : Bool) (t : Nat) : Dev :=
  let d := d.upTo t
  if ok then
    if up then
      let due := d.fio.reqDue
      let o := d
      let d := d.modFio (fun f => { f with badUp := false, silent := false, frame := [], reqDue := [], upImage := none })
      let d := if o.fio.upImage.isSome then (d.noteSampling o).hsSettleAll else d
      let d := due.foldl (fun (d : Dev) p => d.takeReq p.1 p.2) d
      if d.fio.posture && decide (d.boot.st = .running) && d.postureMayEnd then d.leavePosture else d
    else (d.modFio (fun f => { f with badDn := false, image := none })).postureSilence
  else
    let d := d.incSat Reg.SYS_SPINE_ERR 0xFFFFFFFF
    let recent := fun (ts : List Nat) => d.now :: ts.filter (fun x => decide (d.now < x + ms 1))
    let held := d.regs.filter (fun p => isField p.1)
    if up then
      let fs := recent d.fio.failsUp
      let trip := (d.fio.badUp || decide (8 ≤ fs.length)) && !d.fio.tripUp
      let d := d.modFio (fun f => { f with
        badUp := true, failsUp := fs, tripUp := f.tripUp || trip
        upImage := some (f.upImage.getD held) })
      if trip then d.tripField else d
    else
      let fs := recent d.fio.failsDn
      let trip := (d.fio.badDn || decide (8 ≤ fs.length)) && !d.fio.tripDn && d.canRecord
      let d := d.modFio (fun f => { f with
        badDn := true, failsDn := fs, tripDn := f.tripDn || trip, image := some (f.image.getD held) })
      if trip then d.tripControl else d

/-- UPSTREAM_SILENCE at time `t`: no good upstream frame for 20 µs. -/
def Dev.upstreamSilence (d : Dev) (t : Nat) : Dev :=
  ((d.upTo t).modFio (fun f => { f with silent := true })).enterPosture

/-! ### SYNC frames (R278, R383) -/

/-- SYNC_FRAME: a follower adopts the leader's tick configuration, tick index and position-period count at the tick that the
frame names (R28, R278); every member takes JOINT, and the leader's own frame carries no more than it has heard (R383). -/
def Dev.syncFrame (d : Dev) (cfg : Word) (idx : BitVec 8) (pseq : BitVec 16) (joint : BitVec 2) : Dev :=
  if d.solo then d
  else
    let leader := d.rdB Reg.CVN_STATUS 17
    let d := if leader then d else d.modCvn (fun c => { c with syncDue := some (cfg, idx.toNat, pseq.toNat), syncArm := false })
    let j := if leader then min joint.toNat d.depthHeard else joint.toNat
    let st : Option PwrSt := match j with | 0 => none | 1 => some .hold | 2 => some .stable | _ => some .dormant
    d.modPwr (fun p => { p with joint := st })

end Sys2Proof.Machine
end

