-- ==== Sys2Proof/Machine/HostPort.lean ====
section
/-!
DEFINITION. The host port (spec/15 R355 to R373): what a read shows and what a write of a register does
(R16 to R19, R420 to R429), frames with their trailers and credits, and the completion of posted
writes. Every frame row carries the time at which its host phase ends.
-/

namespace Sys2Proof.Machine

/-! ### Reads (R16, R18, R398, R422 to R425) -/

/-- Blocks that the host reaches before DONE: SYS, LCS, EVC, HST, SEC (R398). -/
def earlyBlock (a : Nat) : Bool :=
  decide (a < 0x2000) || decide (0x4000 ≤ a ∧ a < 0x8000)

/-- Start-up has reached DONE. -/
def Dev.up (d : Dev) : Bool := decide (d.boot.st = .done ∨ d.boot.st = .running)

/-- The port takes frames: after the KEYS step, not in STABLE or DORMANT, and with VDDIO18 in range (R36, R361,
R398). -/
def Dev.takesFrames (d : Dev) : Bool :=
  !decide (d.boot.st = .reset ∨ d.boot.st = .wipe ∨ d.boot.st = .keys)
    && !decide (d.pwr.st = .stable ∨ d.pwr.st = .dormant) && !d.pwr.oor.getD 3 false

/-- The host reaches every block: start-up is over and the port takes frames. -/
def Dev.hostUp (d : Dev) : Bool := d.up && d.takesFrames

/-- In RETURNED, where start-up stops in the KEYS step, the records stay readable (R348, R350, log 150). -/
def Dev.inquiry (d : Dev) : Bool := decide (d.boot.st = .stopped) && d.lcState == 3

/-- The host's reads and writes reach the word at `a` (R350, R398). -/
def Dev.reaches (d : Dev) (a : Nat) : Bool := d.up || earlyBlock a || (d.inquiry && decide (0x70000 ≤ a ∧ a < 0x71100))

/-- Saturate a number to `n` bits. -/
def capN (n v : Nat) : Nat := min (2 ^ n - 1) v

/-- The own records retained. -/
def Dev.ownSeqs (d : Dev) : List Nat :=
  ((d.rcd.store.filter (fun s => !s.adopted && !decide (s.item.req.kind = .seal))).map (fun s => s.item.seq)) ++ d.rcd.unfl.map (fun p => p.2.seq)
/-- The oldest retained own record; 0 where there is none. -/
def Dev.oldestSeq (d : Dev) : Nat := match d.ownSeqs with
  | [] => 0
  | s :: ss => ss.foldl min s

/-- REC.STATUS, REC.BUF_STATUS and TALLYsrc as they stand (R333). -/
def Dev.recStatus (d : Dev) : Word :=
  let w := setBit (d.rd Reg.REC_STATUS) 7 d.rcd.seqHold
  setBit (setBit w 6 (d.rcd.store.any (fun s => s.adopted && !s.returned))) 5 d.haboobNow
def Dev.bufStatus (d : Dev) : Word :=
  wn (d.rcd.prio.length * 2 ^ 24 + d.rcd.intake.length * 2 ^ 16 + capN 16 (d.unflBytes / 8))
def Dev.tallyWord (d : Dev) (src : Nat) : Word :=
  wn (capN 32 ((d.rcd.tallies.filter (fun t => t.src == src)).map (·.count)).sum)

/-- Time in a power state, the whole seconds that have passed (R390, log 42). -/
def Dev.timeIn (d : Dev) (s : Nat) : Word :=
  wn (capN 32 ((d.pwr.inState.getD s 0 + (if d.pwr.st.code = s then d.now - d.pwr.lastAcc else 0)) / ms 1000))

/-- MIRAGE_AGE: the oldest install among held slots, 0.1 ms units (R299). -/
def Dev.mirageAge (d : Dev) : Word :=
  let ages := slots.filterMap (fun p => if d.enabled p && !d.drives p then (d.cvn.mirages[p].installed).map (fun t => (d.near ((d.now - t : Nat) / 20000 : Rat) 64).toNat) else none)
  match ages with
  | [] => 0xFFFF
  | a :: as => wn (capN 16 (as.foldl max a))

/-- REMAIN of a lease: to this member's expiry, or to its claim time, ms (R294, R299). -/
def Dev.leaseRemain (d : Dev) (p : Slot) : Nat :=
  let l := d.cvn.leases[p]
  let left := fun (t : Nat) => capN 8 (d.near ((t - d.now : Nat) / (ms 1 : Nat) : Rat) 65).toNat
  if d.leaseState p = 1 then (match l.answered with | some t => left (t + ms 20) | none => 0)
  else (match l.rcvd with | some t => left (t + ms 22) | none => 0)

/-- TBS.STATUS (R426). -/
def Dev.tbsStatus (d : Dev) : Word :=
  setBit (setBit (setBit (d.rd Reg.TBS_STATUS) 2 d.ticking) 1 (d.time.pllLock && !decide (d.pwr.st = .dormant))) 0 d.time.xtalOk

/-- HST.STATUS and HST.ERR_CNT (R372). -/
def HostPort.status (h : HostPort) : Word := wn (h.doneTag * 2 ^ 24 + h.tag * 2 ^ 16 + h.ret * 2 ^ 8 + h.taken)

/-- Registers that show a state held elsewhere. -/
def Dev.view (d : Dev) (h : HostPort) (a : Nat) : Option Word :=
  if a = Reg.SYS_RESET_CAUSE then some (setFld (d.rd a) 9 8 (min 3 d.spineResets.length))
  else if a = Reg.SYS_STATUS then some (setBit (d.rd a) 16 d.fio.posture)
  else if a = Reg.LCS_JTAG then some (wn ((d.jtagOk .extest false).toNat * 2 + (d.jtagOk .sample false).toNat))
  else if 0x2050 ≤ a ∧ a < 0x2060 then some (d.timeIn ((a - 0x2050) / 4))
  else if a = Reg.TBS_TIME_LO then some (wn d.timeCounter)
  else if a = Reg.TBS_TIME_HI then some d.time.timeHi
  else if a = Reg.TBS_STATUS then some d.tbsStatus
  else if a = Reg.EVC_ACTIVE 0 then some (d.activeWord 0)
  else if a = Reg.EVC_ACTIVE 1 then some (d.activeWord 1)
  else if a = Reg.EVC_TOP then some d.topWord
  else if a = Reg.HST_STATUS then some h.status
  else if a = Reg.HST_ERR_CNT then some (setFld (d.rd a) 7 0 h.errCnt)
  else if a = Reg.SEC_SESS_STATUS then some (match d.sec.session with
    | some s => setFld (d.rd a) 31 16 (capN 16 (d.near ((s.endsAt - d.opTime : Nat) / 1000 : Rat) 66).toNat)
    | none => d.rd a)
  else if a = Reg.CVN_STATUS then some (setBit (d.rd a) 18 d.pullsSurr)
  else if a = Reg.CVN_MIRAGE_AGE then some d.mirageAge
  else if 0x8104 ≤ a ∧ a < 0x8164 ∧ a % 8 = 4 then
    some (match toFin? 12 ((a - 0x8104) / 8) with
      | some p => setFld (d.rd a) 23 16 (d.leaseRemain p)
      | none => 0)
  else if a = Reg.REC_STATUS then some d.recStatus
  else if a = Reg.REC_BUF_STATUS then some d.bufStatus
  else if a = Reg.REC_STORE_USED then some (wn (d.pagesUsed false))
  else if a = Reg.REC_SAFETY_USED then some (wn (d.pagesUsed true))
  else if a = Reg.REC_OLDEST_SEQ_LO then some (wn d.oldestSeq)
  else if a = Reg.REC_NEXT_SEQ_HI then some (wn (d.rcd.hiLatch.getD 0 0))
  else if a = Reg.REC_FLUSHED_SEQ_HI then some (wn (d.rcd.hiLatch.getD 1 0))
  else if a = Reg.REC_OLDEST_SEQ_HI then some (wn (d.rcd.hiLatch.getD 2 0))
  else if 0x70100 ≤ a ∧ a < 0x70200 then some (d.tallyWord ((a - 0x70100) / 4))
  else if a = Reg.JNL_PENDING then some (wn d.jnl.pendingBytes)
  else if a = Reg.JNL_STATUS then some (setFld (d.rd a) 15 8 d.jnl.fill)
  else none

/-- Bytes of a NAND page in raw mode (R322, R329): data of the records on it, the trailer once the page is
closed; on a page of the journal its entries; FFh where nothing is programmed. -/
def Dev.rawPage (d : Dev) (page : Nat) : List Byte :=
  let b := page / 64
  let pg := page % 64
  let ff := fun (n : Nat) => List.replicate n (0xFF#8)
  if 128 ≤ b ∧ b < 256 then
    let es := (if b < 192 then d.jnl.half0 else d.jnl.half1).filter (fun e => e.page == page % 4096)
    let data := es.foldl (fun (acc : List Byte) e => acc ++ ff (e.ofs - acc.length) ++ e.bytes) []
    data ++ ff (2048 - data.length)
  else if 256 ≤ b ∧ b < 1984 then
    let ss := d.rcd.store.filter (fun s => s.block == b && s.page == pg)
    match ss with
    | [] => ff 2048
    | s :: _ =>
      let data := ss.flatMap (fun x => x.item.bytes)
      let isOpen := [d.rcd.genOpen, d.rcd.safOpen].any (fun o => match o with | some (b', pg', _) => b' == b && pg' == pg | none => false)
      let seqs := (ss.filter (fun x => !decide (x.item.req.kind = .seal))).map (fun x => x.item.seq)
      let lo := seqs.foldl min (seqs.getD 0 0)
      let chain := (ss.getLast?.map (·.chain)).getD 0
      data ++ ff (1984 - data.length) ++
        (if isOpen then ff 64
         else leBytes 6 lo ++ leBytes 6 (seqs.foldl max 0) ++ leBytes 2 ss.length ++ leBytes 1 s.origin
          ++ leBytes 1 (s.adopted.toNat + 2 * s.reclaimCopy.toNat + 4 * s.returned.toNat) ++ leBytes 16 0 ++ leBytes 32 chain)
  else ff 2048

/-- The record window (R327, R329). -/
def Dev.recWindow (d : Dev) : List Byte :=
  let c := d.rd Reg.REC_WIN_CFG
  if bit c 0 then ((d.rawPage (d.rdF Reg.REC_RAW_PAGE 16 0)).drop (256 * fld c 18 16)).take 256
  else match d.rcd.win with
    | .nothing => List.replicate 256 0
    | .empty => List.replicate 256 0xFF#8
    | .record r => let b := r.bytes; (b ++ List.replicate (256 - b.length) 0xFF#8).take 256

/-- What a window word reads (R424, R425); `none` where `a` lies in no window. -/
def Dev.window? (d : Dev) (a : Nat) : Option Word :=
  if 0x7000 ≤ a ∧ a < 0x8000 then some 0
  else if 0x71000 ≤ a ∧ a < 0x71100 then some (wn (leNat ((d.recWindow.drop (a - 0x71000)).take 4)))
  else if 0x90000 ≤ a ∧ a < 0xD0000 then
    some (Cells.read zeroCell d.trace.ram ((a - 0x90000) / 0x8000 * 8192 + (a - 0x90000) % 0x8000 / 4))
  else if 0x100000 ≤ a ∧ a < 0x1C0000 ∧ 0x4000 ≤ a % 0x10000 ∧ a % 0x10000 < 0x8000 then
    some (match toFin? 12 ((a - 0x100000) / 0x10000) with
      | some n => Cells.read zeroCell d.eng[n].data ((a % 0x10000 - 0x4000) / 4)
      | none => 0)
  else if 0x200000 ≤ a ∧ a < 0x280000 then some (wn (leNat (Cells.readRun zeroCell 1 d.tmem (a - 0x200000) 4)))
  else if 0x20000 ≤ a ∧ a < 0x28000 ∧ 0x300 ≤ a % 0x800 ∧ a % 0x800 < 0x350 then
    some (match toFin? 16 ((a - 0x20000) / 0x800) with
      | some n => d.bk n ((a % 0x800 - 0x300) / 4)
      | none => 0)
  else none

/-- A read of a register by access type: staged bits from staging, write-only bits 0, the rest in force (R16, R24). -/
def Dev.regRead (d : Dev) (r : RegAt) (a : Nat) : Word :=
  (d.rdUp a &&& ~~~r.stMask &&& ~~~r.woMask) ||| (d.stg a &&& r.stMask)

/-- The word that the host reads at `a`, before what the read latches (R16, R18, R398). -/
def Dev.peek (d : Dev) (h : HostPort) (a : Nat) : Word :=
  if !d.reaches a then (if decide (0x200000 ≤ a) then 0 else resetOf a)
  else match d.view h a with
    | some w => w
    | none => match d.window? a with
      | some w => w
      | none => match regAt a with
        | some r => d.regRead r a
        | none => 0

/-- What a read leaves behind: TIME_LO and the low SEQ registers latch their high halves (R27, R422). -/
def Dev.latchRead (d : Dev) (a : Nat) : Dev :=
  if !d.reaches a then d
  else if a = Reg.TBS_TIME_LO then d.modTime (fun t => { t with timeHi := wn (d.timeCounter / 2 ^ 32) })
  else
    let hi := fun (i v : Nat) => d.modRcd (fun r => { r with hiLatch := r.hiLatch.set i (v / 2 ^ 32) })
    if a = Reg.REC_NEXT_SEQ_LO then hi 0 d.nextSeq
    else if a = Reg.REC_FLUSHED_SEQ_LO then hi 1 (d.seqAt Reg.REC_FLUSHED_SEQ_LO)
    else if a = Reg.REC_OLDEST_SEQ_LO then hi 2 d.oldestSeq
    else d

/-- Words whose error-correcting code the host read can meet: data memories, table memory, and NAND pages in raw
mode (R329, R424, R425). A corrected error of a data memory is counted (R212). -/
def Dev.hostRead (d : Dev) (h : HostPort) (ecc : List (Nat × Ecc)) (a : Nat) : Dev × Word :=
  let out := ((ecc.find? (fun x => x.1 == a)).map (·.2)).getD .good
  let data := decide (0x100000 ≤ a) && (d.window? a).isSome && d.up
  let raw := decide (0x71000 ≤ a ∧ a < 0x71100) && d.rdB Reg.REC_WIN_CFG 0
  let d' := d.latchRead a
  if decide (out = .bad) && data then (d', 0xFFFFFFFF)
  else if decide (out = .bad) && raw then (d'.wrB Reg.REC_WIN_STATUS 3 true, d.peek h a)
  else if decide (out = .corrected) && data then
    match (if a < 0x200000 then toFin? 12 ((a - 0x100000) / 0x10000) else none) with
    | some n => (d'.eccCorrected n false, d.peek h a)
    | none => (d', d.peek h a)
  else (d', d.peek h a)

/-- Read `n` words from `a` upward (R359). -/
def Dev.hostReads (d : Dev) (h : HostPort) (bad : List (Nat × Ecc)) : Nat → Nat → Dev × List Word
  | _, 0 => (d, [])
  | a, n + 1 =>
    let (d1, w) := d.hostRead h bad a
    let (d2, ws) := Dev.hostReads d1 h bad (a + 4) n
    (d2, w :: ws)

/-! ### Register writes (R16 to R19, R423) -/

/-- Apply `f` where `c` holds. -/
def Dev.onBit (d : Dev) (c : Bool) (f : Dev → Dev) : Dev := if c then f d else d

/-- A gated register (LOAD_LEN, LOAD_OFS) takes a write that carries the BUNDLE right (R339, R346). -/
def Dev.gatedLoad (d : Dev) (a : Nat) (v : Word) (gate : Bool) : Dev :=
  if gate && d.hasRight 3 then d.wr a v else d.loadFail 0x0A 0 0

/-- SEC.CTRL (R354). -/
def Dev.secCtrl (d : Dev) (v : Word) (gate : Bool) : Dev :=
  let d := (d.onBit (bit v 1) Dev.chalReq).onBit (bit v 2) Dev.sessStart
  let d := (d.onBit (bit v 3) Dev.attest).onBit (bit v 4) Dev.certRead
  let d := (d.onBit (bit v 5) (Dev.sessEndCmd · gate)).onBit (bit v 6) (Dev.svnCommit · gate)
  (d.onBit (bit v 7) (Dev.revert · gate)).onBit (bit v 8) (Dev.keyOrder · gate)

/-- SEC.LOAD_CTRL (R339). -/
def Dev.secLoad (d : Dev) (v : Word) (gate : Bool) : Dev :=
  ((d.onBit (bit v 0) (Dev.loadBegin · gate)).onBit (bit v 1) (Dev.loadEnd · gate)).onBit (bit v 2) (Dev.loadAbortCmd · gate)

/-- SAXn.CTRL: the acknowledgements, then EN (R161, R162); ignored with EN_REJ on a member that does not drive the
portal (R168). -/
def Dev.saxCtrl (d : Dev) (n : Sax) (v : Word) : Dev :=
  if !d.mayDrive n then d.raiseSax n 9
  else
  let high := d.rdB (Reg.SAX_STATUS n) 4
  let d := ((d.onBit (bit v 1) (Dev.fltAck · n high)).onBit (bit v 2) (Dev.ocAck · n)).onBit (bit v 3) (Dev.dsmAck · n)
  d.servoEn n (bit v 0)

/-- SAXn.BANK_CTRL: BUMPLESS, SEAL and REQ; REQ waits for the next strobe (R158, R159). On a member that does not drive
the portal the write is ignored with SWAP_REJ (R168), and a REQ in it with its reason (R160). -/
def Dev.saxBank (d : Dev) (n : Sax) (v : Word) (gate : Bool) : Dev :=
  let r := fld v 1 0
  if !d.mayDrive n then (if r = 1 ∨ r = 2 then d.wrF (Reg.SAX_BANK_CTRL n) 31 28 4 else d).raiseSax n 7
  else
    let d := (d.wrB (Reg.SAX_BANK_CTRL n) 4 (bit v 4)).onBit (bit v 2) (Dev.sealStart · n)
    if r = 1 ∨ r = 2 then d.modServo n (fun s => { s with swapReq := some (decide (r = 2), gate) }) else d

/-- STXn.CTRL: the acknowledgements, then EN (R198). -/
def Dev.stxCtrl (d : Dev) (n : Stx) (v : Word) : Dev :=
  ((d.onBit (bit v 1) (Dev.shortAck · n)).onBit (bit v 2) (Dev.stepDsmAck · n)).stepEn n (bit v 0)

/-- HST.CFG: HOST_TMO; WIDTH takes effect at the end of the frame that carries it (R356, `widthEdge`). -/
def Dev.hstCfg (d : Dev) (v : Word) : Dev := d.wrF Reg.HST_CFG 15 8 (fld v 15 8)

/-- CVN.SURRENDER.GO, gated by the SURRENDER right; it takes effect at the next strobe (R288, R346). -/
def Dev.surrWrite (d : Dev) (gate : Bool) : Dev :=
  if gate && d.hasRight 5 && !d.solo then d.modCvn (fun c => { c with surrGo := true }) else d

/-- REC.CTRL (R316, R327). -/
def Dev.recCtrl (d : Dev) (v : Word) : Dev :=
  ((d.onBit (bit v 0) Dev.flushTrigger).onBit (bit v 1) (Dev.seek · false)).onBit (bit v 2) (Dev.seek · true)

/-- REC.CURSOR_LO: the write loads the window (R327). -/
def Dev.cursorLo (d : Dev) (v : Word) : Dev := (d.wr Reg.REC_CURSOR_LO v).windowLoad

/-- A generator by the address of its motion page. -/
def motAxisAt (a : Nat) : Option Axis :=
  if 0x20000 ≤ a ∧ a < 0x28000 then toFin? 28 ((a - 0x20000) / 0x800)
  else if 0x30000 ≤ a ∧ a < 0x36000 then toFin? 28 (16 + (a - 0x30000) / 0x800)
  else none

/-- A write of the RW and WO bits of registers that act on a write, beyond holding a value: the block's base and
the register's offset name it. `none` where the register only holds its RW bits. -/
def Dev.special (d : Dev) (r : RegAt) (a : Nat) (v : Word) (gate : Bool) : Option Dev :=
  let o := r.row.off
  let n := r.inst
  let i := r.idx
  let at' := fun {k : Nat} (x : Option (Fin k)) (f : Fin k → Dev) => some (match x with | some y => f y | none => d)
  match r.block.base with
  | 0x000000 => if o = 0x10 then some (d.onBit (bit v 0) Dev.resetGo) else if o = 0x14 then some (d.onBit (bit v 0) Dev.commitGo) else none
  | 0x001000 => if o = 0x04 then some (d.onBit (bit v 0) (Dev.lifeCycle · gate)) else none
  | 0x002000 => if o = 0x08 then some (d.tolWrite 0 v) else if o = 0x0C then some (d.tolWrite 1 v)
      else if o = 0x10 then some (d.tolWrite 2 v) else none
  | 0x004000 => if o = 0x08 then some (d.writeEn i v) else if o = 0x20 then some (d.onBit (bit v 0) (Dev.occur · 63)) else none
  | 0x005000 => if o = 0x00 then some (d.hstCfg v) else none
  | 0x006000 => if o = 0x08 then some (d.secLoad v gate) else if o = 0x0C ∨ o = 0x10 then some (d.gatedLoad a v gate)
      else if o = 0x24 then some (d.secCtrl v gate) else none
  | 0x008000 => if o = 0x24 then some (d.xferWrite v gate) else if o = 0x28 then some (d.onBit (bit v 0) (Dev.surrWrite · gate)) else none
  | 0x010000 => if o = 0x04 then at' (toFin? 12 n) (fun p => d.cmdWrite p (fld v 3 0) gate)
      else if o = 0x11C then at' (toFin? 12 n) (fun p => (d.bypass p (bit v 0) gate).onBit (bit v 1) (Dev.driftRestart · p)) else none
  | 0x020000 => if o = 0x00 then at' (toFin? 16 n) (fun n => d.saxCtrl n v)
      else if o = 0x50 then at' (toFin? 16 n) (fun n => d.saxBank n v gate)
      else if o = 0x200 ∨ o = 0x280 then some (d.bankWrite a v).1
      else if o = 0x150 then at' (motAxisAt a) (fun x => d.mcmdTake x (fld v 3 0) false)
      else if o = 0x190 then at' (motAxisAt a) (fun x => d.cmpArmWrite x i (bit v 15)) else none
  | 0x030000 => if o = 0x00 then at' (toFin? 12 n) (fun n => d.stxCtrl n v)
      else if o = 0x150 then at' (motAxisAt a) (fun x => d.mcmdTake x (fld v 3 0) false)
      else if o = 0x190 then at' (motAxisAt a) (fun x => d.cmpArmWrite x i (bit v 15)) else none
  | 0x040000 => if o = 0x04 then at' (toFin? 28 n) (fun c => (d.onBit (bit v 0) (Dev.uncClr · c)).onBit (bit v 1) (Dev.driftClr · c)) else none
  | 0x050000 => if o = 0x30 then some (d.inEvenWrite i v) else none
  | 0x051000 => if o = 0x10 then some (d.hostReq i v)
      else if o = 0x10C then at' (toFin? 48 i) (fun c => d.onBit (bit v 0) (Dev.hsClr · c)) else none
  | 0x070000 => if o = 0x00 then some (d.recCtrl v) else if o = 0x10 then some (d.cursorLo v) else none
  | 0x080000 => if o = 0x00 then some (d.traceCtrl v) else if o = 0x0C ∨ o = 0x40 then some (d.traceCfgWrite a r.rwMask v)
      else if o = 0x20 then some (d.onBit (bit v 0) Dev.traceManual) else none
  | 0x100000 => if o = 0x04 then at' (toFin? 12 n) (fun p => (d.onBit (bit v 0) (Dev.engRestart · p)).onBit (bit v 1) (Dev.engStatClr · p)) else none
  | _ => none

/-- LK fields are locked: FIELD and every later state (R16, R348). -/
def Dev.lkLocked (d : Dev) : Bool := decide (2 ≤ d.lcState)

/-- The ST fields of a word that the interlock map governs are not the host's (R86). -/
def Dev.ilkOwned (d : Dev) (a : Nat) : Bool := decide (0x50040 ≤ a ∧ a < 0x50300) && d.rdB a 16

/-- A write of ST bits (R16, R402): staged, refused as LOCKED or STAGING, or dropped. -/
def Dev.stageWrite (d : Dev) (r : RegAt) (a : Nat) (v : Word) : Dev × Nat :=
  if r.stMask = 0 then (d, 0)
  else
    let lk := if d.lkLocked then r.lkMask else 0
    let st := r.stMask &&& ~~~lk
    let code := if (v ^^^ d.rd a) &&& lk ≠ 0 then 6 else if d.rdB Reg.SYS_COMMIT_STATUS 31 && st != 0 then 9 else 0
    if d.rdB Reg.SYS_COMMIT_STATUS 31 || d.ilkOwned a then (d, code)
    else (d.stage a ((d.stg a &&& ~~~st) ||| (v &&& st)), code)

/-- One word of a host write, window words apart: staged fields, W1C bits, then RW and WO fields. -/
def Dev.regWrite (d : Dev) (a : Nat) (v : Word) (gate : Bool) : Dev × Nat :=
  match regAt a with
  | none => (d, 0)
  | some r =>
    let (d, code) := d.stageWrite r a v
    let d := if r.w1cMask = 0 then d else d.w1c a r.w1cMask v
    match d.special r a v gate with
    | some d => (d, code)
    | none => (if r.rwMask = 0 then d else d.wr a ((d.rd a &&& ~~~r.rwMask) ||| (v &&& r.rwMask)), code)

/-- One word of a host write. -/
def Dev.writeWord (d : Dev) (a : Nat) (v : Word) (gate : Bool) : Dev × Nat :=
  if 0x200000 ≤ a then (if a < 0x240000 then d.bankWrite a v else (d, 0))
  else d.regWrite a v gate

/-- Words of a write in ascending order; the error reported is LOCKED before STAGING. -/
def Dev.writeWords (d : Dev) (gate : Bool) : Nat → List Word → Dev × Nat
  | _, [] => (d, 0)
  | a, v :: vs =>
    let (d1, c1) := d.writeWord a v gate
    let (d2, c2) := Dev.writeWords d1 gate (a + 4) vs
    (d2, if c1 = 6 ∨ c2 = 6 then 6 else max c1 c2)

/-- A target of the write cannot take it: the message buffer in use, the bundle slot being programmed, a bank
whose seal is in progress; or a block that start-up has not reached (R339, R398, R424, R425). -/
def Dev.writeBusy (d : Dev) (a n : Nat) : Bool :=
  let hit := fun (lo hi : Nat) => decide (a < hi ∧ lo < a + n)
  !d.reaches a
    || (hit 0x6400 0x6800 && d.rdB Reg.SEC_MSG_STATUS 0)
    || ((hit 0x6010 0x6014 || hit 0x7000 0x8000) && d.sec.programming)
    || saxes.any (fun m => d.rdB (Reg.SAX_BANK_CTRL m) 19 &&
        (let b := 0x200000 + bankTbl m (!d.bankB m); hit b (b + 0x1800)))

/-- A whole write, `bytes` its data. -/
def Dev.applyWrite (d : Dev) (a : Nat) (ws : List Word) (gate : Bool) : Dev × Nat :=
  if d.writeBusy a (4 * ws.length) then (d, 8)
  else if 0x7000 ≤ a ∧ a < 0x8000 then (d.loadWindow (a - 0x7000) (ws.flatMap (fun w => leBytes 4 w.toNat)) gate, 0)
  else
    let k := (0x7000 - a) / 4
    let (d1, c) := d.writeWords gate a (if a < 0x7000 then ws.take k else ws)
    if a < 0x7000 ∧ k < ws.length then
      (d1.loadWindow 0 ((ws.drop k).flatMap (fun w => leBytes 4 w.toNat)) gate, c)
    else (d1, c)

/-- A word of a write asks for what adds a journal entry once it takes effect: a COMMIT that would be accepted with
differences, a seal, a swap that would be accepted (R316, R330). -/
def Dev.wordAdds (d : Dev) (a : Nat) (v : Word) (gate : Bool) : Bool :=
  (a == Reg.SYS_COMMIT && bit v 0 && !d.rdB Reg.SYS_COMMIT_STATUS 31 && !d.stagedSet.isEmpty && d.commitCheck.isNone)
    || saxes.any (fun n => a == Reg.SAX_BANK_CTRL n && d.mayDrive n &&
        (bit v 2 || decide (fld v 1 0 = 1 ∨ fld v 1 0 = 2) && d.bankB n != decide (fld v 1 0 = 2)
          && d.swapReject n (decide (fld v 1 0 = 2)) gate == 0))

/-- A write would add a journal entry (R316, R365): its words write an inactive bank, or one of them asks for a commit, a
seal or a swap. -/
def Dev.addsEntry (d : Dev) (a : Nat) (ws : List Word) (gate : Bool) : Bool :=
  !d.writeBusy a (4 * ws.length)
    && ((a != Reg.REC_CTRL && decide ((d.applyWrite a ws gate).1.jnl.pendingBytes ≠ d.jnl.pendingBytes)) || ws.zipIdx.any (fun w => d.wordAdds (a + 4 * w.2) w.1 gate))

/-! ### Frames (R357 to R363) -/

/-- The host phase of a frame ahead of its HCRC; `tail` is CTR and MAC of a WRITE_G (R357). -/
def hostPhase (op a len : Nat) (data tail : List Byte) : List Byte :=
  leBytes 1 op ++ leBytes 3 a ++ leBytes 2 len ++ data ++ tail

/-- The start byte of the target phase: 5Ah ahead of the data of an accepted READ, else C3h (R357). -/
def Reply.start (r : Reply) : Byte := if r.data.isEmpty then 0xC3 else 0x5A

/-- The 12 bytes of the trailer (R362). -/
def Reply.trailerBytes (r : Reply) : List Byte :=
  [r.tag, r.result, r.taken, r.ret, r.doneTag, r.errTag, r.errCode, r.errCnt].flatMap (leBytes 1) ++ leBytes 2 r.flags ++ leBytes 2 0

/-- TCRC, over the data and the trailer (R357, R360). -/
def Reply.tcrc (r : Reply) : Word := crc32c (r.data ++ r.trailerBytes)

/-- The bytes of the target phase from its start byte on. -/
def Reply.bytes (r : Reply) : List Byte := r.start :: (r.data ++ r.trailerBytes ++ leBytes 4 r.tcrc.toNat)

/-- The byte that clock byte `k` after the wait bytes returns: 00h beyond TCRC (R363). -/
def Reply.byteAt (r : Reply) (k : Nat) : Byte := (r.bytes[k]?).getD 0

/-- A frame's trailer (R362); `held` says that the frame began in HOLD. -/
def trailer (d : Dev) (h : HostPort) (result : Nat) (held : Bool) (data : List Byte) : Reply :=
  { data := data, tag := h.tag, result := result, taken := h.taken, ret := h.ret, doneTag := h.doneTag, errTag := h.errTag
    errCode := h.errCode, errCnt := h.errCnt
    flags := d.attnLow.toNat + 2 * d.sec.session.isSome.toNat + 4 * h.jhold.toNat + 8 * held.toNat + 16 * (d.lcState % 8)
      + 128 * (d.rdB Reg.HST_FLAGS 7).toNat }

/-- A frame whose HCRC is good ends the host's absence (R371, R372); with HOST_TMO = 0 both flags stay clear. -/
def goodFrame (d : Dev) (h : HostPort) : Dev × HostPort :=
  let d := d.wr Reg.HST_FRAMES (d.rd Reg.HST_FRAMES + 1)
  (if h.gone && d.rdF Reg.HST_CFG 15 8 != 0 then d.raiseHst 6 else d, { h with lastGood := d.now, gone := false })

/-- A frame that ends at time `t`: none in a state without frames; a failed HCRC has no effect but its count;
otherwise `act` gives its result and data. A frame in HOLD starts the exit (R360, R361). -/
def hostFrame (d : Dev) (h : HostPort) (t : Nat) (crcOk : Bool) (act : Dev → HostPort → Dev × HostPort × Nat × List Byte) : Dev × HostPort :=
  let d := d.upTo t
  if !d.takesFrames then (d, h)
  else
    let held := decide (d.pwr.st = .hold)
    let d := d.sequenceNow.wakeOn 2
    if crcOk then
      let (d, h) := goodFrame d h
      let (d, h, res, data) := act d h
      (d, { h with reply := some (trailer d h res held data) })
    else
      let d := (d.incSat Reg.HST_CRC_CNT 0xFFFFFFFF).raiseHst 1
      (d, { h with reply := some (trailer d h 1 held []) })

/-- ADDR and LEN of a read or write: ALIGN, RANGE, or 0 (R359). -/
def rangeCheck (a len : Nat) : Nat :=
  if a % 4 ≠ 0 ∨ len % 4 ≠ 0 ∨ len < 4 ∨ 4096 < len then 3 else if !inOneRow a len then 4 else 0

/-- READ. -/
def readFrame (a len : Nat) (bad : List (Nat × Ecc)) (d : Dev) (h : HostPort) : Dev × HostPort × Nat × List Byte :=
  match rangeCheck a len with
  | 0 =>
    let (d, ws) := d.hostReads h bad a (len / 4)
    (d, h, 0, ws.flatMap (fun w => leBytes 4 w.toNat))
  | r => (d, h, r, [])

/-- Credits a write of `len` bytes costs, and those that are free (R364). -/
def creditCost (len : Nat) : Nat := (len + 255) / 256
def HostPort.free (h : HostPort) : Nat := 32 - (h.taken + 256 - h.ret % 256) % 256

/-- A write is accepted: it takes the next tag and its cost in credits (R364). -/
def HostPort.accept (h : HostPort) (a : Nat) (data : List Byte) (gated : Option (Nat × List Byte)) : HostPort :=
  let cost := creditCost data.length
  let tag := (h.tag + 1) % 256
  { h with tag := tag, taken := (h.taken + cost) % 256
           queue := h.queue ++ [⟨a, wordsOf (data.length / 4) data, cost, tag, gated⟩] }

/-- WRITE and WRITE_G. -/
def writeFrame (a : Nat) (data : List Byte) (gated : Option (Nat × List Byte)) (d : Dev) (h : HostPort) : Dev × HostPort × Nat × List Byte :=
  match rangeCheck a data.length with
  | 0 => if creditCost data.length ≤ h.free then (d, h.accept a data gated, 0, []) else (d.raiseHst 2, h, 5, [])
  | r => (d, h, r, [])

/-- STATUS, and an unknown opcode (R358). -/
def statusFrame (op a len : Nat) (d : Dev) (h : HostPort) : Dev × HostPort × Nat × List Byte :=
  (d, h, if op ≠ 4 ∨ a ≠ 0 ∨ len ≠ 0 then 2 else 0, [])

/-- RESYNC at time `t` (R356). -/
def resyncFrame (d : Dev) (h : HostPort) (t : Nat) : Dev × HostPort :=
  let d := d.upTo t
  if !d.takesFrames then (d, h) else ((d.wrF Reg.HST_CFG 1 0 0).raiseHst 4, { h with width := 0 })

/-- FRAME_CUT at time `t` (R363). -/
def cutFrame (d : Dev) (h : HostPort) (t : Nat) : Dev × HostPort :=
  let d := d.upTo t
  if !d.takesFrames then (d, h) else (((d.wakeOn 2).incSat Reg.HST_CUT_CNT 0xFFFFFFFF).raiseHst 0, h)

/-- HOST_GONE (R371): HOST_TMO after the last good frame; the limit stands still in STABLE and DORMANT (R384) and while the
control die is in reset. -/
def hostGone (d : Dev) (h : HostPort) : Dev × HostPort :=
  let tmo := d.rdF Reg.HST_CFG 15 8
  if tmo = 0 ∨ h.gone ∨ d.boot.st = .reset ∨ d.pwr.st = .stable ∨ d.pwr.st = .dormant then (d, h)
  else ((d.upTo (h.lastGood + tmo * ms 100)).raiseHst 5, { h with gone := true })

/-! ### Completion (R365, R366, R368) -/

/-- The failure log: entries move on, the newest at 0. -/
def Dev.wlog (d : Dev) (code addr tag : Nat) : Dev :=
  let d := (List.range 7).foldl (fun (d : Dev) k =>
    let i := 7 - k
    (d.wr (Reg.HST_WLOG_A i) (d.rd (Reg.HST_WLOG_A (i - 1)))).wr (Reg.HST_WLOG_B i) (d.rd (Reg.HST_WLOG_B (i - 1)))) d
  (d.wr (Reg.HST_WLOG_A 0) (wn (code * 2 ^ 24 + addr))).wr (Reg.HST_WLOG_B 0) (wn tag)

/-- A gated action in a write whose counter or tag is refused returns its own NO_SESSION result (R346): the loading of a
bundle, SVN_COMMIT and REVERT, ISOLATE and RESTORE, BYPASS, and a swap that needs the session. -/
def Dev.refuseWord (d : Dev) (a : Nat) (v : Word) : Dev :=
  if a = Reg.SEC_LOAD_CTRL then d.onBit (fld v 2 0 != 0) (Dev.loadFail · 0x0A 0 0)
  else if a = Reg.SEC_LOAD_LEN ∨ a = Reg.SEC_LOAD_OFS ∨ a = 0x7000 then d.loadFail 0x0A 0 0
  else if a = Reg.SEC_CTRL then d.onBit (fld v 7 6 != 0) (Dev.loadFail · 0x0A 0 0)
  else
    let d := slots.foldl (fun (d : Dev) (p : Slot) =>
      if a = Reg.PRT_CMD p ∧ (fld v 3 0 = 4 ∨ fld v 3 0 = 5) then d.cmdWrite p (fld v 3 0) false
      else if a = Reg.PRT_OBS_CTRL p ∧ bit v 0 then d.bypass p true false
      else d) d
    saxes.foldl (fun (d : Dev) (n : Sax) =>
      let r := fld v 1 0
      if a = Reg.SAX_BANK_CTRL n ∧ (r = 1 ∨ r = 2) ∧ d.swapReject n (decide (r = 2)) false = 3 then
        (d.wrF (Reg.SAX_BANK_CTRL n) 31 28 3).raiseSax n 7
      else d) d

/-- The counter and tag of a WRITE_G. -/
def Dev.headGate (d : Dev) (w : HostWrite) (ctr : Nat) (mac : List Byte) : Dev × Bool :=
  let data := w.data.flatMap (fun x => leBytes 4 x.toNat)
  d.gateCheck ctr mac (hostPhase 3 w.addr data.length data [])

/-- The effect of the write at the head: for a WRITE_G its counter and tag are checked first. -/
def Dev.headEffect (d : Dev) (w : HostWrite) : Dev × Nat :=
  match w.gated with
  | none => d.applyWrite w.addr w.data false
  | some (ctr, mac) =>
    match d.headGate w ctr mac with
    | (d, true) => d.applyWrite w.addr w.data true
    | (d, false) => (w.data.zipIdx.foldl (fun (d : Dev) x => d.refuseWord (w.addr + 4 * x.2) x.1) d, 7)

/-- The write at the head would add a journal entry. -/
def Dev.headAdds (d : Dev) (w : HostWrite) : Bool :=
  match w.gated with
  | none => d.addsEntry w.addr w.data false
  | some (ctr, mac) =>
    match d.headGate w ctr mac with
    | (d, true) => d.addsEntry w.addr w.data true
    | (_, false) => false

/-- What completion does to the counters. -/
def HostPort.complete (h : HostPort) (w : HostWrite) (rest : List HostWrite) (code : Nat) : HostPort :=
  let h := { h with queue := rest, doneTag := w.tag, ret := (h.ret + w.cost) % 256, jhold := false }
  if code = 0 then h else { h with errTag := w.tag, errCode := code, errCnt := (h.errCnt + 1) % 256 }

/-- WRITE_COMPLETION: the oldest posted write completes, or is held while the journal is behind (R316, R365). -/
def writeCompletion (d : Dev) (h : HostPort) : Dev × HostPort :=
  match h.queue with
  | [] => (d, h)
  | w :: rest =>
    if decide (12 * 1024 < d.jnl.pendingBytes) && d.headAdds w then (d, { h with jhold := true })
    else
      let (d, code) := d.headEffect w
      let h := h.complete w rest code
      if code = 0 then (d, h)
      else
        let d := d.wlog code w.addr w.tag
        let d := d.wrF Reg.HST_ERR_CNT 31 8 (satAdd 0xFFFFFF (d.rdF Reg.HST_ERR_CNT 31 8) 1)
        (d.raiseHst 3 [wn w.tag, wn code, wn w.addr], h)

/-! ### WIDTH (R356) -/

/-- The WIDTH that a write carries; 11b is no change (R372). -/
def HostWrite.width (w : HostWrite) : Option Nat :=
  if w.addr ≤ Reg.HST_CFG ∧ Reg.HST_CFG < w.addr + 4 * w.data.length then
    let v := fld (w.data.getD ((Reg.HST_CFG - w.addr) / 4) 0) 1 0
    if v = 3 then none else some v
  else none

/-- `n` posted writes complete, as far as none is held. -/
def completions : Nat → Dev × HostPort → Dev × HostPort
  | 0, x => x
  | n + 1, (d, h) => completions n (writeCompletion d h)

/-- The end of the frame of an accepted write that carries WIDTH: the writes before it complete, and it, at this edge, and
the width changes; a WRITE_G whose tag or counter is refused changes nothing. Behind a write that is held (R316) the
width changes now and the write completes in its turn (log 137). -/
def widthEdge (tag0 : Nat) (d : Dev) (h : HostPort) : Dev × HostPort :=
  match h.queue.getLast? with
  | none => (d, h)
  | some w =>
    match w.width with
    | none => (d, h)
    | some k =>
      if h.tag = tag0 then (d, h)
      else
        let (d1, h1) := completions (h.queue.length - 1) (d, h)
        let (d2, h2) := completions 1 (d1, h1)
        let done := h2.queue.isEmpty && h2.errCnt == h1.errCnt
        if done || (w.gated.isNone && !h2.queue.isEmpty) then (d2.wrF Reg.HST_CFG 1 0 k, { h2 with width := k }) else (d2, h2)

/-- A row that is a WRITE or WRITE_G frame. -/
def writeRow (d : Dev) (h : HostPort) (t : Nat) (crcOk : Bool) (a : Nat) (data : List Byte) (gated : Option (Nat × List Byte)) :
    Dev × HostPort :=
  let (d', h') := hostFrame d h t crcOk (writeFrame a data gated)
  widthEdge h.tag d' h'

/-! ### How a command reaches the controller -/

/-- Begin a command: the count that indexes free values advances, and what the last one sent is gone. -/
def Dev.begin (d : Dev) : Dev := { d.modCvn (fun c => { c with outbox := [] }) with seq := d.seq + 1 }

/-- The host port after a command: a control die in reset holds a port of reset values (R366). -/
def HostPort.after (h : HostPort) (d : Dev) : HostPort := if d.boot.st = .reset then { lastGood := d.now } else h

/-- A row that is a host write of a block reached from DONE on (R398). -/
def Dev.hosted (d : Dev) (f : Dev → Dev) : Dev := if d.hostUp then f d else d

/-- A row that is a host write of the REC block's cursor: reached in RETURNED too (R350). -/
def Dev.hostedRec (d : Dev) (f : Dev → Dev) : Dev := if d.takesFrames && d.reaches Reg.REC_CTRL then f d else d

/-- A row that is a host write of SYS, LCS, SEC, HST or EVC: reached once the port takes frames (R398). -/
def Dev.hostedEarly (d : Dev) (f : Dev → Dev) : Dev :=
  if d.takesFrames then f d else d

/-- EXIT_COMPLETE: HOST_TMO stood still in STABLE and DORMANT, so the last good frame moves with it (R384). -/
def exitRow (d : Dev) (h : HostPort) (t : Nat) : Dev × HostPort :=
  let deep := d.pwr.exiting && decide (d.pwr.st = .stable ∨ d.pwr.st = .dormant)
  let e := d.pwr.enteredAt
  let d := d.exitComplete t
  (d, if deep then { h with lastGood := h.lastGood + (d.now - e) } else h)

/-! ### Snapshot records (R305, R307) -/

/-- The controller `d` as its strobe, which ends in `e`, finds it: the snapshot's registers, and what the strobe's tasks change
as it stood before them (R33, R34). -/
def Dev.atStrobe (d e : Dev) : Dev :=
  { (d.modTime (fun t => { t with now := e.time.lastStrobe })).modFio (fun f => { f with image := none }) with regs := e.snap }

/-- The value that a snapshot record holds for address `a`: 0 in the REC block and in the trace RAM window. -/
def Dev.snapValue (d : Dev) (h : HostPort) (a : Nat) : Word :=
  if (0x70000 ≤ a ∧ a < 0x71000) ∨ (0x90000 ≤ a ∧ a < 0xD0000) then 0 else d.peek h a

/-- The body of a snapshot record: TRIG, NREG, FLAG and INST of the firing record, addresses, values. -/
def Dev.snapBody (d : Dev) (h : HostPort) (s : SnapFire) : List Byte :=
  let n := max 1 (min 32 (d.rdF (Reg.REC_SNAP_CFG s.trig) 21 16))
  let addrs := (List.range n).map (fun i => d.rdF (Reg.REC_SNAP_ADDR (32 * s.trig + i)) 23 0)
  let pad := fun (k : Nat) (l : List Byte) => l ++ List.replicate ((k - l.length % k) % k) (0 : Byte)
  let head : List Byte := [BitVec.ofNat 8 s.trig, BitVec.ofNat 8 n, s.flag, s.inst]
  pad 8 (head ++ pad 4 (addrs.flatMap (leBytes 3)) ++ addrs.flatMap (fun a => leBytes 4 (d.snapValue h a).toNat))

/-- TICK_STROBE: the strobe, and the values of every snapshot trigger that fired before it, all from this one instant
(R305). -/
def Dev.strobe (d : Dev) (h : HostPort) (i : TickIn) : Dev :=
  let e := d.tickStrobe i h.queue.isEmpty
  if d.rcd.snapDue.isEmpty || !d.ticking || decide (d.boot.st = .reset) then e
  else
    let read := fun (s : SnapFire) =>
      if s.body.isNone && d.rcd.snapDue.contains s then { s with body := some ((d.atStrobe e).snapBody h s) } else s
    e.modRcd (fun r => { r with snapDue := r.snapDue.map read })

/-- SNAPSHOT_RECORD_READ: every trigger whose values have been read has its record requested, with the severity and source of
the record that fired it. -/
def Dev.snapshotRead (d : Dev) : Dev :=
  let due := d.rcd.snapDue.filter (fun s => s.body.isSome)
  let d := d.modRcd (fun r => { r with snapDue := r.snapDue.filter (fun s => s.body.isNone) })
  due.foldl (fun (d : Dev) (s : SnapFire) => match s.body with
    | some b => d.request { kind := .snapshot, sev := s.sev, src := s.src, body := b }
    | none => d) d

end Sys2Proof.Machine
end

