-- ==== Sys2Proof/Machine/State.lean ====
section
/-!
DEFINITION. The state of the block: the controller, its host port, and the queue of commands that wait. The
reasons for which a step could stop, and the state after reset.
-/

namespace Sys2Proof.Machine

/-- The block. `dev` is the controller with every register, buffer, counter and mode of the spec, `host` the
host port, `pending` the commands that wait, first in, first out; `broken` is the power sequencer's note between strobes. -/
structure State where
  dev : Dev := {}
  host : HostPort := {}
  pending : List Instr := []
  broken : List PwrSt := []      -- states of power whose entry conditions broke since the last strobe (R381)
  deriving DecidableEq, Repr

/-- Reasons for a fault. No command raises one: every command of the table has an effect in every state, and
the spec names no address of the block's own whose access stops the machine. Safe, because nothing is
stopped that goes on. -/
inductive Fault where
  /-- Raised by no command; it keeps the type of reasons inhabited. Safe. -/
  | unused
  deriving DecidableEq, Repr

/-- Reasons for a refusal. -/
inductive Refusal where
  /-- A command of the table that has no meaning yet; raised by no arm, since every command has one. Safe. -/
  | notModelled (mnemonic : String)
  deriving DecidableEq, Repr

/-- The state after reset: VFLD has just arrived, RST_N is asserted, every register stands at its reset value,
the memories are empty, the life-cycle log is empty, and no command waits (R392, log 6). -/
def State.reset : State := {}

end Sys2Proof.Machine
end

