-- ==== Sys2Proof/Machine/Run.lean ====
section
/-!
DEFINITION. How a command's effect on the controller becomes an outcome. Every command begins alike, and
after every command the host port of a control die in reset stands at its reset values (R366).
-/

namespace Sys2Proof.Machine

/-- The state after a command: the controller, the host port, and which states of power had their entry conditions broken
(R381). -/
def State.after (s : State) (d : Dev) (h : HostPort) : State :=
  let h := h.after d
  { s with dev := d, host := h, broken := s.broken ++ s.dev.begin.breaks d s.host.queue.isEmpty h.queue.isEmpty }

/-- A command that acts on the controller alone. -/
def State.run (s : State) (f : Dev → Dev) : Host.Outcome State Fault Refusal :=
  .next (s.after (f s.dev.begin) s.host)

/-- A command that acts on the host port too. -/
def State.runHost (s : State) (f : Dev → HostPort → Dev × HostPort) : Host.Outcome State Fault Refusal :=
  let r := f s.dev.begin s.host
  .next (s.after r.1 r.2)

end Sys2Proof.Machine
end

