-- ==== Sys2Proof/Machine/RowsCaravan.lean ====
section
/-!
DEFINITION. Caravan rows: SYNC, lanes, frames of the caravan, surrender, takeover, transfer and leases (R277 to R297). One meaning per constructor.
-/

namespace Sys2Proof.Machine

/-- SYNC_PULSE (R278). -/
def execSyncPulse (t : Nat) (e : Int) (s : State) : Host.Outcome State Fault Refusal :=
  s.run (fun d => (d.upTo t).syncPulse e)

/-- SYNC_FRAME (R278). -/
def execSyncFrame (cfg : Word) (idx : BitVec 8) (pseq : BitVec 16) (joint : BitVec 2)
    (s : State) : Host.Outcome State Fault Refusal :=
  s.run (fun d => d.syncFrame cfg idx pseq joint)

/-- SYNC_LOCK (R278). -/
def execSyncLock (s : State) : Host.Outcome State Fault Refusal :=
  s.run (fun d => d.syncLock)

/-- SYNC_LOST (R278). -/
def execSyncLost (t : Nat) (s : State) : Host.Outcome State Fault Refusal :=
  s.run (fun d => (d.upTo t).syncLost)

/-- LEADER_CHOICE (R278). -/
def execLeaderChoice (t : Nat) (me : Bool) (s : State) : Host.Outcome State Fault Refusal :=
  s.run (fun d => (d.upTo t).leaderChoice me)

/-- LANE_UP (R279). -/
def execLaneUp (t : Nat) (west : Bool) (lane : Fin 2) (s : State) : Host.Outcome State Fault Refusal :=
  s.run (fun d => (d.upTo t).laneUp west lane)

/-- LANE_DOWN (R279). -/
def execLaneDown (t : Nat) (west : Bool) (lane : Fin 2 × List Nat) (s : State) : Host.Outcome State Fault Refusal :=
  s.run (fun d => (d.upTo t).laneDown west lane.1 lane.2)

/-- STATE_FRAME (R282). -/
def execStateFrame (p : Slot) (blk : StateBlock) (t : Nat) (s : State) : Host.Outcome State Fault Refusal :=
  s.run (fun d => d.stateFrame p blk t)

/-- STATE_INSTALL (R282). -/
def execStateInstall (p : Slot) (s : State) : Host.Outcome State Fault Refusal :=
  s.run (fun d => d.stateInstall p)

/-- STATE_DISCARD (R282). -/
def execStateDiscard (p : Slot) (s : State) : Host.Outcome State Fault Refusal :=
  s.run (fun d => d.stateDiscard p)

/-- HEALTH_FRAME (R286). -/
def execHealthFrame (t : Nat) (m : HealthMsg) (s : State) : Host.Outcome State Fault Refusal :=
  s.run (fun d => (d.upTo t).healthFrame m)

/-- FWD (R282). -/
def execFwd (p : Slot) (a : Axis) (c : McmdWrite) (pseq : Nat)
    (s : State) : Host.Outcome State Fault Refusal :=
  s.run (fun d => d.fwdMsg p a c pseq)

/-- CLAIM (R294). -/
def execClaim (t : Nat) (p : Slot) (e : Word) (s : State) : Host.Outcome State Fault Refusal :=
  s.run (fun d => (d.upTo t).claimMsg p e)

/-- RENEW (R294). -/
def execRenew (t : Nat) (p : Slot) (e : Word) (s : State) : Host.Outcome State Fault Refusal :=
  s.run (fun d => (d.upTo t).renewMsg p e)

/-- ACK (R294). -/
def execAck (t : Nat) (p : Slot) (e : Word) (s : State) : Host.Outcome State Fault Refusal :=
  s.run (fun d => (d.upTo t).ackMsg p e)

/-- SURRENDER (R295). -/
def execSurrender (t : Nat) (p : Slot) (member : Bool) (e : Word) (s : State) : Host.Outcome State Fault Refusal :=
  s.run (fun d => (d.upTo t).surrenderMsg p member e)

/-- RELEASE (R297). -/
def execRelease (t : Nat) (p : Slot) (e : Word) (s : State) : Host.Outcome State Fault Refusal :=
  s.run (fun d => (d.upTo t).releaseMsg p e)

/-- REFUSE (R291). -/
def execRefuse (t : Nat) (p : Slot) (s : State) : Host.Outcome State Fault Refusal :=
  s.run (fun d => (d.upTo t).refuseMsg p)

/-- RETURN_REQ (R297). -/
def execReturnReq (t : Nat) (p : Slot) (s : State) : Host.Outcome State Fault Refusal :=
  s.run (fun d => (d.upTo t).returnReq p)

/-- XFER (R292). -/
def execXfer (t : Nat) (p : Slot) (valley : Nat) (e : Word) (duties : List (List Nat)) (s : State) : Host.Outcome State Fault Refusal :=
  s.run (fun d => (d.upTo t).xferMsg p valley e duties)

/-- SURR_N_LOW (R277). -/
def execSurrNLow (t : Nat) (lvl : Bool) (s : State) : Host.Outcome State Fault Refusal :=
  s.run (fun d => d.surrN t lvl)

/-- TAKEOVER (R290). -/
def execTakeover (p : Slot) (high : Bool) (s : State) : Host.Outcome State Fault Refusal :=
  s.run (fun d => d.takeover p high)

/-- MEMBER_SURRENDER (R289). -/
def execMemberSurrender (t : Nat) (code : BitVec 8) (s : State) : Host.Outcome State Fault Refusal :=
  s.run (fun d => (d.upTo t).memberSurrender code.toNat)

/-- SURRENDER_GO (R288). -/
def execSurrenderGo (gate : Bool) (s : State) : Host.Outcome State Fault Refusal :=
  s.run (fun d => d.hosted (fun d => d.surrWrite gate))

/-- CVN_XFER (R291). -/
def execCvnXfer (mask : Word) (gate : Bool) (s : State) : Host.Outcome State Fault Refusal :=
  s.run (fun d => d.hosted (fun d => d.xferWrite mask gate))

/-- TRANSFER_VALLEY (R291). -/
def execTransferValley (p : Slot) (high : Bool) (s : State) : Host.Outcome State Fault Refusal :=
  s.run (fun d => d.transferValley p high)

/-- LEASE_RENEWAL (R294). -/
def execLeaseRenewal (p : Slot) (s : State) : Host.Outcome State Fault Refusal :=
  s.run (fun d => d.leaseRenewal p)

/-- LEASE_EXPIRY (R294). -/
def execLeaseExpiry (p : Slot) (s : State) : Host.Outcome State Fault Refusal :=
  s.run (fun d => d.leaseExpiry p)

/-- CLAIM_TIME (R296). -/
def execClaimTime (p : Slot) (s : State) : Host.Outcome State Fault Refusal :=
  s.run (fun d => d.claimTime p)

/-- HOME_RETURN (R297). -/
def execHomeReturn (p : Slot) (s : State) : Host.Outcome State Fault Refusal :=
  s.run (fun d => d.homeReturn p)

/-- ROLE_TAKE (R284). -/
def execRoleTake (s : State) : Host.Outcome State Fault Refusal :=
  s.run (fun d => d.roleTake)

/-- STATE_WAIT_TIMEOUT (R284). -/
def execStateWaitTimeout (s : State) : Host.Outcome State Fault Refusal :=
  s.run (fun d => d.stateWait)

/-- MIRAGE_STALE (R283). -/
def execMirageStale (p : Slot) (s : State) : Host.Outcome State Fault Refusal :=
  s.run (fun d => d.mirageStale p)

/-- PARTNER_INELIGIBLE (R287). -/
def execPartnerIneligible (t : Nat) (west : Bool) (s : State) : Host.Outcome State Fault Refusal :=
  s.run (fun d => (d.upTo t).partnerIneligible west)

end Sys2Proof.Machine
end

