-- ==== Sys2Proof/Machine/RowsCommit.lean ====
section
/-!
DEFINITION. Commit rows: the staged set (R402, R404). One meaning per constructor.
-/

namespace Sys2Proof.Machine

/-- COMMIT (R402). -/
def execCommitCmd (s : State) : Host.Outcome State Fault Refusal :=
  s.run (fun d => d.hostedEarly (fun d => d.commitGo))

/-- COMMIT_RESOLUTION (R404). -/
def execCommitResolution (s : State) : Host.Outcome State Fault Refusal :=
  s.run (fun d => d.commitResolve)

end Sys2Proof.Machine
end

