-- ==== Sys2Proof/Machine/RowsEncoder.lean ====
section
/-!
DEFINITION. Encoders rows: the decoder, its windows, index and Hall events (R123 to R138). One meaning per constructor.
-/

namespace Sys2Proof.Machine

/-- ENCODER_TRANSITION (R123, R124, R126). -/
def execEncoderTransition (c : Enc) (t : Nat) (samples : List EncSample)
    (s : State) : Host.Outcome State Fault Refusal :=
  s.run (fun d => d.encSamples c t samples)

/-- ILL_WINDOW_END (R127). -/
def execIllWindowEnd (c : Enc) (s : State) : Host.Outcome State Fault Refusal :=
  s.run (fun d => d.illWindowEnd c)

/-- WIRE_FAULT (R123). -/
def execWireFault (t : Nat) (c : Enc) (line : Fin 3) (s : State) : Host.Outcome State Fault Refusal :=
  s.run (fun d => (d.upTo t).wireFault c line)

/-- WIRE_FAULT_END (R123). -/
def execWireFaultEnd (t : Nat) (c : Enc) (line : Fin 3) (s : State) : Host.Outcome State Fault Refusal :=
  s.run (fun d => (d.upTo t).wireFaultEnd c line)

/-- SPD_TIMEOUT_EXPIRY (R129). -/
def execSpdTimeoutExpiry (c : Enc) (s : State) : Host.Outcome State Fault Refusal :=
  s.run (fun d => d.spdExpiry c)

/-- INDEX_EVENT (R131). -/
def execIndexEvent (t : Nat) (c : Enc) (s : State) : Host.Outcome State Fault Refusal :=
  s.run (fun d => d.indexEvent c t)

/-- HALL_SECTOR_CHANGE (R134). -/
def execHallSectorChange (t0 : Nat) (c : Enc) (code : BitVec 3)
    (s : State) : Host.Outcome State Fault Refusal :=
  s.run (fun d => d.hallChange c code t0)

/-- UNC_CLR (R136). -/
def execUncClr (c : Enc) (s : State) : Host.Outcome State Fault Refusal :=
  s.run (fun d => d.hosted (fun d => d.uncClr c))

/-- DRIFT_CLR (R138). -/
def execDriftClr (c : Enc) (s : State) : Host.Outcome State Fault Refusal :=
  s.run (fun d => d.hosted (fun d => d.driftClr c))

end Sys2Proof.Machine
end

