-- ==== Sys2Proof/Machine/RowsEngine.lean ====
section
/-!
DEFINITION. Engines rows: restart of an engine and its statistics (R232, R233). One meaning per constructor.
-/

namespace Sys2Proof.Machine

/-- RESTART (R232). -/
def execRestart (p : Slot) (s : State) : Host.Outcome State Fault Refusal :=
  s.run (fun d => d.hosted (fun d => d.engRestart p))

/-- RESTART_COMPLETE (R232). -/
def execRestartComplete (p : Slot) (s : State) : Host.Outcome State Fault Refusal :=
  s.run (fun d => d.engRestartDone p)

/-- STAT_CLR (R233). -/
def execStatClr (p : Slot) (s : State) : Host.Outcome State Fault Refusal :=
  s.run (fun d => d.hosted (fun d => d.engStatClr p))

end Sys2Proof.Machine
end

