-- ==== Sys2Proof/Machine/RowsEvents.lean ====
section
/-!
DEFINITION. Events rows: the event controller (R374, R376). One meaning per constructor.
-/

namespace Sys2Proof.Machine

/-- PEND_CLEAR (R376). -/
def execPendClear (k : Fin 2) (v : Word) (s : State) : Host.Outcome State Fault Refusal :=
  s.run (fun d => d.hostedEarly (fun d => (d.regWrite (Reg.EVC_PEND k) v false).1))

/-- EN_WRITE (R376). -/
def execEnWrite (k : Fin 2) (v : Word) (s : State) : Host.Outcome State Fault Refusal :=
  s.run (fun d => d.hostedEarly (fun d => d.writeEn k v))

/-- SWSET (R374). -/
def execSwset (s : State) : Host.Outcome State Fault Refusal :=
  s.run (fun d => d.hostedEarly (fun d => d.occur 63))

end Sys2Proof.Machine
end

