-- ==== Sys2Proof/Machine/RowsField.lean ====
section
/-!
DEFINITION. Field rows: digital inputs, high-side switches, sag and the sense output (R255 to R271). One meaning per constructor.
-/

namespace Sys2Proof.Machine

/-- DIN_ACCEPT (R255). -/
def execDinAccept (t : Nat) (i : Din) (samples : List DinSample) (s : State) : Host.Outcome State Fault Refusal :=
  s.run (fun d => d.dinSample i t samples)

/-- FOREIGN (R257). -/
def execForeign (t : Nat) (i : Din) (s : State) : Host.Outcome State Fault Refusal :=
  s.run (fun d => (d.upTo t).foreignIn i)

/-- IN_EVEN_WRITE (R271). -/
def execInEvenWrite (k : Fin 3) (v : Word) (s : State) : Host.Outcome State Fault Refusal :=
  s.run (fun d => d.hosted (fun d => d.inEvenWrite k v))

/-- HS_HREQ (R262). -/
def execHsHreq (k : Fin 2) (v : Word) (s : State) : Host.Outcome State Fault Refusal :=
  s.run (fun d => d.hosted (fun d => d.hostReq k v))

/-- CURRENT_LIMIT (R263). -/
def execCurrentLimit (t : Nat) (c : Ch) (s : State) : Host.Outcome State Fault Refusal :=
  s.run (fun d => (d.upTo t).currentLimit c)

/-- LIMIT_CLEAR (R263). -/
def execLimitClear (t : Nat) (c : Ch) (s : State) : Host.Outcome State Fault Refusal :=
  s.run (fun d => (d.upTo t).limitClear c)

/-- LIM_T_EXPIRY (R263). -/
def execLimTExpiry (c : Ch) (trip : Bool) (s : State) : Host.Outcome State Fault Refusal :=
  s.run (fun d => d.limExpiry c trip)

/-- RETRY_INT_EXPIRY (R264). -/
def execRetryIntExpiry (c : Ch) (hot : Bool) (s : State) : Host.Outcome State Fault Refusal :=
  s.run (fun d => d.retryExpiry c hot)

/-- THERMAL_TRIP (R263). -/
def execThermalTrip (t : Nat) (c : Ch) (s : State) : Host.Outcome State Fault Refusal :=
  s.run (fun d => (d.upTo t).thermalTrip c)

/-- THERMAL_COOL (R263). -/
def execThermalCool (t : Nat) (c : Ch) (s : State) : Host.Outcome State Fault Refusal :=
  s.run (fun d => (d.upTo t).thermalCool c)

/-- RETRY_RESET (R263). -/
def execRetryReset (c : Ch) (s : State) : Host.Outcome State Fault Refusal :=
  s.run (fun d => d.retryReset c)

/-- HS_CLR (R263). -/
def execHsClr (c : Ch) (s : State) : Host.Outcome State Fault Refusal :=
  s.run (fun d => d.hosted (fun d => d.hsClr c))

/-- OFF_STATE_TEST (R265). -/
def execOffStateTest (t : Nat) (c : Ch) (ext : Bool) (high : Bool)
    (s : State) : Host.Outcome State Fault Refusal :=
  s.run (fun d => (d.upTo t).offTest c ext high)

/-- OPEN_LOAD_ON (R265). -/
def execOpenLoadOn (t : Nat) (c : Ch) (low : Bool) (s : State) : Host.Outcome State Fault Refusal :=
  s.run (fun d => (d.upTo t).openLoadOn c low)

/-- EXTERNAL_VOLTAGE (R265). -/
def execExternalVoltage (t : Nat) (c : Ch) (present : Bool) (s : State) : Host.Outcome State Fault Refusal :=
  s.run (fun d => (d.upTo t).extVoltage c present)

/-- SAG_ENTER (R268). -/
def execSagEnter (t : Nat) (s : State) : Host.Outcome State Fault Refusal :=
  s.run (fun d => (d.upTo t).sagEnter)

/-- SAG_EXIT (R268). -/
def execSagExit (t : Nat) (s : State) : Host.Outcome State Fault Refusal :=
  s.run (fun d => (d.upTo t).sagExit)

/-- GROUP_RESTART (R268). -/
def execGroupRestart (s : State) : Host.Outcome State Fault Refusal :=
  s.run (fun d => d.groupRestart)

/-- SNS_SEL_CHANGE (R269). -/
def execSnsSelChange (v : Fin 64) (s : State) : Host.Outcome State Fault Refusal :=
  s.run (fun d => (d.snsSel v).snsSel v)

/-- SCAN_STEP (R269). -/
def execScanStep (s : State) : Host.Outcome State Fault Refusal :=
  s.run (fun d => d.scanStep)

/-- ADC_CONVERSION (R270). -/
def execAdcConversion (code : Nat) (full : Bool) (s : State) : Host.Outcome State Fault Refusal :=
  s.run (fun d => d.adcConv code full)

end Sys2Proof.Machine
end

