-- ==== Sys2Proof/Machine/RowsHost.lean ====
section
/-!
DEFINITION. Host port rows: frames of the host port and the completion of posted writes (R355 to R371). One meaning per constructor.
-/

namespace Sys2Proof.Machine

/-- READ (R358). -/
def execReadFrame (t : Nat) (hcrc : Word) (addr : Nat) (len : Nat) (bad : List (Nat × Ecc))
    (s : State) : Host.Outcome State Fault Refusal :=
  s.runHost (fun d h => Machine.hostFrame d h t (hcrc == crc32c (hostPhase 1 addr len [] [])) (Machine.readFrame addr len bad))

/-- WRITE (R364). -/
def execWriteFrame (t : Nat) (hcrc : Word) (addr : Nat) (data : List Byte)
    (s : State) : Host.Outcome State Fault Refusal :=
  s.runHost (fun d h => Machine.writeRow d h t (hcrc == crc32c (hostPhase 2 addr data.length data [])) addr data none)

/-- WRITE_G (R368). -/
def execWriteGated (t : Nat) (hcrc : Word) (addr : Nat) (data : List Byte) (ctr : BitVec 32) (mac : List Byte)
    (s : State) : Host.Outcome State Fault Refusal :=
  s.runHost (fun d h => Machine.writeRow d h t (hcrc == crc32c (hostPhase 3 addr data.length data (leBytes 4 ctr.toNat ++ mac))) addr data
    (some (ctr.toNat, mac)))

/-- STATUS (R358). -/
def execStatusFrame (t : Nat) (hcrc : Word) (op : BitVec 8) (addr : Nat) (len : Nat)
    (s : State) : Host.Outcome State Fault Refusal :=
  s.runHost (fun d h => Machine.hostFrame d h t (hcrc == crc32c (hostPhase op.toNat addr len [] [])) (Machine.statusFrame op.toNat addr len))

/-- RESYNC (R356). -/
def execResync (t : Nat) (s : State) : Host.Outcome State Fault Refusal :=
  s.runHost (fun d h => Machine.resyncFrame d h t)

/-- FRAME_CUT (R363). -/
def execFrameCut (t : Nat) (s : State) : Host.Outcome State Fault Refusal :=
  s.runHost (fun d h => Machine.cutFrame d h t)

/-- WRITE_COMPLETION (R365). -/
def execWriteCompletion (t : Nat) (s : State) : Host.Outcome State Fault Refusal :=
  s.runHost (fun d h => Machine.writeCompletion (d.upTo t) h)

/-- HOST_GONE (R371). -/
def execHostGone (s : State) : Host.Outcome State Fault Refusal :=
  s.runHost (fun d h => Machine.hostGone d h)

end Sys2Proof.Machine
end

