-- ==== Sys2Proof/Machine/RowsInterlock.lean ====
section
/-!
DEFINITION. Interlock rows: the train line, the door loop and its confirm intervals (R69 to R78, R435). One meaning per constructor.
-/

namespace Sys2Proof.Machine

/-- TL_CHANNEL_ACCEPT (R69). -/
def execTlChannelAccept (t : Nat) (ch : Fin 9) (samples : List Bool) (s : State) : Host.Outcome State Fault Refusal :=
  s.run (fun d => (d.upTo t).tlSample ch samples)

/-- TL_DISC_EXPIRY (R70). -/
def execTlDiscExpiry (i : Fin 4) (s : State) : Host.Outcome State Fault Refusal :=
  s.run (fun d => d.tlDisc i)

/-- INPUT_STALE (R76). -/
def execInputStale (i : Din) (s : State) : Host.Outcome State Fault Refusal :=
  s.run (fun d => d.inputStale i)

/-- DLP_RB_CHANGE (R77). -/
def execDlpRbChange (t : Nat) (before lvl : Bool) (s : State) : Host.Outcome State Fault Refusal :=
  s.run (fun d => (d.upTo t).rbSample before lvl)

/-- KILL_CONFIRM_EXPIRY (R77). -/
def execKillConfirmExpiry (s : State) : Host.Outcome State Fault Refusal :=
  s.run (fun d => d.killExpiry)

/-- LOOP_OPEN (R78). -/
def execLoopOpen (s : State) : Host.Outcome State Fault Refusal :=
  s.run (fun d => d.loopOpen)

/-- LOCK_BACKFEED (R73). -/
def execLockBackfeed (k : Fin 8) (s : State) : Host.Outcome State Fault Refusal :=
  s.run (fun d => d.lockBackfeed k)

/-- LOOP_DRIVER_LIMIT_OFF (R435). -/
def execLoopDriverLimitOff (s : State) : Host.Outcome State Fault Refusal :=
  s.run (fun d => d.loopLimit true)

/-- LOOP_DRIVER_RETRY (R435). -/
def execLoopDriverRetry (s : State) : Host.Outcome State Fault Refusal :=
  s.run (fun d => d.loopLimit false)

end Sys2Proof.Machine
end

