-- ==== Sys2Proof/Machine/RowsIrval.lean ====
section
/-!
DEFINITION. Irval rows: the words that an engine executes and the stores that other chapters name (R235 to R250, R288, R308). One meaning per constructor.
-/

namespace Sys2Proof.Machine

/-- NOP (R242). -/
def execNopWord (env : WordEnv) (d : BitVec 5) (a : BitVec 5) (b : BitVec 5) (x : WithAlu0)
    (s : State) : Host.Outcome State Fault Refusal :=
  s.run (fun dv => dv.runAlu env 0x00 d a b x)

/-- MOV (R242). -/
def execMov (env : WordEnv) (d : BitVec 5) (a : BitVec 5) (b : BitVec 5) (x : WithAlu0)
    (s : State) : Host.Outcome State Fault Refusal :=
  s.run (fun dv => dv.runAlu env 0x01 d a b x)

/-- ADD (R239). -/
def execAdd (env : WordEnv) (d : BitVec 5) (a : BitVec 5) (b : BitVec 5) (x : WithAlu0)
    (s : State) : Host.Outcome State Fault Refusal :=
  s.run (fun dv => dv.runAlu env 0x02 d a b x)

/-- SUB (R239). -/
def execSub (env : WordEnv) (d : BitVec 5) (a : BitVec 5) (b : BitVec 5) (x : WithAlu0)
    (s : State) : Host.Outcome State Fault Refusal :=
  s.run (fun dv => dv.runAlu env 0x03 d a b x)

/-- ADDS (R239). -/
def execAdds (env : WordEnv) (d : BitVec 5) (a : BitVec 5) (b : BitVec 5) (x : WithAlu0)
    (s : State) : Host.Outcome State Fault Refusal :=
  s.run (fun dv => dv.runAlu env 0x04 d a b x)

/-- SUBS (R239). -/
def execSubs (env : WordEnv) (d : BitVec 5) (a : BitVec 5) (b : BitVec 5) (x : WithAlu0)
    (s : State) : Host.Outcome State Fault Refusal :=
  s.run (fun dv => dv.runAlu env 0x05 d a b x)

/-- AND (R242). -/
def execAndWord (env : WordEnv) (d : BitVec 5) (a : BitVec 5) (b : BitVec 5) (x : WithAlu0)
    (s : State) : Host.Outcome State Fault Refusal :=
  s.run (fun dv => dv.runAlu env 0x06 d a b x)

/-- OR (R242). -/
def execOrWord (env : WordEnv) (d : BitVec 5) (a : BitVec 5) (b : BitVec 5) (x : WithAlu0)
    (s : State) : Host.Outcome State Fault Refusal :=
  s.run (fun dv => dv.runAlu env 0x07 d a b x)

/-- XOR (R242). -/
def execXor (env : WordEnv) (d : BitVec 5) (a : BitVec 5) (b : BitVec 5) (x : WithAlu0)
    (s : State) : Host.Outcome State Fault Refusal :=
  s.run (fun dv => dv.runAlu env 0x08 d a b x)

/-- SHL (R242). -/
def execShl (env : WordEnv) (d : BitVec 5) (a : BitVec 5) (b : BitVec 5) (x : WithAlu0)
    (s : State) : Host.Outcome State Fault Refusal :=
  s.run (fun dv => dv.runAlu env 0x09 d a b x)

/-- SHR (R242). -/
def execShr (env : WordEnv) (d : BitVec 5) (a : BitVec 5) (b : BitVec 5) (x : WithAlu0)
    (s : State) : Host.Outcome State Fault Refusal :=
  s.run (fun dv => dv.runAlu env 0x0A d a b x)

/-- SAR (R242). -/
def execSar (env : WordEnv) (d : BitVec 5) (a : BitVec 5) (b : BitVec 5) (x : WithAlu0)
    (s : State) : Host.Outcome State Fault Refusal :=
  s.run (fun dv => dv.runAlu env 0x0B d a b x)

/-- MIN (R242). -/
def execMinWord (env : WordEnv) (d : BitVec 5) (a : BitVec 5) (b : BitVec 5) (x : WithAlu0)
    (s : State) : Host.Outcome State Fault Refusal :=
  s.run (fun dv => dv.runAlu env 0x0C d a b x)

/-- MAX (R242). -/
def execMaxWord (env : WordEnv) (d : BitVec 5) (a : BitVec 5) (b : BitVec 5) (x : WithAlu0)
    (s : State) : Host.Outcome State Fault Refusal :=
  s.run (fun dv => dv.runAlu env 0x0D d a b x)

/-- ABSS (R239). -/
def execAbss (env : WordEnv) (d : BitVec 5) (a : BitVec 5) (b : BitVec 5) (x : WithAlu0)
    (s : State) : Host.Outcome State Fault Refusal :=
  s.run (fun dv => dv.runAlu env 0x0E d a b x)

/-- NEGS (R239). -/
def execNegs (env : WordEnv) (d : BitVec 5) (a : BitVec 5) (b : BitVec 5) (x : WithAlu0)
    (s : State) : Host.Outcome State Fault Refusal :=
  s.run (fun dv => dv.runAlu env 0x0F d a b x)

/-- MULQ31 (R239). -/
def execMulq31 (env : WordEnv) (d : BitVec 5) (a : BitVec 5) (b : BitVec 5) (x : WithAlu0)
    (s : State) : Host.Outcome State Fault Refusal :=
  s.run (fun dv => dv.runAlu env 0x10 d a b x)

/-- MULQ16 (R239). -/
def execMulq16 (env : WordEnv) (d : BitVec 5) (a : BitVec 5) (b : BitVec 5) (x : WithAlu0)
    (s : State) : Host.Outcome State Fault Refusal :=
  s.run (fun dv => dv.runAlu env 0x11 d a b x)

/-- MULL (R239). -/
def execMull (env : WordEnv) (d : BitVec 5) (a : BitVec 5) (b : BitVec 5) (x : WithAlu0)
    (s : State) : Host.Outcome State Fault Refusal :=
  s.run (fun dv => dv.runAlu env 0x12 d a b x)

/-- MAC (R239). -/
def execMac (env : WordEnv) (d : BitVec 5) (a : BitVec 5) (b : BitVec 5) (x : WithAlu0)
    (s : State) : Host.Outcome State Fault Refusal :=
  s.run (fun dv => dv.runAlu env 0x13 d a b x)

/-- MSU (R239). -/
def execMsu (env : WordEnv) (d : BitVec 5) (a : BitVec 5) (b : BitVec 5) (x : WithAlu0)
    (s : State) : Host.Outcome State Fault Refusal :=
  s.run (fun dv => dv.runAlu env 0x14 d a b x)

/-- WSET (R242). -/
def execWset (env : WordEnv) (d : BitVec 5) (a : BitVec 5) (b : BitVec 5) (x : WithAlu0)
    (s : State) : Host.Outcome State Fault Refusal :=
  s.run (fun dv => dv.runAlu env 0x15 d a b x)

/-- WEXT (R242). -/
def execWext (env : WordEnv) (d : BitVec 5) (a : BitVec 5) (b : BitVec 5) (x : WithAlu0)
    (s : State) : Host.Outcome State Fault Refusal :=
  s.run (fun dv => dv.runAlu env 0x16 d a b x)

/-- CEQ (R242). -/
def execCeq (env : WordEnv) (d : BitVec 5) (a : BitVec 5) (b : BitVec 5) (x : WithAlu0)
    (s : State) : Host.Outcome State Fault Refusal :=
  s.run (fun dv => dv.runAlu env 0x18 d a b x)

/-- CLT (R242). -/
def execClt (env : WordEnv) (d : BitVec 5) (a : BitVec 5) (b : BitVec 5) (x : WithAlu0)
    (s : State) : Host.Outcome State Fault Refusal :=
  s.run (fun dv => dv.runAlu env 0x19 d a b x)

/-- CLE (R242). -/
def execCle (env : WordEnv) (d : BitVec 5) (a : BitVec 5) (b : BitVec 5) (x : WithAlu0)
    (s : State) : Host.Outcome State Fault Refusal :=
  s.run (fun dv => dv.runAlu env 0x1A d a b x)

/-- CLTU (R242). -/
def execCltu (env : WordEnv) (d : BitVec 5) (a : BitVec 5) (b : BitVec 5) (x : WithAlu0)
    (s : State) : Host.Outcome State Fault Refusal :=
  s.run (fun dv => dv.runAlu env 0x1B d a b x)

/-- PAND (R242). -/
def execPand (env : WordEnv) (d : BitVec 5) (a : BitVec 5) (b : BitVec 5) (x : WithAlu0)
    (s : State) : Host.Outcome State Fault Refusal :=
  s.run (fun dv => dv.runAlu env 0x1C d a b x)

/-- POR (R242). -/
def execPor (env : WordEnv) (d : BitVec 5) (a : BitVec 5) (b : BitVec 5) (x : WithAlu0)
    (s : State) : Host.Outcome State Fault Refusal :=
  s.run (fun dv => dv.runAlu env 0x1D d a b x)

/-- PNOT (R242). -/
def execPnot (env : WordEnv) (d : BitVec 5) (a : BitVec 5) (b : BitVec 5) (x : WithAlu0)
    (s : State) : Host.Outcome State Fault Refusal :=
  s.run (fun dv => dv.runAlu env 0x1E d a b x)

/-- P2V (R242). -/
def execP2v (env : WordEnv) (d : BitVec 5) (a : BitVec 5) (b : BitVec 5) (x : WithAlu0)
    (s : State) : Host.Outcome State Fault Refusal :=
  s.run (fun dv => dv.runAlu env 0x1F d a b x)

/-- V2P (R242). -/
def execV2p (env : WordEnv) (d : BitVec 5) (a : BitVec 5) (b : BitVec 5) (x : WithAlu0)
    (s : State) : Host.Outcome State Fault Refusal :=
  s.run (fun dv => dv.runAlu env 0x20 d a b x)

/-- TCUR (R242). -/
def execTcur (env : WordEnv) (d : BitVec 5) (a : BitVec 5) (b : BitVec 5) (x : WithAlu0)
    (s : State) : Host.Outcome State Fault Refusal :=
  s.run (fun dv => dv.runAlu env 0x21 d a b x)

/-- TGET (R242). -/
def execTget (env : WordEnv) (d : BitVec 5) (a : BitVec 5) (b : BitVec 5) (x : WithAlu0)
    (s : State) : Host.Outcome State Fault Refusal :=
  s.run (fun dv => dv.runAlu env 0x22 d a b x)

/-- TBIND (R244). -/
def execTbind (env : WordEnv) (d : BitVec 5) (a : BitVec 5) (b : BitVec 5) (x : WithAlu0)
    (s : State) : Host.Outcome State Fault Refusal :=
  s.run (fun dv => dv.runAlu env 0x23 d a b x)

/-- FADD (R240). -/
def execFadd (env : WordEnv) (d : BitVec 5) (a : BitVec 5) (b : BitVec 5) (x : WithAlu0)
    (s : State) : Host.Outcome State Fault Refusal :=
  s.run (fun dv => dv.runAlu env 0x28 d a b x)

/-- FSUB (R240). -/
def execFsub (env : WordEnv) (d : BitVec 5) (a : BitVec 5) (b : BitVec 5) (x : WithAlu0)
    (s : State) : Host.Outcome State Fault Refusal :=
  s.run (fun dv => dv.runAlu env 0x29 d a b x)

/-- FMUL (R240). -/
def execFmul (env : WordEnv) (d : BitVec 5) (a : BitVec 5) (b : BitVec 5) (x : WithAlu0)
    (s : State) : Host.Outcome State Fault Refusal :=
  s.run (fun dv => dv.runAlu env 0x2A d a b x)

/-- FMA (R240). -/
def execFma (env : WordEnv) (d : BitVec 5) (a : BitVec 5) (b : BitVec 5) (x : WithAlu0)
    (s : State) : Host.Outcome State Fault Refusal :=
  s.run (fun dv => dv.runAlu env 0x2B d a b x)

/-- FMS (R240). -/
def execFms (env : WordEnv) (d : BitVec 5) (a : BitVec 5) (b : BitVec 5) (x : WithAlu0)
    (s : State) : Host.Outcome State Fault Refusal :=
  s.run (fun dv => dv.runAlu env 0x2C d a b x)

/-- FMIN (R240). -/
def execFmin (env : WordEnv) (d : BitVec 5) (a : BitVec 5) (b : BitVec 5) (x : WithAlu0)
    (s : State) : Host.Outcome State Fault Refusal :=
  s.run (fun dv => dv.runAlu env 0x2D d a b x)

/-- FMAX (R240). -/
def execFmax (env : WordEnv) (d : BitVec 5) (a : BitVec 5) (b : BitVec 5) (x : WithAlu0)
    (s : State) : Host.Outcome State Fault Refusal :=
  s.run (fun dv => dv.runAlu env 0x2E d a b x)

/-- FCEQ (R240). -/
def execFceq (env : WordEnv) (d : BitVec 5) (a : BitVec 5) (b : BitVec 5) (x : WithAlu0)
    (s : State) : Host.Outcome State Fault Refusal :=
  s.run (fun dv => dv.runAlu env 0x2F d a b x)

/-- FCLT (R240). -/
def execFclt (env : WordEnv) (d : BitVec 5) (a : BitVec 5) (b : BitVec 5) (x : WithAlu0)
    (s : State) : Host.Outcome State Fault Refusal :=
  s.run (fun dv => dv.runAlu env 0x30 d a b x)

/-- FCLE (R240). -/
def execFcle (env : WordEnv) (d : BitVec 5) (a : BitVec 5) (b : BitVec 5) (x : WithAlu0)
    (s : State) : Host.Outcome State Fault Refusal :=
  s.run (fun dv => dv.runAlu env 0x31 d a b x)

/-- FRCP (R240). -/
def execFrcp (env : WordEnv) (d : BitVec 5) (a : BitVec 5) (b : BitVec 5) (x : WithAlu0)
    (s : State) : Host.Outcome State Fault Refusal :=
  s.run (fun dv => dv.runAlu env 0x32 d a b x)

/-- FRSQ (R240). -/
def execFrsq (env : WordEnv) (d : BitVec 5) (a : BitVec 5) (b : BitVec 5) (x : WithAlu0)
    (s : State) : Host.Outcome State Fault Refusal :=
  s.run (fun dv => dv.runAlu env 0x33 d a b x)

/-- CVTXF (R241). -/
def execCvtxf (env : WordEnv) (d : BitVec 5) (a : BitVec 5) (b : BitVec 5) (x : WithAlu0)
    (s : State) : Host.Outcome State Fault Refusal :=
  s.run (fun dv => dv.runAlu env 0x34 d a b x)

/-- CVTFX (R241). -/
def execCvtfx (env : WordEnv) (d : BitVec 5) (a : BitVec 5) (b : BitVec 5) (x : WithAlu0)
    (s : State) : Host.Outcome State Fault Refusal :=
  s.run (fun dv => dv.runAlu env 0x35 d a b x)

/-- CVTFXR (R241). -/
def execCvtfxr (env : WordEnv) (d : BitVec 5) (a : BitVec 5) (b : BitVec 5) (x : WithAlu0)
    (s : State) : Host.Outcome State Fault Refusal :=
  s.run (fun dv => dv.runAlu env 0x36 d a b x)

/-- SEL (R242). -/
def execSel (env : WordEnv) (k : Fin 8) (d : BitVec 5) (a : BitVec 5) (b : BitVec 5) (x : WithAlu0)
    (s : State) : Host.Outcome State Fault Refusal :=
  s.run (fun dv => dv.runAlu env (0x38 + k.val) d a b x)

/-- MOVI (R236). -/
def execMovi (env : WordEnv) (alu0 : BitVec 21) (imm : Word) (dest : BitVec 5)
    (s : State) : Host.Outcome State Fault Refusal :=
  s.run (fun dv => dv.runLimm env alu0 imm dest 0)

/-- FEED (R236). -/
def execFeed (env : WordEnv) (alu0 : BitVec 21) (imm : Word) (dest : BitVec 5)
    (s : State) : Host.Outcome State Fault Refusal :=
  s.run (fun dv => dv.runLimm env alu0 imm dest 1)

/-- MEM_NOP (R243). -/
def execMemNop (env : WordEnv) (reg : BitVec 5) (tp : BitVec 2) (off : BitVec 9) (x : WithMem)
    (s : State) : Host.Outcome State Fault Refusal :=
  s.run (fun dv => dv.runMem env 0x0 reg tp off x)

/-- LDD (R243). -/
def execLdd (env : WordEnv) (reg : BitVec 5) (tp : BitVec 2) (off : BitVec 9) (x : WithMem)
    (s : State) : Host.Outcome State Fault Refusal :=
  s.run (fun dv => dv.runMem env 0x1 reg tp off x)

/-- LDDH (R243). -/
def execLddh (env : WordEnv) (reg : BitVec 5) (tp : BitVec 2) (off : BitVec 9) (x : WithMem)
    (s : State) : Host.Outcome State Fault Refusal :=
  s.run (fun dv => dv.runMem env 0x2 reg tp off x)

/-- STD (R243). -/
def execStd (env : WordEnv) (reg : BitVec 5) (tp : BitVec 2) (off : BitVec 9) (x : WithMem)
    (s : State) : Host.Outcome State Fault Refusal :=
  s.run (fun dv => dv.runMem env 0x3 reg tp off x)

/-- STDH (R243). -/
def execStdh (env : WordEnv) (reg : BitVec 5) (tp : BitVec 2) (off : BitVec 9) (x : WithMem)
    (s : State) : Host.Outcome State Fault Refusal :=
  s.run (fun dv => dv.runMem env 0x4 reg tp off x)

/-- LDDX (R243). -/
def execLddx (env : WordEnv) (reg : BitVec 5) (tp : BitVec 2) (off : BitVec 9) (x : WithMem)
    (s : State) : Host.Outcome State Fault Refusal :=
  s.run (fun dv => dv.runMem env 0x5 reg tp off x)

/-- STDX (R243). -/
def execStdx (env : WordEnv) (reg : BitVec 5) (tp : BitVec 2) (off : BitVec 9) (x : WithMem)
    (s : State) : Host.Outcome State Fault Refusal :=
  s.run (fun dv => dv.runMem env 0x6 reg tp off x)

/-- LDT (R246). -/
def execLdt (env : WordEnv) (reg : BitVec 5) (tp : BitVec 2) (off : BitVec 9) (x : WithMem)
    (s : State) : Host.Outcome State Fault Refusal :=
  s.run (fun dv => dv.runMem env 0x7 reg tp off x)

/-- LDTH (R246). -/
def execLdth (env : WordEnv) (reg : BitVec 5) (tp : BitVec 2) (off : BitVec 9) (x : WithMem)
    (s : State) : Host.Outcome State Fault Refusal :=
  s.run (fun dv => dv.runMem env 0x8 reg tp off x)

/-- LDTHP (R246). -/
def execLdthp (env : WordEnv) (reg : BitVec 5) (tp : BitVec 2) (off : BitVec 9) (x : WithMem)
    (s : State) : Host.Outcome State Fault Refusal :=
  s.run (fun dv => dv.runMem env 0x9 reg tp off x)

/-- LDIO (R250). -/
def execLdio (env : WordEnv) (reg : BitVec 5) (tp : BitVec 2) (off : BitVec 9) (x : WithMem)
    (s : State) : Host.Outcome State Fault Refusal :=
  s.run (fun dv => dv.runMem env 0xA reg tp off x)

/-- LDIO2 (R250). -/
def execLdio2 (env : WordEnv) (reg : BitVec 5) (tp : BitVec 2) (off : BitVec 9) (x : WithMem)
    (s : State) : Host.Outcome State Fault Refusal :=
  s.run (fun dv => dv.runMem env 0xB reg tp off x)

/-- STIO (R250). -/
def execStio (env : WordEnv) (reg : BitVec 5) (tp : BitVec 2) (off : BitVec 9) (x : WithMem)
    (s : State) : Host.Outcome State Fault Refusal :=
  s.run (fun dv => dv.runMem env 0xC reg tp off x)

/-- STIO2 (R250). -/
def execStio2 (env : WordEnv) (reg : BitVec 5) (tp : BitVec 2) (off : BitVec 9) (x : WithMem)
    (s : State) : Host.Outcome State Fault Refusal :=
  s.run (fun dv => dv.runMem env 0xD reg tp off x)

/-- END (R243). -/
def execEndWord (env : WordEnv) (reg : BitVec 5) (tp : BitVec 2) (off : BitVec 9) (x : WithMem)
    (s : State) : Host.Outcome State Fault Refusal :=
  s.run (fun dv => dv.runMem env 0xF reg tp off x)

/-- HS_REQ_STORE (R249). -/
def execHsReqStore (p : Slot) (hi : Bool) (v : Word) (s : State) : Host.Outcome State Fault Refusal :=
  s.run (fun d => d.hsReqRow p hi v)

/-- SURR_REQ (R288). -/
def execSurrReq (p : Slot) (s : State) : Host.Outcome State Fault Refusal :=
  s.run (fun d => if d.engRun p then d.surrStore p else d)

/-- MAILBOX_COMMIT (R308). -/
def execMailboxCommit (p : Slot) (v : Word) (s : State) : Host.Outcome State Fault Refusal :=
  s.run (fun d => if d.engRun p then d.mbxStore p 0 v else d)

end Sys2Proof.Machine
end

