-- ==== Sys2Proof/Machine/RowsMotion.lean ====
section
/-!
DEFINITION. Motion rows: motion commands, homing, compares and latches (R92 to R121). One meaning per constructor.
-/

namespace Sys2Proof.Machine

/-- PUSH (R102). -/
def execPush (a : Axis) (tgt : Word) (attr : Word) (tgt2 : Word)
    (s : State) : Host.Outcome State Fault Refusal :=
  s.run (fun d => d.hosted (fun d => d.mcmdRow a 1 tgt attr tgt2))

/-- RETARGET (R105). -/
def execRetarget (a : Axis) (tgt : Word) (attr : Word) (tgt2 : Word)
    (s : State) : Host.Outcome State Fault Refusal :=
  s.run (fun d => d.hosted (fun d => d.mcmdRow a 2 tgt attr tgt2))

/-- STOP (R106). -/
def execStop (a : Axis) (s : State) : Host.Outcome State Fault Refusal :=
  s.run (fun d => d.hosted (fun d => d.mcmdPlain a 3))

/-- QSTOP (R106). -/
def execQstop (a : Axis) (s : State) : Host.Outcome State Fault Refusal :=
  s.run (fun d => d.hosted (fun d => d.mcmdPlain a 4))

/-- HALT (R205). -/
def execHalt (a : Axis) (s : State) : Host.Outcome State Fault Refusal :=
  s.run (fun d => d.hosted (fun d => d.mcmdPlain a 5))

/-- REALIGN (R119). -/
def execRealign (a : Axis) (s : State) : Host.Outcome State Fault Refusal :=
  s.run (fun d => d.hosted (fun d => d.mcmdPlain a 6))

/-- HOME (R116). -/
def execHome (a : Axis) (s : State) : Host.Outcome State Fault Refusal :=
  s.run (fun d => d.hosted (fun d => d.mcmdPlain a 7))

/-- HOME_STEP_COMPLETE (R116). -/
def execHomeStepComplete (a : Axis) (s : State) : Host.Outcome State Fault Refusal :=
  s.run (fun d => d.homeStep a)

/-- PROFILE_END (R92). -/
def execProfileEnd (a : Axis) (s : State) : Host.Outcome State Fault Refusal :=
  s.run (fun d => d.profileEnd a)

/-- COMPARE_ARM (R111). -/
def execCompareArm (a : Axis) (i : Fin 4) (on : Bool) (s : State) : Host.Outcome State Fault Refusal :=
  s.run (fun d => d.hosted (fun d => d.compareRow a i on))

/-- LATCH_ARM (R114). -/
def execLatchArm (a : Axis) (on : Bool) (s : State) : Host.Outcome State Fault Refusal :=
  s.run (fun d => d.hosted (fun d => d.wrB (Reg.MOT_LATCH_CFG a) 15 on))

/-- LATCH_READY (R114). -/
def execLatchReady (a : Axis) (s : State) : Host.Outcome State Fault Refusal :=
  s.run (fun d => d.latchReady a)

end Sys2Proof.Machine
end

