-- ==== Sys2Proof/Machine/RowsObstacle.lean ====
section
/-!
DEFINITION. Obstacle rows: edges, the residual bypass and drift (R178 to R190, R258). One meaning per constructor.
-/

namespace Sys2Proof.Machine

/-- BYPASS (R189). -/
def execBypass (p : Slot) (on : Bool) (gate : Bool) (s : State) : Host.Outcome State Fault Refusal :=
  s.run (fun d => d.hosted (fun d => d.bypass p on gate))

/-- OBS_DRIFT_CLR (R190). -/
def execObsDriftClr (p : Slot) (s : State) : Host.Outcome State Fault Refusal :=
  s.run (fun d => d.hosted (fun d => d.driftRestart p))

/-- EDGE_MEASUREMENT (R258). -/
def execEdgeMeasurement (t : Nat) (e : Edge) (idle : Nat) (uv : Nat)
    (s : State) : Host.Outcome State Fault Refusal :=
  s.run (fun d => d.edgeRow t e idle uv)

/-- EDGE_MARGINAL (R178). -/
def execEdgeMarginal (e : Edge) (s : State) : Host.Outcome State Fault Refusal :=
  s.run (fun d => d.edgeMarginal e)

end Sys2Proof.Machine
end

