-- ==== Sys2Proof/Machine/RowsPortal.lean ====
section
/-!
DEFINITION. Portal cycle rows: host commands to a portal and the ends of its time limits (R46 to R57). One meaning per constructor.
-/

namespace Sys2Proof.Machine

/-- OPEN (R49). -/
def execOpenCmd (p : Slot) (s : State) : Host.Outcome State Fault Refusal :=
  s.run (fun d => d.hosted (fun d => d.portalCmd p 1 false))

/-- CLOSE (R48). -/
def execCloseCmd (p : Slot) (s : State) : Host.Outcome State Fault Refusal :=
  s.run (fun d => d.hosted (fun d => d.portalCmd p 2 false))

/-- FAULT_CLEAR (R57). -/
def execFaultClear (p : Slot) (s : State) : Host.Outcome State Fault Refusal :=
  s.run (fun d => d.hosted (fun d => d.portalCmd p 3 false))

/-- ISOLATE (R54). -/
def execIsolate (p : Slot) (gate : Bool) (s : State) : Host.Outcome State Fault Refusal :=
  s.run (fun d => d.hosted (fun d => d.portalCmd p 4 gate))

/-- RESTORE (R54). -/
def execRestore (p : Slot) (gate : Bool) (s : State) : Host.Outcome State Fault Refusal :=
  s.run (fun d => d.hosted (fun d => d.portalCmd p 5 gate))

/-- WARN_ELAPSED (R52). -/
def execWarnElapsed (p : Slot) (s : State) : Host.Outcome State Fault Refusal :=
  s.run (fun d => d.prtExpiry p true d.portal[p].warnAt (d.warnT p))

/-- DWELL_CLOSE_EXPIRY (R48). -/
def execDwellCloseExpiry (p : Slot) (s : State) : Host.Outcome State Fault Refusal :=
  s.run (fun d => d.prtExpiry p (d.pst p == psOpen && d.dwellT p != 0) (some d.portal[p].enteredAt) (d.dwellT p))

/-- LOCK_REL_MAX_EXPIRY (R55). -/
def execLockRelMaxExpiry (p : Slot) (s : State) : Host.Outcome State Fault Refusal :=
  s.run (fun d => d.prtExpiry p (d.pst p == psUnlocking) d.portal[p].lockAt (d.lockRelT p))

/-- LOCK_ENG_MAX_EXPIRY (R55). -/
def execLockEngMaxExpiry (p : Slot) (s : State) : Host.Outcome State Fault Refusal :=
  s.run (fun d => d.prtExpiry p (d.pst p == psLocking) d.portal[p].lockAt (d.lockEngT p))

/-- OPEN_MAX_EXPIRY (R55). -/
def execOpenMaxExpiry (p : Slot) (s : State) : Host.Outcome State Fault Refusal :=
  s.run (fun d => d.prtExpiry p (d.pst p == psOpening) (some d.portal[p].enteredAt) (d.openT p))

/-- CLOSE_MAX_EXPIRY (R55). -/
def execCloseMaxExpiry (p : Slot) (s : State) : Host.Outcome State Fault Refusal :=
  s.run (fun d => d.prtExpiry p (d.pst p == psClosing && !d.prtB p 21) (some (d.portal[p].enteredAt + d.portal[p].paused)) (d.closeT p))

/-- CURTAIN_MAX_EXPIRY (R46). -/
def execCurtainMaxExpiry (p : Slot) (s : State) : Host.Outcome State Fault Refusal :=
  s.run (fun d => d.prtExpiry p (d.curtT p != 0) d.portal[p].curtAt (d.curtT p))

/-- QUAL_MAX_EXPIRY (R56). -/
def execQualMaxExpiry (p : Slot) (s : State) : Host.Outcome State Fault Refusal :=
  s.run (fun d => d.prtExpiry p true ((d.portal[p].quals.filterMap id).min?) (d.qualT p))

/-- STEP_MAX_EXPIRY (R55). -/
def execStepMaxExpiry (p : Slot) (s : State) : Host.Outcome State Fault Refusal :=
  s.run (fun d => d.prtExpiry p true d.portal[p].stepAt (d.stepT p))

/-- REVERSAL_WAIT_EXPIRY (R182). -/
def execReversalWaitExpiry (p : Slot) (s : State) : Host.Outcome State Fault Refusal :=
  s.run (fun d => d.prtExpiry p (d.pst p == psReversing) d.portal[p].waitAt (d.waitT p))

end Sys2Proof.Machine
end

