-- ==== Sys2Proof/Machine/RowsPower.lean ====
section
/-!
DEFINITION. Power rows: power states, waking and tolerances (R370, R380 to R391). One meaning per constructor.
-/

namespace Sys2Proof.Machine

/-- WAKE_N (R370). -/
def execWakeN (t : Nat) (low : Bool) (s : State) : Host.Outcome State Fault Refusal :=
  s.run (fun d => (d.upTo t).wakeN low)

/-- POWER_STATE_ENTRY (R383). -/
def execPowerStateEntry (s : State) : Host.Outcome State Fault Refusal :=
  s.run (fun d => d.powerEntry)

/-- WAKE (R385). -/
def execWake (code : BitVec 8) (t : Nat) (s : State) : Host.Outcome State Fault Refusal :=
  s.run (fun d => d.wakeRow code.toNat t)

/-- EXIT_COMPLETE (R387). -/
def execExitComplete (t : Nat) (s : State) : Host.Outcome State Fault Refusal :=
  s.runHost (fun d h => Machine.exitRow d h t)

/-- TOLERANCE_WRITE (R391). -/
def execToleranceWrite (which : Fin 3) (v : Word) (s : State) : Host.Outcome State Fault Refusal :=
  s.run (fun d => d.hosted (fun d => d.tolWrite which v))

end Sys2Proof.Machine
end

