-- ==== Sys2Proof/Machine/RowsRecorder.lean ====
section
/-!
DEFINITION. Recorder rows: records, flushes, NAND operations, the record window and compaction (R303 to R332). One meaning per constructor.
-/

namespace Sys2Proof.Machine

/-- MIRROR_RECORD (R313). -/
def execMirrorRecord (t : Nat) (origin : Nat) (west : Bool) (ofs : Nat) (r : Rec)
    (s : State) : Host.Outcome State Fault Refusal :=
  s.run (fun d => (d.upTo t).mirrorRecord origin west ofs r)

/-- FLUSH_MARK (R313). -/
def execFlushMark (origin : Nat) (ofs : Nat) (s : State) : Host.Outcome State Fault Refusal :=
  s.run (fun d => d.flushMark origin ofs)

/-- RETURN (R314). -/
def execReturnRecord (t : Nat) (r : Rec) (s : State) : Host.Outcome State Fault Refusal :=
  s.run (fun d => (d.upTo t).returned r)

/-- RETURN_END (R314). -/
def execReturnEnd (t : Nat) (sender : Nat) (s : State) : Host.Outcome State Fault Refusal :=
  s.run (fun d => (d.upTo t).returnEnd sender)

/-- RECORD_REQUEST (R310). -/
def execRecordRequest (t : Nat) (q : RecordAsk) (s : State) : Host.Outcome State Fault Refusal :=
  s.run (fun d => (d.upTo t).ask q)

/-- RECORD_WRITE (R310). -/
def execRecordWrite (s : State) : Host.Outcome State Fault Refusal :=
  s.run (fun d => d.recordWrite)

/-- SNAPSHOT_RECORD_READ (R305). -/
def execSnapshotRecordRead (s : State) : Host.Outcome State Fault Refusal :=
  s.run (fun d => d.snapshotRead)

/-- FLUSH_TIMER (R316). -/
def execFlushTimer (s : State) : Host.Outcome State Fault Refusal :=
  s.run (fun d => d.flushTimer)

/-- SEVERE_FLUSH_TIMER (R316). -/
def execSevereFlushTimer (s : State) : Host.Outcome State Fault Refusal :=
  s.run (fun d => d.severeFlush)

/-- FLUSH (R316). -/
def execFlush (s : State) : Host.Outcome State Fault Refusal :=
  s.run (fun d => d.hosted (fun d => d.flushTrigger))

/-- FLUSH_COMPLETE (R316). -/
def execFlushComplete (s : State) : Host.Outcome State Fault Refusal :=
  s.run (fun d => d.afterFlush)

/-- NAND_PROGRAM_COMPLETE (R321). -/
def execNandProgramComplete (t : Nat) (ok : Bool) (s : State) : Host.Outcome State Fault Refusal :=
  s.run (fun d => (d.upTo t).programmed ok)

/-- PFI_ACCEPT (R318). -/
def execPfiAccept (t : Nat) (s : State) : Host.Outcome State Fault Refusal :=
  s.run (fun d => (d.upTo t).pfiAccept)

/-- PF_DONE (R318). -/
def execPfDone (t : Nat) (s : State) : Host.Outcome State Fault Refusal :=
  s.run (fun d => (d.upTo t).pfDone)

/-- PFI_FALL (R319). -/
def execPfiFall (t : Nat) (s : State) : Host.Outcome State Fault Refusal :=
  s.run (fun d => (d.upTo t).pfiFall)

/-- SEQ_HOLD_END (R315). -/
def execSeqHoldEnd (s : State) : Host.Outcome State Fault Refusal :=
  s.run (fun d => d.seqHoldEnd)

/-- CURSOR_LO (R327). -/
def execCursorLo (v : Word) (s : State) : Host.Outcome State Fault Refusal :=
  s.run (fun d => d.hostedRec (fun d => d.cursorLo v))

/-- SEEK_OLDEST (R327). -/
def execSeekOldest (s : State) : Host.Outcome State Fault Refusal :=
  s.run (fun d => d.hostedRec (fun d => d.seek false))

/-- SEEK_NEWEST (R327). -/
def execSeekNewest (s : State) : Host.Outcome State Fault Refusal :=
  s.run (fun d => d.hostedRec (fun d => d.seek true))

/-- WINDOW_READY (R327). -/
def execWindowReady (s : State) : Host.Outcome State Fault Refusal :=
  s.run (fun d => d.windowReady)

/-- COMPACTION_START (R332). -/
def execCompactionStart (s : State) : Host.Outcome State Fault Refusal :=
  s.run (fun d => d.compactStart)

/-- COMPACTION_END (R332). -/
def execCompactionEnd (s : State) : Host.Outcome State Fault Refusal :=
  s.run (fun d => d.compactEnd)

/-- NAND_ERASE_COMPLETE (R321). -/
def execNandEraseComplete (b : Nat) (s : State) : Host.Outcome State Fault Refusal :=
  s.run (fun d => d.nandErase b)

/-- SEAL_SIGNATURE_READY (R323). -/
def execSealSignatureReady (t : Nat) (s : State) : Host.Outcome State Fault Refusal :=
  s.run (fun d => (d.upTo t).sealReady)

end Sys2Proof.Machine
end

