-- ==== Sys2Proof/Machine/RowsSecurity.lean ====
section
/-!
DEFINITION. Security rows: bundle loads, keys, sessions, life cycle and JTAG (R337 to R352). One meaning per constructor.
-/

namespace Sys2Proof.Machine

/-- LOAD_BEGIN (R339). -/
def execLoadBegin (gate : Bool) (s : State) : Host.Outcome State Fault Refusal :=
  s.run (fun d => d.hostedEarly (fun d => d.loadBegin gate))

/-- LOAD_WIN_WRITE (R339). -/
def execLoadWinWrite (ofs : Nat) (bytes : List Byte) (gate : Bool)
    (s : State) : Host.Outcome State Fault Refusal :=
  s.run (fun d => d.hostedEarly (fun d => d.loadWindow ofs bytes gate))

/-- LOAD_END (R339). -/
def execLoadEnd (gate : Bool) (s : State) : Host.Outcome State Fault Refusal :=
  s.run (fun d => d.hostedEarly (fun d => d.loadEnd gate))

/-- LOAD_ABORT (R339). -/
def execLoadAbort (gate : Bool) (s : State) : Host.Outcome State Fault Refusal :=
  s.run (fun d => d.hostedEarly (fun d => d.loadAbortCmd gate))

/-- BUNDLE_VERIFY (R340). -/
def execBundleVerify (t : Nat) (s : State) : Host.Outcome State Fault Refusal :=
  s.run (fun d => (d.upTo t).bundleVerify)

/-- KEY_ORDER (R337). -/
def execKeyOrder (gate : Bool) (s : State) : Host.Outcome State Fault Refusal :=
  s.run (fun d => d.hostedEarly (fun d => d.keyOrder gate))

/-- REVERT (R341). -/
def execRevert (gate : Bool) (s : State) : Host.Outcome State Fault Refusal :=
  s.run (fun d => d.hostedEarly (fun d => d.revert gate))

/-- SVN_COMMIT (R342). -/
def execSvnCommit (gate : Bool) (s : State) : Host.Outcome State Fault Refusal :=
  s.run (fun d => d.hostedEarly (fun d => d.svnCommit gate))

/-- SESS_END (R347). -/
def execSessEnd (gate : Bool) (s : State) : Host.Outcome State Fault Refusal :=
  s.run (fun d => d.hostedEarly (fun d => d.sessEndCmd gate))

/-- CERT_READ (R344). -/
def execCertRead (s : State) : Host.Outcome State Fault Refusal :=
  s.run (fun d => d.hostedEarly (fun d => d.certRead))

/-- ATTEST (R344). -/
def execAttest (s : State) : Host.Outcome State Fault Refusal :=
  s.run (fun d => d.hostedEarly (fun d => d.attest))

/-- REPORT_READY (R344). -/
def execReportReady (t : Nat) (s : State) : Host.Outcome State Fault Refusal :=
  s.run (fun d => (d.upTo t).reportReady)

/-- CHAL_REQ (R345). -/
def execChalReq (s : State) : Host.Outcome State Fault Refusal :=
  s.run (fun d => d.hostedEarly (fun d => d.chalReq))

/-- CHALLENGE_READY (R345). -/
def execChallengeReady (t : Nat) (s : State) : Host.Outcome State Fault Refusal :=
  s.run (fun d => (d.upTo t).challengeReady)

/-- SESS_START (R345). -/
def execSessStart (s : State) : Host.Outcome State Fault Refusal :=
  s.run (fun d => d.hostedEarly (fun d => d.sessStart))

/-- TOKEN_CHECKED (R345). -/
def execTokenChecked (t : Nat) (s : State) : Host.Outcome State Fault Refusal :=
  s.run (fun d => (d.upTo t).tokenChecked)

/-- SESSION_EXPIRY (R347). -/
def execSessionExpiry (s : State) : Host.Outcome State Fault Refusal :=
  s.run (fun d => d.sessionExpiry)

/-- ORDER (R349). -/
def execOrder (gate : Bool) (s : State) : Host.Outcome State Fault Refusal :=
  s.run (fun d => d.hostedEarly (fun d => d.lifeCycle gate))

/-- JTAG_INSTRUCTION (R351). -/
def execJtagInstruction (ins : JtagIns) (vendor : Bool) (s : State) : Host.Outcome State Fault Refusal :=
  s.run (fun d => d.jtag ins vendor)

/-- TRST_N (R352). -/
def execTrstN (s : State) : Host.Outcome State Fault Refusal :=
  s.run (fun d => d.trstN)

end Sys2Proof.Machine
end

