-- ==== Sys2Proof/Machine/RowsServo.lean ====
section
/-!
DEFINITION. Servo axes rows: hardware shut-off, enables and acknowledgements, parameter banks (R146 to R162). One meaning per constructor.
-/

namespace Sys2Proof.Machine

/-- DSM_STUCK (R146). -/
def execDsmStuck (t : Nat) (a : Axis) (s : State) : Host.Outcome State Fault Refusal :=
  s.run (fun d => (d.upTo t).dsmStuckRow a)

/-- BRIDGE_FAULT (R161). -/
def execBridgeFault (t : Nat) (n : Sax) (s : State) : Host.Outcome State Fault Refusal :=
  s.run (fun d => (d.upTo t).bridgeFault n)

/-- OVER_CURRENT (R161). -/
def execOverCurrent (t : Nat) (n : Sax) (s : State) : Host.Outcome State Fault Refusal :=
  s.run (fun d => (d.upTo t).overCurrentRow n)

/-- SERVO_EN (R162). -/
def execServoEn (n : Sax) (on : Bool) (s : State) : Host.Outcome State Fault Refusal :=
  s.run (fun d => d.hosted (fun d => d.servoEn n on))

/-- FLT_ACK (R161). -/
def execFltAck (n : Sax) (high : Bool) (s : State) : Host.Outcome State Fault Refusal :=
  s.run (fun d => d.hosted (fun d => d.fltAck n high))

/-- OC_ACK (R161). -/
def execOcAck (n : Sax) (s : State) : Host.Outcome State Fault Refusal :=
  s.run (fun d => d.hosted (fun d => d.ocAck n))

/-- DSM_ACK (R161). -/
def execDsmAck (n : Sax) (s : State) : Host.Outcome State Fault Refusal :=
  s.run (fun d => d.hosted (fun d => d.dsmAck n))

/-- SEAL (R158). -/
def execSealBank (n : Sax) (s : State) : Host.Outcome State Fault Refusal :=
  s.run (fun d => d.hosted (fun d => d.sealStart n))

/-- SEAL_COMPLETE (R158). -/
def execSealComplete (n : Sax) (s : State) : Host.Outcome State Fault Refusal :=
  s.run (fun d => d.sealDone n)

/-- BANK_SWAP (R159). -/
def execBankSwap (n : Sax) (bankB : Bool) (gate : Bool) (s : State) : Host.Outcome State Fault Refusal :=
  s.run (fun d => d.hosted (fun d => d.bankSwap n bankB gate))

/-- BANK_WRITE (R158). -/
def execBankWrite (addr : Nat) (v : Word) (s : State) : Host.Outcome State Fault Refusal :=
  s.run (fun d => d.hosted (fun d => (d.bankWrite addr v).1))

/-- DSM_TRANSITIONS_RESUME (R146). -/
def execDsmTransitionsResume (t : Nat) (a : Axis) (s : State) : Host.Outcome State Fault Refusal :=
  s.run (fun d => (d.upTo t).dsmResume a)

end Sys2Proof.Machine
end

