-- ==== Sys2Proof/Machine/RowsSpine.lean ====
section
/-!
DEFINITION. Spine rows: the spine, the crystal and the PLL, and self-test (R24 to R32, R287, R375). One meaning per constructor.
-/

namespace Sys2Proof.Machine

/-- SPINE_FRAME (R24). -/
def execSpineFrame (up : Bool) (ok : Bool) (t : Nat) (s : State) : Host.Outcome State Fault Refusal :=
  s.run (fun d => d.spineFrame up ok t)

/-- UPSTREAM_SILENCE (R26). -/
def execUpstreamSilence (t : Nat) (s : State) : Host.Outcome State Fault Refusal :=
  s.run (fun d => d.upstreamSilence t)

/-- CRYSTAL_LOSS (R32). -/
def execCrystalLoss (t : Nat) (s : State) : Host.Outcome State Fault Refusal :=
  s.run (fun d => d.crystalLoss t)

/-- PLL_LOCK (R27). -/
def execPllLocks (t : Nat) (s : State) : Host.Outcome State Fault Refusal :=
  s.run (fun d => d.pllLocks t)

/-- PLL_SLIP (R375). -/
def execPllSlip (t : Nat) (s : State) : Host.Outcome State Fault Refusal :=
  s.run (fun d => (d.upTo t).pllSlip)

/-- SPINE_LOOPBACK (R287). -/
def execSpineLoopback (ok : Bool) (s : State) : Host.Outcome State Fault Refusal :=
  s.run (fun d => d.spineLoop ok)

/-- BACKGROUND_SELF_TEST (R287). -/
def execBackgroundSelfTest (engine : Bool) (ok : Bool) (s : State) : Host.Outcome State Fault Refusal :=
  s.run (fun d => d.selfTest engine ok)

end Sys2Proof.Machine
end

