-- ==== Sys2Proof/Machine/RowsStartup.lean ====
section
/-!
DEFINITION. Start-up rows: resets, release and start-up (R27, R392 to R401). One meaning per constructor.
-/

namespace Sys2Proof.Machine

/-- RST_N_ASSERT (R392). -/
def execRstNAssert (t : Nat) (s : State) : Host.Outcome State Fault Refusal :=
  s.run (fun d => d.rstN t)

/-- VFLD_LOSS (R392). -/
def execVfldLoss (t : Nat) (s : State) : Host.Outcome State Fault Refusal :=
  s.run (fun d => d.vfldLoss t)

/-- RESET_GO (R393). -/
def execResetGo (s : State) : Host.Outcome State Fault Refusal :=
  s.run (fun d => d.hostedEarly (fun d => d.resetGo))

/-- CONTROL_DIE_RESET (R392). -/
def execControlDieReset (t : Nat) (s : State) : Host.Outcome State Fault Refusal :=
  s.run (fun d => d.controlDieReset t)

/-- CONTROL_DIE_RELEASE (R392). -/
def execControlDieRelease (t : Nat) (s : State) : Host.Outcome State Fault Refusal :=
  s.run (fun d => d.controlRelease t)

/-- RST_N_RELEASE (R27). -/
def execRstNRelease (t : Nat) (role : Fin 8) (s : State) : Host.Outcome State Fault Refusal :=
  s.run (fun d => d.rstRelease t role)

/-- STARTUP_STEP_COMPLETE (R396). -/
def execStartupStepComplete (t : Nat) (nandOk : Bool) (s : State) : Host.Outcome State Fault Refusal :=
  s.run (fun d => d.startupStep t nandOk)

/-- NOT_STARTED_HOLD_END (R401). -/
def execNotStartedHoldEnd (s : State) : Host.Outcome State Fault Refusal :=
  s.run (fun d => d.holdEnd)

end Sys2Proof.Machine
end

