-- ==== Sys2Proof/Machine/RowsStep.lean ====
section
/-!
DEFINITION. Step drives rows: chopping of the step drives, standstill, enables and acknowledgements (R197 to R199). One meaning per constructor.
-/

namespace Sys2Proof.Machine

/-- BLANKING_END (R197). -/
def execBlankingEnd (n : Stx) (coilB : Bool) (bits : List Bool) (cx : Bool)
    (s : State) : Host.Outcome State Fault Refusal :=
  s.run (fun d => d.blankingEnd n coilB bits cx)

/-- CHOP_TRIP (R197). -/
def execChopTrip (t : Nat) (n : Stx) (coilB : Bool) (bits : List Bool) (cx : Bool)
    (s : State) : Host.Outcome State Fault Refusal :=
  s.run (fun d => d.chopTrip t n coilB bits cx)

/-- FAST_DECAY_END (R197). -/
def execFastDecayEnd (n : Stx) (coilB : Bool) (s : State) : Host.Outcome State Fault Refusal :=
  s.run (fun d => d.fastEnd n coilB)

/-- OFF_TIME_END (R197). -/
def execOffTimeEnd (n : Stx) (coilB : Bool) (s : State) : Host.Outcome State Fault Refusal :=
  s.run (fun d => d.offTimeEnd n coilB)

/-- STANDSTILL (R199). -/
def execStandstill (n : Stx) (s : State) : Host.Outcome State Fault Refusal :=
  s.run (fun d => d.standstill n)

/-- STEP_EN (R198). -/
def execStepEn (n : Stx) (on : Bool) (s : State) : Host.Outcome State Fault Refusal :=
  s.run (fun d => d.hosted (fun d => d.stepEn n on))

/-- SHORT_ACK (R198). -/
def execShortAck (n : Stx) (s : State) : Host.Outcome State Fault Refusal :=
  s.run (fun d => d.hosted (fun d => d.shortAck n))

/-- STEP_DSM_ACK (R198). -/
def execStepDsmAck (n : Stx) (s : State) : Host.Outcome State Fault Refusal :=
  s.run (fun d => d.hosted (fun d => d.stepDsmAck n))

end Sys2Proof.Machine
end

