-- ==== Sys2Proof/Machine/RowsStrobe.lean ====
section
/-!
DEFINITION. Strobe rows: the strobe instant and the closing of the shadow registers (R29, R31). One meaning per constructor.
-/

namespace Sys2Proof.Machine

/-- TICK_STROBE (R29). -/
def execTickStrobe (i : TickIn) (s : State) : Host.Outcome State Fault Refusal :=
  { s with broken := [] }.run (fun d => (d.breakDwells s.broken).strobe s.host i)

/-- SHADOW_CLOSE (R31). -/
def execShadowClose (s : State) : Host.Outcome State Fault Refusal :=
  s.run (fun d => d.shadowClose)

end Sys2Proof.Machine
end

