-- ==== Sys2Proof/Machine/RowsSupply.lean ====
section
/-!
DEFINITION. Supplies rows: supplies, temperature and uncorrectable errors (R288, R375). One meaning per constructor.
-/

namespace Sys2Proof.Machine

/-- SUPPLY_OUT_OF_RANGE (R288). -/
def execSupplyOutOfRange (i : Fin 3) (out : Bool) (t : Nat) (s : State) : Host.Outcome State Fault Refusal :=
  s.run (fun d => d.supplyOut i out t)

/-- VDDIO18_OUT_OF_RANGE (R375). -/
def execVddio18OutOfRange (t : Nat) (out : Bool) (s : State) : Host.Outcome State Fault Refusal :=
  s.run (fun d => (d.upTo t).supply 3 out)

/-- THERMAL_SURRENDER (R288). -/
def execThermalSurrender (t : Nat) (s : State) : Host.Outcome State Fault Refusal :=
  s.run (fun d => (d.upTo t).thermalSurrender)

/-- UNCORRECTABLE_ECC (R288). -/
def execUncorrectableEcc (t : Nat) (s : State) : Host.Outcome State Fault Refusal :=
  s.run (fun d => (d.upTo t).eccSurrender)

/-- TEMP_CHANGE (R375). -/
def execTempChange (t : Nat) (temp : BitVec 16) (s : State) : Host.Outcome State Fault Refusal :=
  s.run (fun d => (d.upTo t).tempChange temp)

end Sys2Proof.Machine
end

