-- ==== Sys2Proof/Machine/RowsTrace.lean ====
section
/-!
DEFINITION. Trace rows: the trace unit (R165). One meaning per constructor.
-/

namespace Sys2Proof.Machine

/-- TRACE_ARM (R165). -/
def execTraceArm (s : State) : Host.Outcome State Fault Refusal :=
  s.run (fun d => d.hosted (fun d => d.traceArm))

/-- TRACE_STOP (R165). -/
def execTraceStop (s : State) : Host.Outcome State Fault Refusal :=
  s.run (fun d => d.hosted (fun d => d.traceStop))

/-- MANUAL (R165). -/
def execManual (s : State) : Host.Outcome State Fault Refusal :=
  s.run (fun d => d.hosted (fun d => d.traceManual))

end Sys2Proof.Machine
end

