-- ==== Sys2Proof/Machine/Dispatch.lean ====
section
/-!
DEFINITION. The command dispatch: one arm per constructor, one direct call of its meaning.
-/

namespace Sys2Proof.Machine

/-- The effect of a command (every row of spec/opcode_table.json). -/
def exec (i : Instr) (s : State) : Host.Outcome State Fault Refusal :=
  match i with
  | .tickStrobe x => Sys2Proof.Machine.execTickStrobe x s
  | .shadowClose => Sys2Proof.Machine.execShadowClose s
  | .openCmd p => Sys2Proof.Machine.execOpenCmd p s
  | .closeCmd p => Sys2Proof.Machine.execCloseCmd p s
  | .faultClear p => Sys2Proof.Machine.execFaultClear p s
  | .isolate p gate => Sys2Proof.Machine.execIsolate p gate s
  | .restore p gate => Sys2Proof.Machine.execRestore p gate s
  | .warnElapsed p => Sys2Proof.Machine.execWarnElapsed p s
  | .dwellCloseExpiry p => Sys2Proof.Machine.execDwellCloseExpiry p s
  | .lockRelMaxExpiry p => Sys2Proof.Machine.execLockRelMaxExpiry p s
  | .lockEngMaxExpiry p => Sys2Proof.Machine.execLockEngMaxExpiry p s
  | .openMaxExpiry p => Sys2Proof.Machine.execOpenMaxExpiry p s
  | .closeMaxExpiry p => Sys2Proof.Machine.execCloseMaxExpiry p s
  | .curtainMaxExpiry p => Sys2Proof.Machine.execCurtainMaxExpiry p s
  | .qualMaxExpiry p => Sys2Proof.Machine.execQualMaxExpiry p s
  | .stepMaxExpiry p => Sys2Proof.Machine.execStepMaxExpiry p s
  | .reversalWaitExpiry p => Sys2Proof.Machine.execReversalWaitExpiry p s
  | .tlChannelAccept t ch samples => Sys2Proof.Machine.execTlChannelAccept t ch samples s
  | .tlDiscExpiry j => Sys2Proof.Machine.execTlDiscExpiry j s
  | .inputStale j => Sys2Proof.Machine.execInputStale j s
  | .dlpRbChange t before lvl => Sys2Proof.Machine.execDlpRbChange t before lvl s
  | .killConfirmExpiry => Sys2Proof.Machine.execKillConfirmExpiry s
  | .loopOpen => Sys2Proof.Machine.execLoopOpen s
  | .lockBackfeed k => Sys2Proof.Machine.execLockBackfeed k s
  | .push a tgt attr tgt2 => Sys2Proof.Machine.execPush a tgt attr tgt2 s
  | .retarget a tgt attr tgt2 => Sys2Proof.Machine.execRetarget a tgt attr tgt2 s
  | .stop a => Sys2Proof.Machine.execStop a s
  | .qstop a => Sys2Proof.Machine.execQstop a s
  | .halt a => Sys2Proof.Machine.execHalt a s
  | .realign a => Sys2Proof.Machine.execRealign a s
  | .home a => Sys2Proof.Machine.execHome a s
  | .homeStepComplete a => Sys2Proof.Machine.execHomeStepComplete a s
  | .profileEnd a => Sys2Proof.Machine.execProfileEnd a s
  | .compareArm a j on => Sys2Proof.Machine.execCompareArm a j on s
  | .latchArm a on => Sys2Proof.Machine.execLatchArm a on s
  | .latchReady a => Sys2Proof.Machine.execLatchReady a s
  | .encoderTransition c t samples => Sys2Proof.Machine.execEncoderTransition c t samples s
  | .illWindowEnd c => Sys2Proof.Machine.execIllWindowEnd c s
  | .wireFault t c line => Sys2Proof.Machine.execWireFault t c line s
  | .wireFaultEnd t c line => Sys2Proof.Machine.execWireFaultEnd t c line s
  | .spdTimeoutExpiry c => Sys2Proof.Machine.execSpdTimeoutExpiry c s
  | .indexEvent t c => Sys2Proof.Machine.execIndexEvent t c s
  | .hallSectorChange t0 c code => Sys2Proof.Machine.execHallSectorChange t0 c code s
  | .uncClr c => Sys2Proof.Machine.execUncClr c s
  | .driftClr c => Sys2Proof.Machine.execDriftClr c s
  | .dsmStuck t a => Sys2Proof.Machine.execDsmStuck t a s
  | .bridgeFault t n => Sys2Proof.Machine.execBridgeFault t n s
  | .overCurrent t n => Sys2Proof.Machine.execOverCurrent t n s
  | .servoEn n on => Sys2Proof.Machine.execServoEn n on s
  | .fltAck n high => Sys2Proof.Machine.execFltAck n high s
  | .ocAck n => Sys2Proof.Machine.execOcAck n s
  | .dsmAck n => Sys2Proof.Machine.execDsmAck n s
  | .sealBank n => Sys2Proof.Machine.execSealBank n s
  | .sealComplete n => Sys2Proof.Machine.execSealComplete n s
  | .bankSwap n bankB gate => Sys2Proof.Machine.execBankSwap n bankB gate s
  | .bankWrite addr v => Sys2Proof.Machine.execBankWrite addr v s
  | .traceArm => Sys2Proof.Machine.execTraceArm s
  | .traceStop => Sys2Proof.Machine.execTraceStop s
  | .manual => Sys2Proof.Machine.execManual s
  | .bypass p on gate => Sys2Proof.Machine.execBypass p on gate s
  | .obsDriftClr p => Sys2Proof.Machine.execObsDriftClr p s
  | .edgeMeasurement t e idle uv => Sys2Proof.Machine.execEdgeMeasurement t e idle uv s
  | .edgeMarginal e => Sys2Proof.Machine.execEdgeMarginal e s
  | .blankingEnd n coilB bits cx => Sys2Proof.Machine.execBlankingEnd n coilB bits cx s
  | .chopTrip t n coilB bits cx => Sys2Proof.Machine.execChopTrip t n coilB bits cx s
  | .fastDecayEnd n coilB => Sys2Proof.Machine.execFastDecayEnd n coilB s
  | .offTimeEnd n coilB => Sys2Proof.Machine.execOffTimeEnd n coilB s
  | .standstill n => Sys2Proof.Machine.execStandstill n s
  | .stepEn n on => Sys2Proof.Machine.execStepEn n on s
  | .shortAck n => Sys2Proof.Machine.execShortAck n s
  | .stepDsmAck n => Sys2Proof.Machine.execStepDsmAck n s
  | .restart p => Sys2Proof.Machine.execRestart p s
  | .restartComplete p => Sys2Proof.Machine.execRestartComplete p s
  | .statClr p => Sys2Proof.Machine.execStatClr p s
  | .nopWord env d a b x => Sys2Proof.Machine.execNopWord env d a b x s
  | .mov env d a b x => Sys2Proof.Machine.execMov env d a b x s
  | .add env d a b x => Sys2Proof.Machine.execAdd env d a b x s
  | .sub env d a b x => Sys2Proof.Machine.execSub env d a b x s
  | .adds env d a b x => Sys2Proof.Machine.execAdds env d a b x s
  | .subs env d a b x => Sys2Proof.Machine.execSubs env d a b x s
  | .andWord env d a b x => Sys2Proof.Machine.execAndWord env d a b x s
  | .orWord env d a b x => Sys2Proof.Machine.execOrWord env d a b x s
  | .xor env d a b x => Sys2Proof.Machine.execXor env d a b x s
  | .shl env d a b x => Sys2Proof.Machine.execShl env d a b x s
  | .shr env d a b x => Sys2Proof.Machine.execShr env d a b x s
  | .sar env d a b x => Sys2Proof.Machine.execSar env d a b x s
  | .minWord env d a b x => Sys2Proof.Machine.execMinWord env d a b x s
  | .maxWord env d a b x => Sys2Proof.Machine.execMaxWord env d a b x s
  | .abss env d a b x => Sys2Proof.Machine.execAbss env d a b x s
  | .negs env d a b x => Sys2Proof.Machine.execNegs env d a b x s
  | .mulq31 env d a b x => Sys2Proof.Machine.execMulq31 env d a b x s
  | .mulq16 env d a b x => Sys2Proof.Machine.execMulq16 env d a b x s
  | .mull env d a b x => Sys2Proof.Machine.execMull env d a b x s
  | .mac env d a b x => Sys2Proof.Machine.execMac env d a b x s
  | .msu env d a b x => Sys2Proof.Machine.execMsu env d a b x s
  | .wset env d a b x => Sys2Proof.Machine.execWset env d a b x s
  | .wext env d a b x => Sys2Proof.Machine.execWext env d a b x s
  | .ceq env d a b x => Sys2Proof.Machine.execCeq env d a b x s
  | .clt env d a b x => Sys2Proof.Machine.execClt env d a b x s
  | .cle env d a b x => Sys2Proof.Machine.execCle env d a b x s
  | .cltu env d a b x => Sys2Proof.Machine.execCltu env d a b x s
  | .pand env d a b x => Sys2Proof.Machine.execPand env d a b x s
  | .por env d a b x => Sys2Proof.Machine.execPor env d a b x s
  | .pnot env d a b x => Sys2Proof.Machine.execPnot env d a b x s
  | .p2v env d a b x => Sys2Proof.Machine.execP2v env d a b x s
  | .v2p env d a b x => Sys2Proof.Machine.execV2p env d a b x s
  | .tcur env d a b x => Sys2Proof.Machine.execTcur env d a b x s
  | .tget env d a b x => Sys2Proof.Machine.execTget env d a b x s
  | .tbind env d a b x => Sys2Proof.Machine.execTbind env d a b x s
  | .fadd env d a b x => Sys2Proof.Machine.execFadd env d a b x s
  | .fsub env d a b x => Sys2Proof.Machine.execFsub env d a b x s
  | .fmul env d a b x => Sys2Proof.Machine.execFmul env d a b x s
  | .fma env d a b x => Sys2Proof.Machine.execFma env d a b x s
  | .fms env d a b x => Sys2Proof.Machine.execFms env d a b x s
  | .fmin env d a b x => Sys2Proof.Machine.execFmin env d a b x s
  | .fmax env d a b x => Sys2Proof.Machine.execFmax env d a b x s
  | .fceq env d a b x => Sys2Proof.Machine.execFceq env d a b x s
  | .fclt env d a b x => Sys2Proof.Machine.execFclt env d a b x s
  | .fcle env d a b x => Sys2Proof.Machine.execFcle env d a b x s
  | .frcp env d a b x => Sys2Proof.Machine.execFrcp env d a b x s
  | .frsq env d a b x => Sys2Proof.Machine.execFrsq env d a b x s
  | .cvtxf env d a b x => Sys2Proof.Machine.execCvtxf env d a b x s
  | .cvtfx env d a b x => Sys2Proof.Machine.execCvtfx env d a b x s
  | .cvtfxr env d a b x => Sys2Proof.Machine.execCvtfxr env d a b x s
  | .sel env k d a b x => Sys2Proof.Machine.execSel env k d a b x s
  | .movi env alu0 imm dest => Sys2Proof.Machine.execMovi env alu0 imm dest s
  | .feed env alu0 imm dest => Sys2Proof.Machine.execFeed env alu0 imm dest s
  | .memNop env reg tp off x => Sys2Proof.Machine.execMemNop env reg tp off x s
  | .ldd env reg tp off x => Sys2Proof.Machine.execLdd env reg tp off x s
  | .lddh env reg tp off x => Sys2Proof.Machine.execLddh env reg tp off x s
  | .std env reg tp off x => Sys2Proof.Machine.execStd env reg tp off x s
  | .stdh env reg tp off x => Sys2Proof.Machine.execStdh env reg tp off x s
  | .lddx env reg tp off x => Sys2Proof.Machine.execLddx env reg tp off x s
  | .stdx env reg tp off x => Sys2Proof.Machine.execStdx env reg tp off x s
  | .ldt env reg tp off x => Sys2Proof.Machine.execLdt env reg tp off x s
  | .ldth env reg tp off x => Sys2Proof.Machine.execLdth env reg tp off x s
  | .ldthp env reg tp off x => Sys2Proof.Machine.execLdthp env reg tp off x s
  | .ldio env reg tp off x => Sys2Proof.Machine.execLdio env reg tp off x s
  | .ldio2 env reg tp off x => Sys2Proof.Machine.execLdio2 env reg tp off x s
  | .stio env reg tp off x => Sys2Proof.Machine.execStio env reg tp off x s
  | .stio2 env reg tp off x => Sys2Proof.Machine.execStio2 env reg tp off x s
  | .endWord env reg tp off x => Sys2Proof.Machine.execEndWord env reg tp off x s
  | .hsReqStore p hi v => Sys2Proof.Machine.execHsReqStore p hi v s
  | .surrReq p => Sys2Proof.Machine.execSurrReq p s
  | .mailboxCommit p v => Sys2Proof.Machine.execMailboxCommit p v s
  | .dinAccept t j samples => Sys2Proof.Machine.execDinAccept t j samples s
  | .foreign t j => Sys2Proof.Machine.execForeign t j s
  | .inEvenWrite k v => Sys2Proof.Machine.execInEvenWrite k v s
  | .hsHreq k v => Sys2Proof.Machine.execHsHreq k v s
  | .currentLimit t c => Sys2Proof.Machine.execCurrentLimit t c s
  | .limitClear t c => Sys2Proof.Machine.execLimitClear t c s
  | .limTExpiry c trip => Sys2Proof.Machine.execLimTExpiry c trip s
  | .retryIntExpiry c hot => Sys2Proof.Machine.execRetryIntExpiry c hot s
  | .thermalTrip t c => Sys2Proof.Machine.execThermalTrip t c s
  | .thermalCool t c => Sys2Proof.Machine.execThermalCool t c s
  | .retryReset c => Sys2Proof.Machine.execRetryReset c s
  | .hsClr c => Sys2Proof.Machine.execHsClr c s
  | .offStateTest t c ext high => Sys2Proof.Machine.execOffStateTest t c ext high s
  | .openLoadOn t c low => Sys2Proof.Machine.execOpenLoadOn t c low s
  | .externalVoltage t c present => Sys2Proof.Machine.execExternalVoltage t c present s
  | .sagEnter t => Sys2Proof.Machine.execSagEnter t s
  | .sagExit t => Sys2Proof.Machine.execSagExit t s
  | .groupRestart => Sys2Proof.Machine.execGroupRestart s
  | .snsSelChange v => Sys2Proof.Machine.execSnsSelChange v s
  | .scanStep => Sys2Proof.Machine.execScanStep s
  | .adcConversion code full => Sys2Proof.Machine.execAdcConversion code full s
  | .spineFrame up ok t => Sys2Proof.Machine.execSpineFrame up ok t s
  | .upstreamSilence t => Sys2Proof.Machine.execUpstreamSilence t s
  | .crystalLoss t => Sys2Proof.Machine.execCrystalLoss t s
  | .pllLocks t => Sys2Proof.Machine.execPllLocks t s
  | .pllSlip t => Sys2Proof.Machine.execPllSlip t s
  | .syncPulse t e => Sys2Proof.Machine.execSyncPulse t e s
  | .syncFrame cfg idx pseq joint => Sys2Proof.Machine.execSyncFrame cfg idx pseq joint s
  | .syncLock => Sys2Proof.Machine.execSyncLock s
  | .syncLost t => Sys2Proof.Machine.execSyncLost t s
  | .leaderChoice t me => Sys2Proof.Machine.execLeaderChoice t me s
  | .laneUp t west lane => Sys2Proof.Machine.execLaneUp t west lane s
  | .laneDown t west lane => Sys2Proof.Machine.execLaneDown t west lane s
  | .stateFrame p blk t => Sys2Proof.Machine.execStateFrame p blk t s
  | .stateInstall p => Sys2Proof.Machine.execStateInstall p s
  | .stateDiscard p => Sys2Proof.Machine.execStateDiscard p s
  | .healthFrame t m => Sys2Proof.Machine.execHealthFrame t m s
  | .fwd p a c pseq => Sys2Proof.Machine.execFwd p a c pseq s
  | .claim t p e => Sys2Proof.Machine.execClaim t p e s
  | .renew t p e => Sys2Proof.Machine.execRenew t p e s
  | .ack t p e => Sys2Proof.Machine.execAck t p e s
  | .surrender t p member e => Sys2Proof.Machine.execSurrender t p member e s
  | .release t p e => Sys2Proof.Machine.execRelease t p e s
  | .refuse t p => Sys2Proof.Machine.execRefuse t p s
  | .returnReq t p => Sys2Proof.Machine.execReturnReq t p s
  | .xfer t p valley e duties => Sys2Proof.Machine.execXfer t p valley e duties s
  | .mirrorRecord t origin west ofs r => Sys2Proof.Machine.execMirrorRecord t origin west ofs r s
  | .flushMark origin ofs => Sys2Proof.Machine.execFlushMark origin ofs s
  | .returnRecord t r => Sys2Proof.Machine.execReturnRecord t r s
  | .returnEnd t sender => Sys2Proof.Machine.execReturnEnd t sender s
  | .surrNLow t lvl => Sys2Proof.Machine.execSurrNLow t lvl s
  | .takeover p high => Sys2Proof.Machine.execTakeover p high s
  | .memberSurrender t code => Sys2Proof.Machine.execMemberSurrender t code s
  | .supplyOutOfRange j out t => Sys2Proof.Machine.execSupplyOutOfRange j out t s
  | .vddio18OutOfRange t out => Sys2Proof.Machine.execVddio18OutOfRange t out s
  | .thermalSurrender t => Sys2Proof.Machine.execThermalSurrender t s
  | .uncorrectableEcc t => Sys2Proof.Machine.execUncorrectableEcc t s
  | .tempChange t temp => Sys2Proof.Machine.execTempChange t temp s
  | .surrenderGo gate => Sys2Proof.Machine.execSurrenderGo gate s
  | .cvnXfer mask gate => Sys2Proof.Machine.execCvnXfer mask gate s
  | .transferValley p high => Sys2Proof.Machine.execTransferValley p high s
  | .leaseRenewal p => Sys2Proof.Machine.execLeaseRenewal p s
  | .leaseExpiry p => Sys2Proof.Machine.execLeaseExpiry p s
  | .claimTime p => Sys2Proof.Machine.execClaimTime p s
  | .homeReturn p => Sys2Proof.Machine.execHomeReturn p s
  | .roleTake => Sys2Proof.Machine.execRoleTake s
  | .stateWaitTimeout => Sys2Proof.Machine.execStateWaitTimeout s
  | .mirageStale p => Sys2Proof.Machine.execMirageStale p s
  | .partnerIneligible t west => Sys2Proof.Machine.execPartnerIneligible t west s
  | .recordRequest t q => Sys2Proof.Machine.execRecordRequest t q s
  | .recordWrite => Sys2Proof.Machine.execRecordWrite s
  | .snapshotRecordRead => Sys2Proof.Machine.execSnapshotRecordRead s
  | .flushTimer => Sys2Proof.Machine.execFlushTimer s
  | .severeFlushTimer => Sys2Proof.Machine.execSevereFlushTimer s
  | .flush => Sys2Proof.Machine.execFlush s
  | .flushComplete => Sys2Proof.Machine.execFlushComplete s
  | .nandProgramComplete t ok => Sys2Proof.Machine.execNandProgramComplete t ok s
  | .pfiAccept t => Sys2Proof.Machine.execPfiAccept t s
  | .pfDone t => Sys2Proof.Machine.execPfDone t s
  | .pfiFall t => Sys2Proof.Machine.execPfiFall t s
  | .seqHoldEnd => Sys2Proof.Machine.execSeqHoldEnd s
  | .cursorLo v => Sys2Proof.Machine.execCursorLo v s
  | .seekOldest => Sys2Proof.Machine.execSeekOldest s
  | .seekNewest => Sys2Proof.Machine.execSeekNewest s
  | .windowReady => Sys2Proof.Machine.execWindowReady s
  | .compactionStart => Sys2Proof.Machine.execCompactionStart s
  | .compactionEnd => Sys2Proof.Machine.execCompactionEnd s
  | .loadBegin gate => Sys2Proof.Machine.execLoadBegin gate s
  | .loadWinWrite ofs bytes gate => Sys2Proof.Machine.execLoadWinWrite ofs bytes gate s
  | .loadEnd gate => Sys2Proof.Machine.execLoadEnd gate s
  | .loadAbort gate => Sys2Proof.Machine.execLoadAbort gate s
  | .bundleVerify t => Sys2Proof.Machine.execBundleVerify t s
  | .keyOrder gate => Sys2Proof.Machine.execKeyOrder gate s
  | .revert gate => Sys2Proof.Machine.execRevert gate s
  | .svnCommit gate => Sys2Proof.Machine.execSvnCommit gate s
  | .sessEnd gate => Sys2Proof.Machine.execSessEnd gate s
  | .certRead => Sys2Proof.Machine.execCertRead s
  | .attest => Sys2Proof.Machine.execAttest s
  | .reportReady t => Sys2Proof.Machine.execReportReady t s
  | .chalReq => Sys2Proof.Machine.execChalReq s
  | .challengeReady t => Sys2Proof.Machine.execChallengeReady t s
  | .sessStart => Sys2Proof.Machine.execSessStart s
  | .tokenChecked t => Sys2Proof.Machine.execTokenChecked t s
  | .sessionExpiry => Sys2Proof.Machine.execSessionExpiry s
  | .order gate => Sys2Proof.Machine.execOrder gate s
  | .jtagInstruction ins vendor => Sys2Proof.Machine.execJtagInstruction ins vendor s
  | .trstN => Sys2Proof.Machine.execTrstN s
  | .readFrame t hcrc addr len bad => Sys2Proof.Machine.execReadFrame t hcrc addr len bad s
  | .writeFrame t hcrc addr data => Sys2Proof.Machine.execWriteFrame t hcrc addr data s
  | .writeGated t hcrc addr data ctr mac => Sys2Proof.Machine.execWriteGated t hcrc addr data ctr mac s
  | .statusFrame t hcrc op addr len => Sys2Proof.Machine.execStatusFrame t hcrc op addr len s
  | .resync t => Sys2Proof.Machine.execResync t s
  | .frameCut t => Sys2Proof.Machine.execFrameCut t s
  | .writeCompletion t => Sys2Proof.Machine.execWriteCompletion t s
  | .hostGone => Sys2Proof.Machine.execHostGone s
  | .wakeN t low => Sys2Proof.Machine.execWakeN t low s
  | .pendClear k v => Sys2Proof.Machine.execPendClear k v s
  | .enWrite k v => Sys2Proof.Machine.execEnWrite k v s
  | .swset => Sys2Proof.Machine.execSwset s
  | .powerStateEntry => Sys2Proof.Machine.execPowerStateEntry s
  | .wake code t => Sys2Proof.Machine.execWake code t s
  | .exitComplete t => Sys2Proof.Machine.execExitComplete t s
  | .toleranceWrite which v => Sys2Proof.Machine.execToleranceWrite which v s
  | .rstNAssert t => Sys2Proof.Machine.execRstNAssert t s
  | .vfldLoss t => Sys2Proof.Machine.execVfldLoss t s
  | .resetGo => Sys2Proof.Machine.execResetGo s
  | .controlDieReset t => Sys2Proof.Machine.execControlDieReset t s
  | .controlDieRelease t => Sys2Proof.Machine.execControlDieRelease t s
  | .commitCmd => Sys2Proof.Machine.execCommitCmd s
  | .commitResolution => Sys2Proof.Machine.execCommitResolution s
  | .rstNRelease t role => Sys2Proof.Machine.execRstNRelease t role s
  | .startupStepComplete t nandOk => Sys2Proof.Machine.execStartupStepComplete t nandOk s
  | .nandEraseComplete b => Sys2Proof.Machine.execNandEraseComplete b s
  | .sealSignatureReady t => Sys2Proof.Machine.execSealSignatureReady t s
  | .dsmTransitionsResume t a => Sys2Proof.Machine.execDsmTransitionsResume t a s
  | .loopDriverLimitOff => Sys2Proof.Machine.execLoopDriverLimitOff s
  | .loopDriverRetry => Sys2Proof.Machine.execLoopDriverRetry s
  | .spineLoopback ok => Sys2Proof.Machine.execSpineLoopback ok s
  | .backgroundSelfTest engine ok => Sys2Proof.Machine.execBackgroundSelfTest engine ok s
  | .notStartedHoldEnd => Sys2Proof.Machine.execNotStartedHoldEnd s

end Sys2Proof.Machine
end

