-- ==== Sys2Proof/Laws/Bits.lean ====
section
/-!
SUPPORT. Fields and bits of a register word: what a field reads after it, or another one, is replaced.
-/

namespace Sys2Proof.Machine

/-- The parts of a number above, in and below a field. -/
theorem split_at_field (n lo k : Nat) :
    n = n / 2 ^ (lo + k) * 2 ^ (lo + k) + n / 2 ^ lo % 2 ^ k * 2 ^ lo + n % 2 ^ lo := by
  have h1 := Nat.div_add_mod n (2 ^ lo)
  have h2 := Nat.div_add_mod (n / 2 ^ lo) (2 ^ k)
  rw [Nat.div_div_eq_div_mul, ← pow_add] at h2
  calc n = 2 ^ lo * (n / 2 ^ lo) + n % 2 ^ lo := h1.symm
    _ = 2 ^ lo * (2 ^ k * (n / 2 ^ (lo + k)) + n / 2 ^ lo % 2 ^ k) + n % 2 ^ lo := by rw [h2]
    _ = _ := by rw [pow_add]; ring

/-- The number a word has after the field `[hi:lo]` is replaced. -/
theorem setFld_toNat (w : Word) {hi lo : Nat} (v : Nat) (hlo : lo ≤ hi) (hhi : hi < 32) :
    (setFld w hi lo v).toNat
      = w.toNat / 2 ^ (hi + 1) * 2 ^ (hi + 1) + v % 2 ^ (hi + 1 - lo) * 2 ^ lo + w.toNat % 2 ^ lo := by
  have e : lo + (hi + 1 - lo) = hi + 1 := by omega
  have hs := split_at_field w.toNat lo (hi + 1 - lo)
  rw [e] at hs
  have hw : w.toNat < 2 ^ 32 := w.isLt
  have hle : w.toNat / 2 ^ (hi + 1) < 2 ^ (32 - (hi + 1)) := by
    rw [Nat.div_lt_iff_lt_mul (by positivity), ← pow_add]
    rwa [show 32 - (hi + 1) + (hi + 1) = 32 by omega]
  have hv : v % 2 ^ (hi + 1 - lo) < 2 ^ (hi + 1 - lo) := Nat.mod_lt _ (by positivity)
  have hr : w.toNat % 2 ^ lo < 2 ^ lo := Nat.mod_lt _ (by positivity)
  have h1 : v % 2 ^ (hi + 1 - lo) * 2 ^ lo + w.toNat % 2 ^ lo < 2 ^ (hi + 1) := by
    calc _ < v % 2 ^ (hi + 1 - lo) * 2 ^ lo + 2 ^ lo := by omega
      _ = (v % 2 ^ (hi + 1 - lo) + 1) * 2 ^ lo := by ring
      _ ≤ 2 ^ (hi + 1 - lo) * 2 ^ lo := Nat.mul_le_mul_right _ hv
      _ = 2 ^ (hi + 1) := by rw [← pow_add]; congr 1; omega
  have h2 : w.toNat / 2 ^ (hi + 1) * 2 ^ (hi + 1) + 2 ^ (hi + 1) ≤ 2 ^ 32 := by
    calc _ = (w.toNat / 2 ^ (hi + 1) + 1) * 2 ^ (hi + 1) := by ring
      _ ≤ 2 ^ (32 - (hi + 1)) * 2 ^ (hi + 1) := Nat.mul_le_mul_right _ hle
      _ = 2 ^ 32 := by rw [← pow_add]; congr 1; omega
  unfold setFld fld
  rw [BitVec.toNat_ofNat, Nat.mod_eq_of_lt]
  · omega
  · omega

/-- A replaced field reads its new value. -/
theorem fld_setFld_same (w : Word) {hi lo : Nat} (v : Nat) (hlo : lo ≤ hi) (hhi : hi < 32) :
    fld (setFld w hi lo v) hi lo = v % 2 ^ (hi + 1 - lo) := by
  unfold fld
  rw [setFld_toNat w v hlo hhi]
  have hr : w.toNat % 2 ^ lo < 2 ^ lo := Nat.mod_lt _ (by positivity)
  have e : w.toNat / 2 ^ (hi + 1) * 2 ^ (hi + 1) + v % 2 ^ (hi + 1 - lo) * 2 ^ lo + w.toNat % 2 ^ lo
      = (w.toNat / 2 ^ (hi + 1) * 2 ^ (hi + 1 - lo) + v % 2 ^ (hi + 1 - lo)) * 2 ^ lo + w.toNat % 2 ^ lo := by
    have : 2 ^ (hi + 1) = 2 ^ (hi + 1 - lo) * 2 ^ lo := by rw [← pow_add]; congr 1; omega
    rw [add_mul, mul_assoc, ← this]
  rw [e, Nat.add_comm, Nat.add_mul_div_right _ _ (by positivity), Nat.div_eq_of_lt hr, Nat.zero_add,
    Nat.add_comm, Nat.add_mul_mod_self_right, Nat.mod_mod]

/-- A field below the replaced one reads as before. -/
theorem fld_setFld_below (w : Word) {hi lo h l : Nat} (v : Nat) (hlo : lo ≤ hi) (hhi : hi < 32) (hb : h < lo) :
    fld (setFld w hi lo v) h l = fld w h l := by
  unfold fld
  by_cases hl : l ≤ h
  · have key : ∀ n : Nat, n / 2 ^ l % 2 ^ (h + 1 - l) = n % 2 ^ lo / 2 ^ l % 2 ^ (h + 1 - l) := by
      intro n
      rw [← Nat.mod_mul_right_div_self, ← Nat.mod_mul_right_div_self, ← pow_add, show l + (h + 1 - l) = h + 1 by omega,
        Nat.mod_mod_of_dvd n (pow_dvd_pow 2 (by omega))]
    rw [key (setFld w hi lo v).toNat, key w.toNat, setFld_toNat w v hlo hhi]
    congr 2
    have : 2 ^ (hi + 1) = 2 ^ (hi + 1 - lo) * 2 ^ lo := by rw [← pow_add]; congr 1; omega
    rw [this, ← mul_assoc, ← add_mul, Nat.add_comm, Nat.add_mul_mod_self_right, Nat.mod_mod]
  · rw [show h + 1 - l = 0 by omega]; simp [Nat.mod_one]

/-- A field above the replaced one reads as before. -/
theorem fld_setFld_above (w : Word) {hi lo h l : Nat} (v : Nat) (hlo : lo ≤ hi) (hhi : hi < 32) (hb : hi < l) :
    fld (setFld w hi lo v) h l = fld w h l := by
  unfold fld
  have key : ∀ n : Nat, n / 2 ^ l = n / 2 ^ (hi + 1) / 2 ^ (l - (hi + 1)) := by
    intro n; rw [Nat.div_div_eq_div_mul, ← pow_add, show hi + 1 + (l - (hi + 1)) = l by omega]
  rw [key, key w.toNat, setFld_toNat w v hlo hhi]
  congr 2
  have hv : v % 2 ^ (hi + 1 - lo) < 2 ^ (hi + 1 - lo) := Nat.mod_lt _ (by positivity)
  have hr : w.toNat % 2 ^ lo < 2 ^ lo := Nat.mod_lt _ (by positivity)
  have h1 : v % 2 ^ (hi + 1 - lo) * 2 ^ lo + w.toNat % 2 ^ lo < 2 ^ (hi + 1) := by
    calc _ < v % 2 ^ (hi + 1 - lo) * 2 ^ lo + 2 ^ lo := by omega
      _ = (v % 2 ^ (hi + 1 - lo) + 1) * 2 ^ lo := by ring
      _ ≤ 2 ^ (hi + 1 - lo) * 2 ^ lo := Nat.mul_le_mul_right _ hv
      _ = 2 ^ (hi + 1) := by rw [← pow_add]; congr 1; omega
  rw [add_assoc, Nat.add_comm, Nat.add_mul_div_right _ _ (by positivity), Nat.div_eq_of_lt h1, Nat.zero_add]

/-- A bit is the field of its own. -/
theorem bit_eq_fld (w : Word) (i : Nat) : bit w i = decide (fld w i i = 1) := by
  unfold bit fld
  rw [Nat.testBit_eq_decide_div_mod_eq, show i + 1 - i = 1 by omega, pow_one]

@[simp] theorem bit_setBit_same (w : Word) {i : Nat} (b : Bool) (h : i < 32) : bit (setBit w i b) i = b := by
  rw [bit_eq_fld, setBit, fld_setFld_same w _ (Nat.le_refl i) h, show i + 1 - i = 1 by omega]
  cases b <;> rfl

theorem fld_setBit_other (w : Word) {i h l : Nat} (b : Bool) (hi : i < 32) (hd : h < i ∨ i < l) :
    fld (setBit w i b) h l = fld w h l := by
  unfold setBit
  rcases hd with hd | hd
  · exact fld_setFld_below w _ (Nat.le_refl i) hi hd
  · exact fld_setFld_above w _ (Nat.le_refl i) hi hd

theorem bit_setBit_ne (w : Word) {i j : Nat} (b : Bool) (h : i < 32) (hij : i ≠ j) : bit (setBit w i b) j = bit w j := by
  rw [bit_eq_fld, bit_eq_fld, fld_setBit_other w b h (by omega)]

end Sys2Proof.Machine
end

