-- ==== Sys2Proof/Laws/Mem.lean ====
section
/-!
SUPPORT. The sparse store: a read after a write, and the canonical form, which every operation keeps.
-/

namespace Sys2Proof.Machine

variable {w : Nat} (dflt : Nat → BitVec w)

theorem Cells.read_insert (m : Cells w) (a b : Nat) (v : BitVec w) :
    Cells.read dflt (m.insert a v) b = if a = b then v else Cells.read dflt m b := by
  induction m with
  | nil => simp [Cells.insert, Cells.read]
  | cons p m ih =>
    obtain ⟨c, u⟩ := p
    unfold Cells.insert
    split
    · simp [Cells.read]
    · split
      · subst_vars; simp only [Cells.read]; split <;> rfl
      · simp only [Cells.read, ih]
        split
        · rw [if_neg (by omega)]
        · rfl

theorem Cells.read_erase (m : Cells w) (a b : Nat) :
    Cells.read dflt (m.erase a) b = if a = b then dflt b else Cells.read dflt m b := by
  induction m with
  | nil => simp [Cells.erase, Cells.read]
  | cons p m ih =>
    obtain ⟨c, u⟩ := p
    unfold Cells.erase at ih ⊢
    by_cases h : c = a
    · subst h; simp only [List.filter_cons, bne_self_eq_false, Bool.false_eq_true, if_false, ih, Cells.read]
      split <;> rfl
    · rw [List.filter_cons_of_pos (by simpa using h)]
      simp only [Cells.read, ih]
      by_cases hb : c = b
      · subst hb; simp [Ne.symm h]
      · simp [hb]

/-- A read after a write: the written address has the value, every other is as before. -/
theorem Cells.read_write (m : Cells w) (a b : Nat) (v : BitVec w) :
    Cells.read dflt (Cells.write dflt m a v) b = if a = b then v else Cells.read dflt m b := by
  unfold Cells.write
  split
  · rename_i h; rw [Cells.read_erase]; subst h; split
    · subst_vars; rfl
    · rfl
  · exact Cells.read_insert dflt m a b v

@[simp] theorem Cells.read_write_same (m : Cells w) (a : Nat) (v : BitVec w) :
    Cells.read dflt (Cells.write dflt m a v) a = v := by rw [Cells.read_write, if_pos rfl]

theorem Cells.read_write_ne (m : Cells w) {a b : Nat} (v : BitVec w) (h : b ≠ a) :
    Cells.read dflt (Cells.write dflt m a v) b = Cells.read dflt m b := by
  rw [Cells.read_write, if_neg (Ne.symm h)]

@[simp] theorem Cells.read_nil (a : Nat) : Cells.read dflt [] a = dflt a := rfl

/-! ### The canonical form -/

theorem Cells.sorted_cons (a : Nat) (v : BitVec w) (m : Cells w) :
    Cells.sorted ((a, v) :: m) = (m.all (fun p => decide (a < p.1)) && Cells.sorted m) := by
  induction m generalizing a v with
  | nil => rfl
  | cons p m ih =>
    obtain ⟨b, u⟩ := p
    simp only [Cells.sorted, List.all_cons, ih]
    by_cases h : a < b
    · simp only [h, decide_true, Bool.true_and]
      have : (m.all fun p => decide (b < p.1)) = true → (m.all fun p => decide (a < p.1)) = true := by
        simp only [List.all_eq_true, decide_eq_true_eq]
        exact fun k p hp => Nat.lt_trans h (k p hp)
      cases hb : m.all fun p => decide (b < p.1)
      · simp
      · simp [this hb]
    · simp [h]

theorem Cells.all_insert (m : Cells w) (a : Nat) (v : BitVec w) (f : Nat × BitVec w → Bool)
    (hv : f (a, v) = true) (hm : m.all f = true) : (m.insert a v).all f = true := by
  induction m with
  | nil => simpa [Cells.insert] using hv
  | cons p m ih =>
    obtain ⟨c, u⟩ := p
    rw [List.all_cons, Bool.and_eq_true] at hm
    unfold Cells.insert
    split
    · simp [hv, hm.1, hm.2]
    · split
      · simp [hv, hm.2]
      · rw [List.all_cons, hm.1, ih hm.2]; rfl

theorem Cells.sorted_insert (m : Cells w) (a : Nat) (v : BitVec w) (h : Cells.sorted m = true) :
    Cells.sorted (m.insert a v) = true := by
  induction m with
  | nil => rfl
  | cons p m ih =>
    obtain ⟨c, u⟩ := p
    have h' := h
    rw [Cells.sorted_cons, Bool.and_eq_true] at h'
    unfold Cells.insert
    split
    · rename_i hlt
      rw [Cells.sorted_cons, Bool.and_eq_true]
      refine ⟨?_, h⟩
      simp only [List.all_eq_true, decide_eq_true_eq] at h' ⊢
      intro p hp
      rcases List.mem_cons.mp hp with rfl | hp
      · exact hlt
      · exact Nat.lt_trans hlt (h'.1 p hp)
    · split
      · subst_vars
        rw [Cells.sorted_cons, Bool.and_eq_true]
        exact h'
      · rw [Cells.sorted_cons, Bool.and_eq_true]
        exact ⟨Cells.all_insert m a v _ (by simp; omega) h'.1, ih h'.2⟩

theorem Cells.sorted_filter (m : Cells w) (f : Nat × BitVec w → Bool) (h : Cells.sorted m = true) :
    Cells.sorted (m.filter f) = true := by
  induction m with
  | nil => rfl
  | cons p m ih =>
    obtain ⟨c, u⟩ := p
    rw [Cells.sorted_cons, Bool.and_eq_true] at h
    rw [List.filter_cons]
    split
    · rw [Cells.sorted_cons, Bool.and_eq_true]
      refine ⟨?_, ih h.2⟩
      have := h.1
      simp only [List.all_eq_true] at this ⊢
      exact fun p hp => this p (List.mem_filter.mp hp).1
    · exact ih h.2

/-- A write keeps the canonical form. -/
theorem Cells.wf_write (m : Cells w) (a : Nat) (v : BitVec w) (h : Cells.wf dflt m = true) :
    Cells.wf dflt (Cells.write dflt m a v) = true := by
  unfold Cells.wf at h ⊢
  rw [Bool.and_eq_true] at h ⊢
  unfold Cells.write
  split
  · refine ⟨Cells.sorted_filter m _ h.1, ?_⟩
    have := h.2
    simp only [Cells.erase, List.all_eq_true] at this ⊢
    exact fun p hp => this p (List.mem_filter.mp hp).1
  · rename_i hv
    exact ⟨Cells.sorted_insert m a v h.1, Cells.all_insert m a v _ (by simpa using hv) h.2⟩

/-- A run of writes keeps the canonical form. -/
theorem Cells.wf_writeRun (step : Nat) (vs : List (BitVec w)) (m : Cells w) (a : Nat) (h : Cells.wf dflt m = true) :
    Cells.wf dflt (Cells.writeRun dflt step m a vs) = true := by
  induction vs generalizing m a with
  | nil => exact h
  | cons v vs ih => exact ih _ _ (Cells.wf_write dflt m a v h)

@[simp] theorem Cells.wf_nil : Cells.wf dflt ([] : Cells w) = true := rfl

end Sys2Proof.Machine
end

