-- ==== Sys2Proof/Laws/State.lean ====
section
/-!
SUPPORT. What each record update of the controller changes, one lemma per update and part, true by unfolding, so
that no later proof unfolds an update.
-/

namespace Sys2Proof.Machine

variable (d : Dev)

@[simp] theorem Dev.wr_regs (a : Nat) (v : Word) : (d.wr a v).regs = Cells.write resetOf d.regs a v := rfl
@[simp] theorem Dev.wr_staged (a : Nat) (v : Word) : (d.wr a v).staged = d.staged := rfl
@[simp] theorem Dev.wr_snap (a : Nat) (v : Word) : (d.wr a v).snap = d.snap := rfl
@[simp] theorem Dev.wr_setNow (a : Nat) (v : Word) : (d.wr a v).setNow = d.setNow := rfl
@[simp] theorem Dev.wr_seq (a : Nat) (v : Word) : (d.wr a v).seq = d.seq := rfl
@[simp] theorem Dev.wr_time (a : Nat) (v : Word) : (d.wr a v).time = d.time := rfl
@[simp] theorem Dev.wr_mot (a : Nat) (v : Word) : (d.wr a v).mot = d.mot := rfl
@[simp] theorem Dev.wr_enc (a : Nat) (v : Word) : (d.wr a v).enc = d.enc := rfl
@[simp] theorem Dev.wr_ilk (a : Nat) (v : Word) : (d.wr a v).ilk = d.ilk := rfl
@[simp] theorem Dev.wr_fio (a : Nat) (v : Word) : (d.wr a v).fio = d.fio := rfl
@[simp] theorem Dev.wr_portal (a : Nat) (v : Word) : (d.wr a v).portal = d.portal := rfl
@[simp] theorem Dev.wr_servo (a : Nat) (v : Word) : (d.wr a v).servo = d.servo := rfl
@[simp] theorem Dev.wr_stepd (a : Nat) (v : Word) : (d.wr a v).stepd = d.stepd := rfl
@[simp] theorem Dev.wr_eng (a : Nat) (v : Word) : (d.wr a v).eng = d.eng := rfl
@[simp] theorem Dev.wr_tmem (a : Nat) (v : Word) : (d.wr a v).tmem = d.tmem := rfl
@[simp] theorem Dev.wr_trace (a : Nat) (v : Word) : (d.wr a v).trace = d.trace := rfl
@[simp] theorem Dev.wr_cvn (a : Nat) (v : Word) : (d.wr a v).cvn = d.cvn := rfl
@[simp] theorem Dev.wr_rcd (a : Nat) (v : Word) : (d.wr a v).rcd = d.rcd := rfl
@[simp] theorem Dev.wr_jnl (a : Nat) (v : Word) : (d.wr a v).jnl = d.jnl := rfl
@[simp] theorem Dev.wr_sec (a : Nat) (v : Word) : (d.wr a v).sec = d.sec := rfl
@[simp] theorem Dev.wr_pwr (a : Nat) (v : Word) : (d.wr a v).pwr = d.pwr := rfl
@[simp] theorem Dev.wr_boot (a : Nat) (v : Word) : (d.wr a v).boot = d.boot := rfl

@[simp] theorem Dev.stage_regs (a : Nat) (v : Word) : (d.stage a v).regs = d.regs := rfl
@[simp] theorem Dev.stage_staged (a : Nat) (v : Word) : (d.stage a v).staged = Cells.write resetOf d.staged a v := rfl
@[simp] theorem Dev.stage_snap (a : Nat) (v : Word) : (d.stage a v).snap = d.snap := rfl
@[simp] theorem Dev.stage_setNow (a : Nat) (v : Word) : (d.stage a v).setNow = d.setNow := rfl
@[simp] theorem Dev.stage_seq (a : Nat) (v : Word) : (d.stage a v).seq = d.seq := rfl
@[simp] theorem Dev.stage_time (a : Nat) (v : Word) : (d.stage a v).time = d.time := rfl
@[simp] theorem Dev.stage_mot (a : Nat) (v : Word) : (d.stage a v).mot = d.mot := rfl
@[simp] theorem Dev.stage_enc (a : Nat) (v : Word) : (d.stage a v).enc = d.enc := rfl
@[simp] theorem Dev.stage_ilk (a : Nat) (v : Word) : (d.stage a v).ilk = d.ilk := rfl
@[simp] theorem Dev.stage_fio (a : Nat) (v : Word) : (d.stage a v).fio = d.fio := rfl
@[simp] theorem Dev.stage_portal (a : Nat) (v : Word) : (d.stage a v).portal = d.portal := rfl
@[simp] theorem Dev.stage_servo (a : Nat) (v : Word) : (d.stage a v).servo = d.servo := rfl
@[simp] theorem Dev.stage_stepd (a : Nat) (v : Word) : (d.stage a v).stepd = d.stepd := rfl
@[simp] theorem Dev.stage_eng (a : Nat) (v : Word) : (d.stage a v).eng = d.eng := rfl
@[simp] theorem Dev.stage_tmem (a : Nat) (v : Word) : (d.stage a v).tmem = d.tmem := rfl
@[simp] theorem Dev.stage_trace (a : Nat) (v : Word) : (d.stage a v).trace = d.trace := rfl
@[simp] theorem Dev.stage_cvn (a : Nat) (v : Word) : (d.stage a v).cvn = d.cvn := rfl
@[simp] theorem Dev.stage_rcd (a : Nat) (v : Word) : (d.stage a v).rcd = d.rcd := rfl
@[simp] theorem Dev.stage_jnl (a : Nat) (v : Word) : (d.stage a v).jnl = d.jnl := rfl
@[simp] theorem Dev.stage_sec (a : Nat) (v : Word) : (d.stage a v).sec = d.sec := rfl
@[simp] theorem Dev.stage_pwr (a : Nat) (v : Word) : (d.stage a v).pwr = d.pwr := rfl
@[simp] theorem Dev.stage_boot (a : Nat) (v : Word) : (d.stage a v).boot = d.boot := rfl

@[simp] theorem Dev.modMot_regs (a : Axis) (f : MotAxis → MotAxis) : (d.modMot a f).regs = d.regs := rfl
@[simp] theorem Dev.modMot_staged (a : Axis) (f : MotAxis → MotAxis) : (d.modMot a f).staged = d.staged := rfl
@[simp] theorem Dev.modMot_snap (a : Axis) (f : MotAxis → MotAxis) : (d.modMot a f).snap = d.snap := rfl
@[simp] theorem Dev.modMot_setNow (a : Axis) (f : MotAxis → MotAxis) : (d.modMot a f).setNow = d.setNow := rfl
@[simp] theorem Dev.modMot_seq (a : Axis) (f : MotAxis → MotAxis) : (d.modMot a f).seq = d.seq := rfl
@[simp] theorem Dev.modMot_time (a : Axis) (f : MotAxis → MotAxis) : (d.modMot a f).time = d.time := rfl
@[simp] theorem Dev.modMot_mot (a : Axis) (f : MotAxis → MotAxis) : (d.modMot a f).mot = d.mot.set a (f d.mot[a]) := rfl
@[simp] theorem Dev.modMot_enc (a : Axis) (f : MotAxis → MotAxis) : (d.modMot a f).enc = d.enc := rfl
@[simp] theorem Dev.modMot_ilk (a : Axis) (f : MotAxis → MotAxis) : (d.modMot a f).ilk = d.ilk := rfl
@[simp] theorem Dev.modMot_fio (a : Axis) (f : MotAxis → MotAxis) : (d.modMot a f).fio = d.fio := rfl
@[simp] theorem Dev.modMot_portal (a : Axis) (f : MotAxis → MotAxis) : (d.modMot a f).portal = d.portal := rfl
@[simp] theorem Dev.modMot_servo (a : Axis) (f : MotAxis → MotAxis) : (d.modMot a f).servo = d.servo := rfl
@[simp] theorem Dev.modMot_stepd (a : Axis) (f : MotAxis → MotAxis) : (d.modMot a f).stepd = d.stepd := rfl
@[simp] theorem Dev.modMot_eng (a : Axis) (f : MotAxis → MotAxis) : (d.modMot a f).eng = d.eng := rfl
@[simp] theorem Dev.modMot_tmem (a : Axis) (f : MotAxis → MotAxis) : (d.modMot a f).tmem = d.tmem := rfl
@[simp] theorem Dev.modMot_trace (a : Axis) (f : MotAxis → MotAxis) : (d.modMot a f).trace = d.trace := rfl
@[simp] theorem Dev.modMot_cvn (a : Axis) (f : MotAxis → MotAxis) : (d.modMot a f).cvn = d.cvn := rfl
@[simp] theorem Dev.modMot_rcd (a : Axis) (f : MotAxis → MotAxis) : (d.modMot a f).rcd = d.rcd := rfl
@[simp] theorem Dev.modMot_jnl (a : Axis) (f : MotAxis → MotAxis) : (d.modMot a f).jnl = d.jnl := rfl
@[simp] theorem Dev.modMot_sec (a : Axis) (f : MotAxis → MotAxis) : (d.modMot a f).sec = d.sec := rfl
@[simp] theorem Dev.modMot_pwr (a : Axis) (f : MotAxis → MotAxis) : (d.modMot a f).pwr = d.pwr := rfl
@[simp] theorem Dev.modMot_boot (a : Axis) (f : MotAxis → MotAxis) : (d.modMot a f).boot = d.boot := rfl

@[simp] theorem Dev.modEnc_regs (c : Enc) (f : EncCh → EncCh) : (d.modEnc c f).regs = d.regs := rfl
@[simp] theorem Dev.modEnc_staged (c : Enc) (f : EncCh → EncCh) : (d.modEnc c f).staged = d.staged := rfl
@[simp] theorem Dev.modEnc_snap (c : Enc) (f : EncCh → EncCh) : (d.modEnc c f).snap = d.snap := rfl
@[simp] theorem Dev.modEnc_setNow (c : Enc) (f : EncCh → EncCh) : (d.modEnc c f).setNow = d.setNow := rfl
@[simp] theorem Dev.modEnc_seq (c : Enc) (f : EncCh → EncCh) : (d.modEnc c f).seq = d.seq := rfl
@[simp] theorem Dev.modEnc_time (c : Enc) (f : EncCh → EncCh) : (d.modEnc c f).time = d.time := rfl
@[simp] theorem Dev.modEnc_mot (c : Enc) (f : EncCh → EncCh) : (d.modEnc c f).mot = d.mot := rfl
@[simp] theorem Dev.modEnc_enc (c : Enc) (f : EncCh → EncCh) : (d.modEnc c f).enc = d.enc.set c (f d.enc[c]) := rfl
@[simp] theorem Dev.modEnc_ilk (c : Enc) (f : EncCh → EncCh) : (d.modEnc c f).ilk = d.ilk := rfl
@[simp] theorem Dev.modEnc_fio (c : Enc) (f : EncCh → EncCh) : (d.modEnc c f).fio = d.fio := rfl
@[simp] theorem Dev.modEnc_portal (c : Enc) (f : EncCh → EncCh) : (d.modEnc c f).portal = d.portal := rfl
@[simp] theorem Dev.modEnc_servo (c : Enc) (f : EncCh → EncCh) : (d.modEnc c f).servo = d.servo := rfl
@[simp] theorem Dev.modEnc_stepd (c : Enc) (f : EncCh → EncCh) : (d.modEnc c f).stepd = d.stepd := rfl
@[simp] theorem Dev.modEnc_eng (c : Enc) (f : EncCh → EncCh) : (d.modEnc c f).eng = d.eng := rfl
@[simp] theorem Dev.modEnc_tmem (c : Enc) (f : EncCh → EncCh) : (d.modEnc c f).tmem = d.tmem := rfl
@[simp] theorem Dev.modEnc_trace (c : Enc) (f : EncCh → EncCh) : (d.modEnc c f).trace = d.trace := rfl
@[simp] theorem Dev.modEnc_cvn (c : Enc) (f : EncCh → EncCh) : (d.modEnc c f).cvn = d.cvn := rfl
@[simp] theorem Dev.modEnc_rcd (c : Enc) (f : EncCh → EncCh) : (d.modEnc c f).rcd = d.rcd := rfl
@[simp] theorem Dev.modEnc_jnl (c : Enc) (f : EncCh → EncCh) : (d.modEnc c f).jnl = d.jnl := rfl
@[simp] theorem Dev.modEnc_sec (c : Enc) (f : EncCh → EncCh) : (d.modEnc c f).sec = d.sec := rfl
@[simp] theorem Dev.modEnc_pwr (c : Enc) (f : EncCh → EncCh) : (d.modEnc c f).pwr = d.pwr := rfl
@[simp] theorem Dev.modEnc_boot (c : Enc) (f : EncCh → EncCh) : (d.modEnc c f).boot = d.boot := rfl

@[simp] theorem Dev.modPrt_regs (p : Slot) (f : Portal → Portal) : (d.modPrt p f).regs = d.regs := rfl
@[simp] theorem Dev.modPrt_staged (p : Slot) (f : Portal → Portal) : (d.modPrt p f).staged = d.staged := rfl
@[simp] theorem Dev.modPrt_snap (p : Slot) (f : Portal → Portal) : (d.modPrt p f).snap = d.snap := rfl
@[simp] theorem Dev.modPrt_setNow (p : Slot) (f : Portal → Portal) : (d.modPrt p f).setNow = d.setNow := rfl
@[simp] theorem Dev.modPrt_seq (p : Slot) (f : Portal → Portal) : (d.modPrt p f).seq = d.seq := rfl
@[simp] theorem Dev.modPrt_time (p : Slot) (f : Portal → Portal) : (d.modPrt p f).time = d.time := rfl
@[simp] theorem Dev.modPrt_mot (p : Slot) (f : Portal → Portal) : (d.modPrt p f).mot = d.mot := rfl
@[simp] theorem Dev.modPrt_enc (p : Slot) (f : Portal → Portal) : (d.modPrt p f).enc = d.enc := rfl
@[simp] theorem Dev.modPrt_ilk (p : Slot) (f : Portal → Portal) : (d.modPrt p f).ilk = d.ilk := rfl
@[simp] theorem Dev.modPrt_fio (p : Slot) (f : Portal → Portal) : (d.modPrt p f).fio = d.fio := rfl
@[simp] theorem Dev.modPrt_portal (p : Slot) (f : Portal → Portal) : (d.modPrt p f).portal = d.portal.set p (f d.portal[p]) := rfl
@[simp] theorem Dev.modPrt_servo (p : Slot) (f : Portal → Portal) : (d.modPrt p f).servo = d.servo := rfl
@[simp] theorem Dev.modPrt_stepd (p : Slot) (f : Portal → Portal) : (d.modPrt p f).stepd = d.stepd := rfl
@[simp] theorem Dev.modPrt_eng (p : Slot) (f : Portal → Portal) : (d.modPrt p f).eng = d.eng := rfl
@[simp] theorem Dev.modPrt_tmem (p : Slot) (f : Portal → Portal) : (d.modPrt p f).tmem = d.tmem := rfl
@[simp] theorem Dev.modPrt_trace (p : Slot) (f : Portal → Portal) : (d.modPrt p f).trace = d.trace := rfl
@[simp] theorem Dev.modPrt_cvn (p : Slot) (f : Portal → Portal) : (d.modPrt p f).cvn = d.cvn := rfl
@[simp] theorem Dev.modPrt_rcd (p : Slot) (f : Portal → Portal) : (d.modPrt p f).rcd = d.rcd := rfl
@[simp] theorem Dev.modPrt_jnl (p : Slot) (f : Portal → Portal) : (d.modPrt p f).jnl = d.jnl := rfl
@[simp] theorem Dev.modPrt_sec (p : Slot) (f : Portal → Portal) : (d.modPrt p f).sec = d.sec := rfl
@[simp] theorem Dev.modPrt_pwr (p : Slot) (f : Portal → Portal) : (d.modPrt p f).pwr = d.pwr := rfl
@[simp] theorem Dev.modPrt_boot (p : Slot) (f : Portal → Portal) : (d.modPrt p f).boot = d.boot := rfl

@[simp] theorem Dev.modServo_regs (n : Sax) (f : Servo → Servo) : (d.modServo n f).regs = d.regs := rfl
@[simp] theorem Dev.modServo_staged (n : Sax) (f : Servo → Servo) : (d.modServo n f).staged = d.staged := rfl
@[simp] theorem Dev.modServo_snap (n : Sax) (f : Servo → Servo) : (d.modServo n f).snap = d.snap := rfl
@[simp] theorem Dev.modServo_setNow (n : Sax) (f : Servo → Servo) : (d.modServo n f).setNow = d.setNow := rfl
@[simp] theorem Dev.modServo_seq (n : Sax) (f : Servo → Servo) : (d.modServo n f).seq = d.seq := rfl
@[simp] theorem Dev.modServo_time (n : Sax) (f : Servo → Servo) : (d.modServo n f).time = d.time := rfl
@[simp] theorem Dev.modServo_mot (n : Sax) (f : Servo → Servo) : (d.modServo n f).mot = d.mot := rfl
@[simp] theorem Dev.modServo_enc (n : Sax) (f : Servo → Servo) : (d.modServo n f).enc = d.enc := rfl
@[simp] theorem Dev.modServo_ilk (n : Sax) (f : Servo → Servo) : (d.modServo n f).ilk = d.ilk := rfl
@[simp] theorem Dev.modServo_fio (n : Sax) (f : Servo → Servo) : (d.modServo n f).fio = d.fio := rfl
@[simp] theorem Dev.modServo_portal (n : Sax) (f : Servo → Servo) : (d.modServo n f).portal = d.portal := rfl
@[simp] theorem Dev.modServo_servo (n : Sax) (f : Servo → Servo) : (d.modServo n f).servo = d.servo.set n (f d.servo[n]) := rfl
@[simp] theorem Dev.modServo_stepd (n : Sax) (f : Servo → Servo) : (d.modServo n f).stepd = d.stepd := rfl
@[simp] theorem Dev.modServo_eng (n : Sax) (f : Servo → Servo) : (d.modServo n f).eng = d.eng := rfl
@[simp] theorem Dev.modServo_tmem (n : Sax) (f : Servo → Servo) : (d.modServo n f).tmem = d.tmem := rfl
@[simp] theorem Dev.modServo_trace (n : Sax) (f : Servo → Servo) : (d.modServo n f).trace = d.trace := rfl
@[simp] theorem Dev.modServo_cvn (n : Sax) (f : Servo → Servo) : (d.modServo n f).cvn = d.cvn := rfl
@[simp] theorem Dev.modServo_rcd (n : Sax) (f : Servo → Servo) : (d.modServo n f).rcd = d.rcd := rfl
@[simp] theorem Dev.modServo_jnl (n : Sax) (f : Servo → Servo) : (d.modServo n f).jnl = d.jnl := rfl
@[simp] theorem Dev.modServo_sec (n : Sax) (f : Servo → Servo) : (d.modServo n f).sec = d.sec := rfl
@[simp] theorem Dev.modServo_pwr (n : Sax) (f : Servo → Servo) : (d.modServo n f).pwr = d.pwr := rfl
@[simp] theorem Dev.modServo_boot (n : Sax) (f : Servo → Servo) : (d.modServo n f).boot = d.boot := rfl

@[simp] theorem Dev.modStep_regs (n : Stx) (f : StepDrv → StepDrv) : (d.modStep n f).regs = d.regs := rfl
@[simp] theorem Dev.modStep_staged (n : Stx) (f : StepDrv → StepDrv) : (d.modStep n f).staged = d.staged := rfl
@[simp] theorem Dev.modStep_snap (n : Stx) (f : StepDrv → StepDrv) : (d.modStep n f).snap = d.snap := rfl
@[simp] theorem Dev.modStep_setNow (n : Stx) (f : StepDrv → StepDrv) : (d.modStep n f).setNow = d.setNow := rfl
@[simp] theorem Dev.modStep_seq (n : Stx) (f : StepDrv → StepDrv) : (d.modStep n f).seq = d.seq := rfl
@[simp] theorem Dev.modStep_time (n : Stx) (f : StepDrv → StepDrv) : (d.modStep n f).time = d.time := rfl
@[simp] theorem Dev.modStep_mot (n : Stx) (f : StepDrv → StepDrv) : (d.modStep n f).mot = d.mot := rfl
@[simp] theorem Dev.modStep_enc (n : Stx) (f : StepDrv → StepDrv) : (d.modStep n f).enc = d.enc := rfl
@[simp] theorem Dev.modStep_ilk (n : Stx) (f : StepDrv → StepDrv) : (d.modStep n f).ilk = d.ilk := rfl
@[simp] theorem Dev.modStep_fio (n : Stx) (f : StepDrv → StepDrv) : (d.modStep n f).fio = d.fio := rfl
@[simp] theorem Dev.modStep_portal (n : Stx) (f : StepDrv → StepDrv) : (d.modStep n f).portal = d.portal := rfl
@[simp] theorem Dev.modStep_servo (n : Stx) (f : StepDrv → StepDrv) : (d.modStep n f).servo = d.servo := rfl
@[simp] theorem Dev.modStep_stepd (n : Stx) (f : StepDrv → StepDrv) : (d.modStep n f).stepd = d.stepd.set n (f d.stepd[n]) := rfl
@[simp] theorem Dev.modStep_eng (n : Stx) (f : StepDrv → StepDrv) : (d.modStep n f).eng = d.eng := rfl
@[simp] theorem Dev.modStep_tmem (n : Stx) (f : StepDrv → StepDrv) : (d.modStep n f).tmem = d.tmem := rfl
@[simp] theorem Dev.modStep_trace (n : Stx) (f : StepDrv → StepDrv) : (d.modStep n f).trace = d.trace := rfl
@[simp] theorem Dev.modStep_cvn (n : Stx) (f : StepDrv → StepDrv) : (d.modStep n f).cvn = d.cvn := rfl
@[simp] theorem Dev.modStep_rcd (n : Stx) (f : StepDrv → StepDrv) : (d.modStep n f).rcd = d.rcd := rfl
@[simp] theorem Dev.modStep_jnl (n : Stx) (f : StepDrv → StepDrv) : (d.modStep n f).jnl = d.jnl := rfl
@[simp] theorem Dev.modStep_sec (n : Stx) (f : StepDrv → StepDrv) : (d.modStep n f).sec = d.sec := rfl
@[simp] theorem Dev.modStep_pwr (n : Stx) (f : StepDrv → StepDrv) : (d.modStep n f).pwr = d.pwr := rfl
@[simp] theorem Dev.modStep_boot (n : Stx) (f : StepDrv → StepDrv) : (d.modStep n f).boot = d.boot := rfl

@[simp] theorem Dev.modEng_regs (n : Slot) (f : Engine → Engine) : (d.modEng n f).regs = d.regs := rfl
@[simp] theorem Dev.modEng_staged (n : Slot) (f : Engine → Engine) : (d.modEng n f).staged = d.staged := rfl
@[simp] theorem Dev.modEng_snap (n : Slot) (f : Engine → Engine) : (d.modEng n f).snap = d.snap := rfl
@[simp] theorem Dev.modEng_setNow (n : Slot) (f : Engine → Engine) : (d.modEng n f).setNow = d.setNow := rfl
@[simp] theorem Dev.modEng_seq (n : Slot) (f : Engine → Engine) : (d.modEng n f).seq = d.seq := rfl
@[simp] theorem Dev.modEng_time (n : Slot) (f : Engine → Engine) : (d.modEng n f).time = d.time := rfl
@[simp] theorem Dev.modEng_mot (n : Slot) (f : Engine → Engine) : (d.modEng n f).mot = d.mot := rfl
@[simp] theorem Dev.modEng_enc (n : Slot) (f : Engine → Engine) : (d.modEng n f).enc = d.enc := rfl
@[simp] theorem Dev.modEng_ilk (n : Slot) (f : Engine → Engine) : (d.modEng n f).ilk = d.ilk := rfl
@[simp] theorem Dev.modEng_fio (n : Slot) (f : Engine → Engine) : (d.modEng n f).fio = d.fio := rfl
@[simp] theorem Dev.modEng_portal (n : Slot) (f : Engine → Engine) : (d.modEng n f).portal = d.portal := rfl
@[simp] theorem Dev.modEng_servo (n : Slot) (f : Engine → Engine) : (d.modEng n f).servo = d.servo := rfl
@[simp] theorem Dev.modEng_stepd (n : Slot) (f : Engine → Engine) : (d.modEng n f).stepd = d.stepd := rfl
@[simp] theorem Dev.modEng_eng (n : Slot) (f : Engine → Engine) : (d.modEng n f).eng = d.eng.set n (f d.eng[n]) := rfl
@[simp] theorem Dev.modEng_tmem (n : Slot) (f : Engine → Engine) : (d.modEng n f).tmem = d.tmem := rfl
@[simp] theorem Dev.modEng_trace (n : Slot) (f : Engine → Engine) : (d.modEng n f).trace = d.trace := rfl
@[simp] theorem Dev.modEng_cvn (n : Slot) (f : Engine → Engine) : (d.modEng n f).cvn = d.cvn := rfl
@[simp] theorem Dev.modEng_rcd (n : Slot) (f : Engine → Engine) : (d.modEng n f).rcd = d.rcd := rfl
@[simp] theorem Dev.modEng_jnl (n : Slot) (f : Engine → Engine) : (d.modEng n f).jnl = d.jnl := rfl
@[simp] theorem Dev.modEng_sec (n : Slot) (f : Engine → Engine) : (d.modEng n f).sec = d.sec := rfl
@[simp] theorem Dev.modEng_pwr (n : Slot) (f : Engine → Engine) : (d.modEng n f).pwr = d.pwr := rfl
@[simp] theorem Dev.modEng_boot (n : Slot) (f : Engine → Engine) : (d.modEng n f).boot = d.boot := rfl

@[simp] theorem Dev.modFio_regs (f : FieldIO → FieldIO) : (d.modFio f).regs = d.regs := rfl
@[simp] theorem Dev.modFio_staged (f : FieldIO → FieldIO) : (d.modFio f).staged = d.staged := rfl
@[simp] theorem Dev.modFio_snap (f : FieldIO → FieldIO) : (d.modFio f).snap = d.snap := rfl
@[simp] theorem Dev.modFio_setNow (f : FieldIO → FieldIO) : (d.modFio f).setNow = d.setNow := rfl
@[simp] theorem Dev.modFio_seq (f : FieldIO → FieldIO) : (d.modFio f).seq = d.seq := rfl
@[simp] theorem Dev.modFio_time (f : FieldIO → FieldIO) : (d.modFio f).time = d.time := rfl
@[simp] theorem Dev.modFio_mot (f : FieldIO → FieldIO) : (d.modFio f).mot = d.mot := rfl
@[simp] theorem Dev.modFio_enc (f : FieldIO → FieldIO) : (d.modFio f).enc = d.enc := rfl
@[simp] theorem Dev.modFio_ilk (f : FieldIO → FieldIO) : (d.modFio f).ilk = d.ilk := rfl
@[simp] theorem Dev.modFio_fio (f : FieldIO → FieldIO) : (d.modFio f).fio = f d.fio := rfl
@[simp] theorem Dev.modFio_portal (f : FieldIO → FieldIO) : (d.modFio f).portal = d.portal := rfl
@[simp] theorem Dev.modFio_servo (f : FieldIO → FieldIO) : (d.modFio f).servo = d.servo := rfl
@[simp] theorem Dev.modFio_stepd (f : FieldIO → FieldIO) : (d.modFio f).stepd = d.stepd := rfl
@[simp] theorem Dev.modFio_eng (f : FieldIO → FieldIO) : (d.modFio f).eng = d.eng := rfl
@[simp] theorem Dev.modFio_tmem (f : FieldIO → FieldIO) : (d.modFio f).tmem = d.tmem := rfl
@[simp] theorem Dev.modFio_trace (f : FieldIO → FieldIO) : (d.modFio f).trace = d.trace := rfl
@[simp] theorem Dev.modFio_cvn (f : FieldIO → FieldIO) : (d.modFio f).cvn = d.cvn := rfl
@[simp] theorem Dev.modFio_rcd (f : FieldIO → FieldIO) : (d.modFio f).rcd = d.rcd := rfl
@[simp] theorem Dev.modFio_jnl (f : FieldIO → FieldIO) : (d.modFio f).jnl = d.jnl := rfl
@[simp] theorem Dev.modFio_sec (f : FieldIO → FieldIO) : (d.modFio f).sec = d.sec := rfl
@[simp] theorem Dev.modFio_pwr (f : FieldIO → FieldIO) : (d.modFio f).pwr = d.pwr := rfl
@[simp] theorem Dev.modFio_boot (f : FieldIO → FieldIO) : (d.modFio f).boot = d.boot := rfl

@[simp] theorem Dev.modDin_regs (i : Din) (f : DinCh → DinCh) : (d.modDin i f).regs = d.regs := rfl
@[simp] theorem Dev.modDin_staged (i : Din) (f : DinCh → DinCh) : (d.modDin i f).staged = d.staged := rfl
@[simp] theorem Dev.modDin_snap (i : Din) (f : DinCh → DinCh) : (d.modDin i f).snap = d.snap := rfl
@[simp] theorem Dev.modDin_setNow (i : Din) (f : DinCh → DinCh) : (d.modDin i f).setNow = d.setNow := rfl
@[simp] theorem Dev.modDin_seq (i : Din) (f : DinCh → DinCh) : (d.modDin i f).seq = d.seq := rfl
@[simp] theorem Dev.modDin_time (i : Din) (f : DinCh → DinCh) : (d.modDin i f).time = d.time := rfl
@[simp] theorem Dev.modDin_mot (i : Din) (f : DinCh → DinCh) : (d.modDin i f).mot = d.mot := rfl
@[simp] theorem Dev.modDin_enc (i : Din) (f : DinCh → DinCh) : (d.modDin i f).enc = d.enc := rfl
@[simp] theorem Dev.modDin_ilk (i : Din) (f : DinCh → DinCh) : (d.modDin i f).ilk = d.ilk := rfl
@[simp] theorem Dev.modDin_fio (i : Din) (f : DinCh → DinCh) : (d.modDin i f).fio = { d.fio with dins := d.fio.dins.set i (f d.fio.dins[i]) } := rfl
@[simp] theorem Dev.modDin_portal (i : Din) (f : DinCh → DinCh) : (d.modDin i f).portal = d.portal := rfl
@[simp] theorem Dev.modDin_servo (i : Din) (f : DinCh → DinCh) : (d.modDin i f).servo = d.servo := rfl
@[simp] theorem Dev.modDin_stepd (i : Din) (f : DinCh → DinCh) : (d.modDin i f).stepd = d.stepd := rfl
@[simp] theorem Dev.modDin_eng (i : Din) (f : DinCh → DinCh) : (d.modDin i f).eng = d.eng := rfl
@[simp] theorem Dev.modDin_tmem (i : Din) (f : DinCh → DinCh) : (d.modDin i f).tmem = d.tmem := rfl
@[simp] theorem Dev.modDin_trace (i : Din) (f : DinCh → DinCh) : (d.modDin i f).trace = d.trace := rfl
@[simp] theorem Dev.modDin_cvn (i : Din) (f : DinCh → DinCh) : (d.modDin i f).cvn = d.cvn := rfl
@[simp] theorem Dev.modDin_rcd (i : Din) (f : DinCh → DinCh) : (d.modDin i f).rcd = d.rcd := rfl
@[simp] theorem Dev.modDin_jnl (i : Din) (f : DinCh → DinCh) : (d.modDin i f).jnl = d.jnl := rfl
@[simp] theorem Dev.modDin_sec (i : Din) (f : DinCh → DinCh) : (d.modDin i f).sec = d.sec := rfl
@[simp] theorem Dev.modDin_pwr (i : Din) (f : DinCh → DinCh) : (d.modDin i f).pwr = d.pwr := rfl
@[simp] theorem Dev.modDin_boot (i : Din) (f : DinCh → DinCh) : (d.modDin i f).boot = d.boot := rfl

@[simp] theorem Dev.modEdge_regs (e : Edge) (f : EdgeCh → EdgeCh) : (d.modEdge e f).regs = d.regs := rfl
@[simp] theorem Dev.modEdge_staged (e : Edge) (f : EdgeCh → EdgeCh) : (d.modEdge e f).staged = d.staged := rfl
@[simp] theorem Dev.modEdge_snap (e : Edge) (f : EdgeCh → EdgeCh) : (d.modEdge e f).snap = d.snap := rfl
@[simp] theorem Dev.modEdge_setNow (e : Edge) (f : EdgeCh → EdgeCh) : (d.modEdge e f).setNow = d.setNow := rfl
@[simp] theorem Dev.modEdge_seq (e : Edge) (f : EdgeCh → EdgeCh) : (d.modEdge e f).seq = d.seq := rfl
@[simp] theorem Dev.modEdge_time (e : Edge) (f : EdgeCh → EdgeCh) : (d.modEdge e f).time = d.time := rfl
@[simp] theorem Dev.modEdge_mot (e : Edge) (f : EdgeCh → EdgeCh) : (d.modEdge e f).mot = d.mot := rfl
@[simp] theorem Dev.modEdge_enc (e : Edge) (f : EdgeCh → EdgeCh) : (d.modEdge e f).enc = d.enc := rfl
@[simp] theorem Dev.modEdge_ilk (e : Edge) (f : EdgeCh → EdgeCh) : (d.modEdge e f).ilk = d.ilk := rfl
@[simp] theorem Dev.modEdge_fio (e : Edge) (f : EdgeCh → EdgeCh) : (d.modEdge e f).fio = { d.fio with edges := d.fio.edges.set e (f d.fio.edges[e]) } := rfl
@[simp] theorem Dev.modEdge_portal (e : Edge) (f : EdgeCh → EdgeCh) : (d.modEdge e f).portal = d.portal := rfl
@[simp] theorem Dev.modEdge_servo (e : Edge) (f : EdgeCh → EdgeCh) : (d.modEdge e f).servo = d.servo := rfl
@[simp] theorem Dev.modEdge_stepd (e : Edge) (f : EdgeCh → EdgeCh) : (d.modEdge e f).stepd = d.stepd := rfl
@[simp] theorem Dev.modEdge_eng (e : Edge) (f : EdgeCh → EdgeCh) : (d.modEdge e f).eng = d.eng := rfl
@[simp] theorem Dev.modEdge_tmem (e : Edge) (f : EdgeCh → EdgeCh) : (d.modEdge e f).tmem = d.tmem := rfl
@[simp] theorem Dev.modEdge_trace (e : Edge) (f : EdgeCh → EdgeCh) : (d.modEdge e f).trace = d.trace := rfl
@[simp] theorem Dev.modEdge_cvn (e : Edge) (f : EdgeCh → EdgeCh) : (d.modEdge e f).cvn = d.cvn := rfl
@[simp] theorem Dev.modEdge_rcd (e : Edge) (f : EdgeCh → EdgeCh) : (d.modEdge e f).rcd = d.rcd := rfl
@[simp] theorem Dev.modEdge_jnl (e : Edge) (f : EdgeCh → EdgeCh) : (d.modEdge e f).jnl = d.jnl := rfl
@[simp] theorem Dev.modEdge_sec (e : Edge) (f : EdgeCh → EdgeCh) : (d.modEdge e f).sec = d.sec := rfl
@[simp] theorem Dev.modEdge_pwr (e : Edge) (f : EdgeCh → EdgeCh) : (d.modEdge e f).pwr = d.pwr := rfl
@[simp] theorem Dev.modEdge_boot (e : Edge) (f : EdgeCh → EdgeCh) : (d.modEdge e f).boot = d.boot := rfl

@[simp] theorem Dev.modHs_regs (c : Ch) (f : HsCh → HsCh) : (d.modHs c f).regs = d.regs := rfl
@[simp] theorem Dev.modHs_staged (c : Ch) (f : HsCh → HsCh) : (d.modHs c f).staged = d.staged := rfl
@[simp] theorem Dev.modHs_snap (c : Ch) (f : HsCh → HsCh) : (d.modHs c f).snap = d.snap := rfl
@[simp] theorem Dev.modHs_setNow (c : Ch) (f : HsCh → HsCh) : (d.modHs c f).setNow = d.setNow := rfl
@[simp] theorem Dev.modHs_seq (c : Ch) (f : HsCh → HsCh) : (d.modHs c f).seq = d.seq := rfl
@[simp] theorem Dev.modHs_time (c : Ch) (f : HsCh → HsCh) : (d.modHs c f).time = d.time := rfl
@[simp] theorem Dev.modHs_mot (c : Ch) (f : HsCh → HsCh) : (d.modHs c f).mot = d.mot := rfl
@[simp] theorem Dev.modHs_enc (c : Ch) (f : HsCh → HsCh) : (d.modHs c f).enc = d.enc := rfl
@[simp] theorem Dev.modHs_ilk (c : Ch) (f : HsCh → HsCh) : (d.modHs c f).ilk = d.ilk := rfl
@[simp] theorem Dev.modHs_fio (c : Ch) (f : HsCh → HsCh) : (d.modHs c f).fio = { d.fio with hs := d.fio.hs.set c (f d.fio.hs[c]) } := rfl
@[simp] theorem Dev.modHs_portal (c : Ch) (f : HsCh → HsCh) : (d.modHs c f).portal = d.portal := rfl
@[simp] theorem Dev.modHs_servo (c : Ch) (f : HsCh → HsCh) : (d.modHs c f).servo = d.servo := rfl
@[simp] theorem Dev.modHs_stepd (c : Ch) (f : HsCh → HsCh) : (d.modHs c f).stepd = d.stepd := rfl
@[simp] theorem Dev.modHs_eng (c : Ch) (f : HsCh → HsCh) : (d.modHs c f).eng = d.eng := rfl
@[simp] theorem Dev.modHs_tmem (c : Ch) (f : HsCh → HsCh) : (d.modHs c f).tmem = d.tmem := rfl
@[simp] theorem Dev.modHs_trace (c : Ch) (f : HsCh → HsCh) : (d.modHs c f).trace = d.trace := rfl
@[simp] theorem Dev.modHs_cvn (c : Ch) (f : HsCh → HsCh) : (d.modHs c f).cvn = d.cvn := rfl
@[simp] theorem Dev.modHs_rcd (c : Ch) (f : HsCh → HsCh) : (d.modHs c f).rcd = d.rcd := rfl
@[simp] theorem Dev.modHs_jnl (c : Ch) (f : HsCh → HsCh) : (d.modHs c f).jnl = d.jnl := rfl
@[simp] theorem Dev.modHs_sec (c : Ch) (f : HsCh → HsCh) : (d.modHs c f).sec = d.sec := rfl
@[simp] theorem Dev.modHs_pwr (c : Ch) (f : HsCh → HsCh) : (d.modHs c f).pwr = d.pwr := rfl
@[simp] theorem Dev.modHs_boot (c : Ch) (f : HsCh → HsCh) : (d.modHs c f).boot = d.boot := rfl

@[simp] theorem Dev.modIlk_regs (f : Ilk → Ilk) : (d.modIlk f).regs = d.regs := rfl
@[simp] theorem Dev.modIlk_staged (f : Ilk → Ilk) : (d.modIlk f).staged = d.staged := rfl
@[simp] theorem Dev.modIlk_snap (f : Ilk → Ilk) : (d.modIlk f).snap = d.snap := rfl
@[simp] theorem Dev.modIlk_setNow (f : Ilk → Ilk) : (d.modIlk f).setNow = d.setNow := rfl
@[simp] theorem Dev.modIlk_seq (f : Ilk → Ilk) : (d.modIlk f).seq = d.seq := rfl
@[simp] theorem Dev.modIlk_time (f : Ilk → Ilk) : (d.modIlk f).time = d.time := rfl
@[simp] theorem Dev.modIlk_mot (f : Ilk → Ilk) : (d.modIlk f).mot = d.mot := rfl
@[simp] theorem Dev.modIlk_enc (f : Ilk → Ilk) : (d.modIlk f).enc = d.enc := rfl
@[simp] theorem Dev.modIlk_ilk (f : Ilk → Ilk) : (d.modIlk f).ilk = f d.ilk := rfl
@[simp] theorem Dev.modIlk_fio (f : Ilk → Ilk) : (d.modIlk f).fio = d.fio := rfl
@[simp] theorem Dev.modIlk_portal (f : Ilk → Ilk) : (d.modIlk f).portal = d.portal := rfl
@[simp] theorem Dev.modIlk_servo (f : Ilk → Ilk) : (d.modIlk f).servo = d.servo := rfl
@[simp] theorem Dev.modIlk_stepd (f : Ilk → Ilk) : (d.modIlk f).stepd = d.stepd := rfl
@[simp] theorem Dev.modIlk_eng (f : Ilk → Ilk) : (d.modIlk f).eng = d.eng := rfl
@[simp] theorem Dev.modIlk_tmem (f : Ilk → Ilk) : (d.modIlk f).tmem = d.tmem := rfl
@[simp] theorem Dev.modIlk_trace (f : Ilk → Ilk) : (d.modIlk f).trace = d.trace := rfl
@[simp] theorem Dev.modIlk_cvn (f : Ilk → Ilk) : (d.modIlk f).cvn = d.cvn := rfl
@[simp] theorem Dev.modIlk_rcd (f : Ilk → Ilk) : (d.modIlk f).rcd = d.rcd := rfl
@[simp] theorem Dev.modIlk_jnl (f : Ilk → Ilk) : (d.modIlk f).jnl = d.jnl := rfl
@[simp] theorem Dev.modIlk_sec (f : Ilk → Ilk) : (d.modIlk f).sec = d.sec := rfl
@[simp] theorem Dev.modIlk_pwr (f : Ilk → Ilk) : (d.modIlk f).pwr = d.pwr := rfl
@[simp] theorem Dev.modIlk_boot (f : Ilk → Ilk) : (d.modIlk f).boot = d.boot := rfl

@[simp] theorem Dev.modRcd_regs (f : Recorder → Recorder) : (d.modRcd f).regs = d.regs := rfl
@[simp] theorem Dev.modRcd_staged (f : Recorder → Recorder) : (d.modRcd f).staged = d.staged := rfl
@[simp] theorem Dev.modRcd_snap (f : Recorder → Recorder) : (d.modRcd f).snap = d.snap := rfl
@[simp] theorem Dev.modRcd_setNow (f : Recorder → Recorder) : (d.modRcd f).setNow = d.setNow := rfl
@[simp] theorem Dev.modRcd_seq (f : Recorder → Recorder) : (d.modRcd f).seq = d.seq := rfl
@[simp] theorem Dev.modRcd_time (f : Recorder → Recorder) : (d.modRcd f).time = d.time := rfl
@[simp] theorem Dev.modRcd_mot (f : Recorder → Recorder) : (d.modRcd f).mot = d.mot := rfl
@[simp] theorem Dev.modRcd_enc (f : Recorder → Recorder) : (d.modRcd f).enc = d.enc := rfl
@[simp] theorem Dev.modRcd_ilk (f : Recorder → Recorder) : (d.modRcd f).ilk = d.ilk := rfl
@[simp] theorem Dev.modRcd_fio (f : Recorder → Recorder) : (d.modRcd f).fio = d.fio := rfl
@[simp] theorem Dev.modRcd_portal (f : Recorder → Recorder) : (d.modRcd f).portal = d.portal := rfl
@[simp] theorem Dev.modRcd_servo (f : Recorder → Recorder) : (d.modRcd f).servo = d.servo := rfl
@[simp] theorem Dev.modRcd_stepd (f : Recorder → Recorder) : (d.modRcd f).stepd = d.stepd := rfl
@[simp] theorem Dev.modRcd_eng (f : Recorder → Recorder) : (d.modRcd f).eng = d.eng := rfl
@[simp] theorem Dev.modRcd_tmem (f : Recorder → Recorder) : (d.modRcd f).tmem = d.tmem := rfl
@[simp] theorem Dev.modRcd_trace (f : Recorder → Recorder) : (d.modRcd f).trace = d.trace := rfl
@[simp] theorem Dev.modRcd_cvn (f : Recorder → Recorder) : (d.modRcd f).cvn = d.cvn := rfl
@[simp] theorem Dev.modRcd_rcd (f : Recorder → Recorder) : (d.modRcd f).rcd = f d.rcd := rfl
@[simp] theorem Dev.modRcd_jnl (f : Recorder → Recorder) : (d.modRcd f).jnl = d.jnl := rfl
@[simp] theorem Dev.modRcd_sec (f : Recorder → Recorder) : (d.modRcd f).sec = d.sec := rfl
@[simp] theorem Dev.modRcd_pwr (f : Recorder → Recorder) : (d.modRcd f).pwr = d.pwr := rfl
@[simp] theorem Dev.modRcd_boot (f : Recorder → Recorder) : (d.modRcd f).boot = d.boot := rfl

@[simp] theorem Dev.modJnl_regs (f : Journal → Journal) : (d.modJnl f).regs = d.regs := rfl
@[simp] theorem Dev.modJnl_staged (f : Journal → Journal) : (d.modJnl f).staged = d.staged := rfl
@[simp] theorem Dev.modJnl_snap (f : Journal → Journal) : (d.modJnl f).snap = d.snap := rfl
@[simp] theorem Dev.modJnl_setNow (f : Journal → Journal) : (d.modJnl f).setNow = d.setNow := rfl
@[simp] theorem Dev.modJnl_seq (f : Journal → Journal) : (d.modJnl f).seq = d.seq := rfl
@[simp] theorem Dev.modJnl_time (f : Journal → Journal) : (d.modJnl f).time = d.time := rfl
@[simp] theorem Dev.modJnl_mot (f : Journal → Journal) : (d.modJnl f).mot = d.mot := rfl
@[simp] theorem Dev.modJnl_enc (f : Journal → Journal) : (d.modJnl f).enc = d.enc := rfl
@[simp] theorem Dev.modJnl_ilk (f : Journal → Journal) : (d.modJnl f).ilk = d.ilk := rfl
@[simp] theorem Dev.modJnl_fio (f : Journal → Journal) : (d.modJnl f).fio = d.fio := rfl
@[simp] theorem Dev.modJnl_portal (f : Journal → Journal) : (d.modJnl f).portal = d.portal := rfl
@[simp] theorem Dev.modJnl_servo (f : Journal → Journal) : (d.modJnl f).servo = d.servo := rfl
@[simp] theorem Dev.modJnl_stepd (f : Journal → Journal) : (d.modJnl f).stepd = d.stepd := rfl
@[simp] theorem Dev.modJnl_eng (f : Journal → Journal) : (d.modJnl f).eng = d.eng := rfl
@[simp] theorem Dev.modJnl_tmem (f : Journal → Journal) : (d.modJnl f).tmem = d.tmem := rfl
@[simp] theorem Dev.modJnl_trace (f : Journal → Journal) : (d.modJnl f).trace = d.trace := rfl
@[simp] theorem Dev.modJnl_cvn (f : Journal → Journal) : (d.modJnl f).cvn = d.cvn := rfl
@[simp] theorem Dev.modJnl_rcd (f : Journal → Journal) : (d.modJnl f).rcd = d.rcd := rfl
@[simp] theorem Dev.modJnl_jnl (f : Journal → Journal) : (d.modJnl f).jnl = f d.jnl := rfl
@[simp] theorem Dev.modJnl_sec (f : Journal → Journal) : (d.modJnl f).sec = d.sec := rfl
@[simp] theorem Dev.modJnl_pwr (f : Journal → Journal) : (d.modJnl f).pwr = d.pwr := rfl
@[simp] theorem Dev.modJnl_boot (f : Journal → Journal) : (d.modJnl f).boot = d.boot := rfl

@[simp] theorem Dev.modCvn_regs (f : Caravan → Caravan) : (d.modCvn f).regs = d.regs := rfl
@[simp] theorem Dev.modCvn_staged (f : Caravan → Caravan) : (d.modCvn f).staged = d.staged := rfl
@[simp] theorem Dev.modCvn_snap (f : Caravan → Caravan) : (d.modCvn f).snap = d.snap := rfl
@[simp] theorem Dev.modCvn_setNow (f : Caravan → Caravan) : (d.modCvn f).setNow = d.setNow := rfl
@[simp] theorem Dev.modCvn_seq (f : Caravan → Caravan) : (d.modCvn f).seq = d.seq := rfl
@[simp] theorem Dev.modCvn_time (f : Caravan → Caravan) : (d.modCvn f).time = d.time := rfl
@[simp] theorem Dev.modCvn_mot (f : Caravan → Caravan) : (d.modCvn f).mot = d.mot := rfl
@[simp] theorem Dev.modCvn_enc (f : Caravan → Caravan) : (d.modCvn f).enc = d.enc := rfl
@[simp] theorem Dev.modCvn_ilk (f : Caravan → Caravan) : (d.modCvn f).ilk = d.ilk := rfl
@[simp] theorem Dev.modCvn_fio (f : Caravan → Caravan) : (d.modCvn f).fio = d.fio := rfl
@[simp] theorem Dev.modCvn_portal (f : Caravan → Caravan) : (d.modCvn f).portal = d.portal := rfl
@[simp] theorem Dev.modCvn_servo (f : Caravan → Caravan) : (d.modCvn f).servo = d.servo := rfl
@[simp] theorem Dev.modCvn_stepd (f : Caravan → Caravan) : (d.modCvn f).stepd = d.stepd := rfl
@[simp] theorem Dev.modCvn_eng (f : Caravan → Caravan) : (d.modCvn f).eng = d.eng := rfl
@[simp] theorem Dev.modCvn_tmem (f : Caravan → Caravan) : (d.modCvn f).tmem = d.tmem := rfl
@[simp] theorem Dev.modCvn_trace (f : Caravan → Caravan) : (d.modCvn f).trace = d.trace := rfl
@[simp] theorem Dev.modCvn_cvn (f : Caravan → Caravan) : (d.modCvn f).cvn = f d.cvn := rfl
@[simp] theorem Dev.modCvn_rcd (f : Caravan → Caravan) : (d.modCvn f).rcd = d.rcd := rfl
@[simp] theorem Dev.modCvn_jnl (f : Caravan → Caravan) : (d.modCvn f).jnl = d.jnl := rfl
@[simp] theorem Dev.modCvn_sec (f : Caravan → Caravan) : (d.modCvn f).sec = d.sec := rfl
@[simp] theorem Dev.modCvn_pwr (f : Caravan → Caravan) : (d.modCvn f).pwr = d.pwr := rfl
@[simp] theorem Dev.modCvn_boot (f : Caravan → Caravan) : (d.modCvn f).boot = d.boot := rfl

@[simp] theorem Dev.modMir_regs (p : Slot) (f : Mirage → Mirage) : (d.modMir p f).regs = d.regs := rfl
@[simp] theorem Dev.modMir_staged (p : Slot) (f : Mirage → Mirage) : (d.modMir p f).staged = d.staged := rfl
@[simp] theorem Dev.modMir_snap (p : Slot) (f : Mirage → Mirage) : (d.modMir p f).snap = d.snap := rfl
@[simp] theorem Dev.modMir_setNow (p : Slot) (f : Mirage → Mirage) : (d.modMir p f).setNow = d.setNow := rfl
@[simp] theorem Dev.modMir_seq (p : Slot) (f : Mirage → Mirage) : (d.modMir p f).seq = d.seq := rfl
@[simp] theorem Dev.modMir_time (p : Slot) (f : Mirage → Mirage) : (d.modMir p f).time = d.time := rfl
@[simp] theorem Dev.modMir_mot (p : Slot) (f : Mirage → Mirage) : (d.modMir p f).mot = d.mot := rfl
@[simp] theorem Dev.modMir_enc (p : Slot) (f : Mirage → Mirage) : (d.modMir p f).enc = d.enc := rfl
@[simp] theorem Dev.modMir_ilk (p : Slot) (f : Mirage → Mirage) : (d.modMir p f).ilk = d.ilk := rfl
@[simp] theorem Dev.modMir_fio (p : Slot) (f : Mirage → Mirage) : (d.modMir p f).fio = d.fio := rfl
@[simp] theorem Dev.modMir_portal (p : Slot) (f : Mirage → Mirage) : (d.modMir p f).portal = d.portal := rfl
@[simp] theorem Dev.modMir_servo (p : Slot) (f : Mirage → Mirage) : (d.modMir p f).servo = d.servo := rfl
@[simp] theorem Dev.modMir_stepd (p : Slot) (f : Mirage → Mirage) : (d.modMir p f).stepd = d.stepd := rfl
@[simp] theorem Dev.modMir_eng (p : Slot) (f : Mirage → Mirage) : (d.modMir p f).eng = d.eng := rfl
@[simp] theorem Dev.modMir_tmem (p : Slot) (f : Mirage → Mirage) : (d.modMir p f).tmem = d.tmem := rfl
@[simp] theorem Dev.modMir_trace (p : Slot) (f : Mirage → Mirage) : (d.modMir p f).trace = d.trace := rfl
@[simp] theorem Dev.modMir_cvn (p : Slot) (f : Mirage → Mirage) : (d.modMir p f).cvn = { d.cvn with mirages := d.cvn.mirages.set p (f d.cvn.mirages[p]) } := rfl
@[simp] theorem Dev.modMir_rcd (p : Slot) (f : Mirage → Mirage) : (d.modMir p f).rcd = d.rcd := rfl
@[simp] theorem Dev.modMir_jnl (p : Slot) (f : Mirage → Mirage) : (d.modMir p f).jnl = d.jnl := rfl
@[simp] theorem Dev.modMir_sec (p : Slot) (f : Mirage → Mirage) : (d.modMir p f).sec = d.sec := rfl
@[simp] theorem Dev.modMir_pwr (p : Slot) (f : Mirage → Mirage) : (d.modMir p f).pwr = d.pwr := rfl
@[simp] theorem Dev.modMir_boot (p : Slot) (f : Mirage → Mirage) : (d.modMir p f).boot = d.boot := rfl

@[simp] theorem Dev.modLease_regs (p : Slot) (f : LeaseT → LeaseT) : (d.modLease p f).regs = d.regs := rfl
@[simp] theorem Dev.modLease_staged (p : Slot) (f : LeaseT → LeaseT) : (d.modLease p f).staged = d.staged := rfl
@[simp] theorem Dev.modLease_snap (p : Slot) (f : LeaseT → LeaseT) : (d.modLease p f).snap = d.snap := rfl
@[simp] theorem Dev.modLease_setNow (p : Slot) (f : LeaseT → LeaseT) : (d.modLease p f).setNow = d.setNow := rfl
@[simp] theorem Dev.modLease_seq (p : Slot) (f : LeaseT → LeaseT) : (d.modLease p f).seq = d.seq := rfl
@[simp] theorem Dev.modLease_time (p : Slot) (f : LeaseT → LeaseT) : (d.modLease p f).time = d.time := rfl
@[simp] theorem Dev.modLease_mot (p : Slot) (f : LeaseT → LeaseT) : (d.modLease p f).mot = d.mot := rfl
@[simp] theorem Dev.modLease_enc (p : Slot) (f : LeaseT → LeaseT) : (d.modLease p f).enc = d.enc := rfl
@[simp] theorem Dev.modLease_ilk (p : Slot) (f : LeaseT → LeaseT) : (d.modLease p f).ilk = d.ilk := rfl
@[simp] theorem Dev.modLease_fio (p : Slot) (f : LeaseT → LeaseT) : (d.modLease p f).fio = d.fio := rfl
@[simp] theorem Dev.modLease_portal (p : Slot) (f : LeaseT → LeaseT) : (d.modLease p f).portal = d.portal := rfl
@[simp] theorem Dev.modLease_servo (p : Slot) (f : LeaseT → LeaseT) : (d.modLease p f).servo = d.servo := rfl
@[simp] theorem Dev.modLease_stepd (p : Slot) (f : LeaseT → LeaseT) : (d.modLease p f).stepd = d.stepd := rfl
@[simp] theorem Dev.modLease_eng (p : Slot) (f : LeaseT → LeaseT) : (d.modLease p f).eng = d.eng := rfl
@[simp] theorem Dev.modLease_tmem (p : Slot) (f : LeaseT → LeaseT) : (d.modLease p f).tmem = d.tmem := rfl
@[simp] theorem Dev.modLease_trace (p : Slot) (f : LeaseT → LeaseT) : (d.modLease p f).trace = d.trace := rfl
@[simp] theorem Dev.modLease_cvn (p : Slot) (f : LeaseT → LeaseT) : (d.modLease p f).cvn = { d.cvn with leases := d.cvn.leases.set p (f d.cvn.leases[p]) } := rfl
@[simp] theorem Dev.modLease_rcd (p : Slot) (f : LeaseT → LeaseT) : (d.modLease p f).rcd = d.rcd := rfl
@[simp] theorem Dev.modLease_jnl (p : Slot) (f : LeaseT → LeaseT) : (d.modLease p f).jnl = d.jnl := rfl
@[simp] theorem Dev.modLease_sec (p : Slot) (f : LeaseT → LeaseT) : (d.modLease p f).sec = d.sec := rfl
@[simp] theorem Dev.modLease_pwr (p : Slot) (f : LeaseT → LeaseT) : (d.modLease p f).pwr = d.pwr := rfl
@[simp] theorem Dev.modLease_boot (p : Slot) (f : LeaseT → LeaseT) : (d.modLease p f).boot = d.boot := rfl

@[simp] theorem Dev.modSec_regs (f : Security → Security) : (d.modSec f).regs = d.regs := rfl
@[simp] theorem Dev.modSec_staged (f : Security → Security) : (d.modSec f).staged = d.staged := rfl
@[simp] theorem Dev.modSec_snap (f : Security → Security) : (d.modSec f).snap = d.snap := rfl
@[simp] theorem Dev.modSec_setNow (f : Security → Security) : (d.modSec f).setNow = d.setNow := rfl
@[simp] theorem Dev.modSec_seq (f : Security → Security) : (d.modSec f).seq = d.seq := rfl
@[simp] theorem Dev.modSec_time (f : Security → Security) : (d.modSec f).time = d.time := rfl
@[simp] theorem Dev.modSec_mot (f : Security → Security) : (d.modSec f).mot = d.mot := rfl
@[simp] theorem Dev.modSec_enc (f : Security → Security) : (d.modSec f).enc = d.enc := rfl
@[simp] theorem Dev.modSec_ilk (f : Security → Security) : (d.modSec f).ilk = d.ilk := rfl
@[simp] theorem Dev.modSec_fio (f : Security → Security) : (d.modSec f).fio = d.fio := rfl
@[simp] theorem Dev.modSec_portal (f : Security → Security) : (d.modSec f).portal = d.portal := rfl
@[simp] theorem Dev.modSec_servo (f : Security → Security) : (d.modSec f).servo = d.servo := rfl
@[simp] theorem Dev.modSec_stepd (f : Security → Security) : (d.modSec f).stepd = d.stepd := rfl
@[simp] theorem Dev.modSec_eng (f : Security → Security) : (d.modSec f).eng = d.eng := rfl
@[simp] theorem Dev.modSec_tmem (f : Security → Security) : (d.modSec f).tmem = d.tmem := rfl
@[simp] theorem Dev.modSec_trace (f : Security → Security) : (d.modSec f).trace = d.trace := rfl
@[simp] theorem Dev.modSec_cvn (f : Security → Security) : (d.modSec f).cvn = d.cvn := rfl
@[simp] theorem Dev.modSec_rcd (f : Security → Security) : (d.modSec f).rcd = d.rcd := rfl
@[simp] theorem Dev.modSec_jnl (f : Security → Security) : (d.modSec f).jnl = d.jnl := rfl
@[simp] theorem Dev.modSec_sec (f : Security → Security) : (d.modSec f).sec = f d.sec := rfl
@[simp] theorem Dev.modSec_pwr (f : Security → Security) : (d.modSec f).pwr = d.pwr := rfl
@[simp] theorem Dev.modSec_boot (f : Security → Security) : (d.modSec f).boot = d.boot := rfl

@[simp] theorem Dev.modPwr_regs (f : PowerSt → PowerSt) : (d.modPwr f).regs = d.regs := rfl
@[simp] theorem Dev.modPwr_staged (f : PowerSt → PowerSt) : (d.modPwr f).staged = d.staged := rfl
@[simp] theorem Dev.modPwr_snap (f : PowerSt → PowerSt) : (d.modPwr f).snap = d.snap := rfl
@[simp] theorem Dev.modPwr_setNow (f : PowerSt → PowerSt) : (d.modPwr f).setNow = d.setNow := rfl
@[simp] theorem Dev.modPwr_seq (f : PowerSt → PowerSt) : (d.modPwr f).seq = d.seq := rfl
@[simp] theorem Dev.modPwr_time (f : PowerSt → PowerSt) : (d.modPwr f).time = d.time := rfl
@[simp] theorem Dev.modPwr_mot (f : PowerSt → PowerSt) : (d.modPwr f).mot = d.mot := rfl
@[simp] theorem Dev.modPwr_enc (f : PowerSt → PowerSt) : (d.modPwr f).enc = d.enc := rfl
@[simp] theorem Dev.modPwr_ilk (f : PowerSt → PowerSt) : (d.modPwr f).ilk = d.ilk := rfl
@[simp] theorem Dev.modPwr_fio (f : PowerSt → PowerSt) : (d.modPwr f).fio = d.fio := rfl
@[simp] theorem Dev.modPwr_portal (f : PowerSt → PowerSt) : (d.modPwr f).portal = d.portal := rfl
@[simp] theorem Dev.modPwr_servo (f : PowerSt → PowerSt) : (d.modPwr f).servo = d.servo := rfl
@[simp] theorem Dev.modPwr_stepd (f : PowerSt → PowerSt) : (d.modPwr f).stepd = d.stepd := rfl
@[simp] theorem Dev.modPwr_eng (f : PowerSt → PowerSt) : (d.modPwr f).eng = d.eng := rfl
@[simp] theorem Dev.modPwr_tmem (f : PowerSt → PowerSt) : (d.modPwr f).tmem = d.tmem := rfl
@[simp] theorem Dev.modPwr_trace (f : PowerSt → PowerSt) : (d.modPwr f).trace = d.trace := rfl
@[simp] theorem Dev.modPwr_cvn (f : PowerSt → PowerSt) : (d.modPwr f).cvn = d.cvn := rfl
@[simp] theorem Dev.modPwr_rcd (f : PowerSt → PowerSt) : (d.modPwr f).rcd = d.rcd := rfl
@[simp] theorem Dev.modPwr_jnl (f : PowerSt → PowerSt) : (d.modPwr f).jnl = d.jnl := rfl
@[simp] theorem Dev.modPwr_sec (f : PowerSt → PowerSt) : (d.modPwr f).sec = d.sec := rfl
@[simp] theorem Dev.modPwr_pwr (f : PowerSt → PowerSt) : (d.modPwr f).pwr = f d.pwr := rfl
@[simp] theorem Dev.modPwr_boot (f : PowerSt → PowerSt) : (d.modPwr f).boot = d.boot := rfl

@[simp] theorem Dev.modTime_regs (f : TimeSt → TimeSt) : (d.modTime f).regs = d.regs := rfl
@[simp] theorem Dev.modTime_staged (f : TimeSt → TimeSt) : (d.modTime f).staged = d.staged := rfl
@[simp] theorem Dev.modTime_snap (f : TimeSt → TimeSt) : (d.modTime f).snap = d.snap := rfl
@[simp] theorem Dev.modTime_setNow (f : TimeSt → TimeSt) : (d.modTime f).setNow = d.setNow := rfl
@[simp] theorem Dev.modTime_seq (f : TimeSt → TimeSt) : (d.modTime f).seq = d.seq := rfl
@[simp] theorem Dev.modTime_time (f : TimeSt → TimeSt) : (d.modTime f).time = f d.time := rfl
@[simp] theorem Dev.modTime_mot (f : TimeSt → TimeSt) : (d.modTime f).mot = d.mot := rfl
@[simp] theorem Dev.modTime_enc (f : TimeSt → TimeSt) : (d.modTime f).enc = d.enc := rfl
@[simp] theorem Dev.modTime_ilk (f : TimeSt → TimeSt) : (d.modTime f).ilk = d.ilk := rfl
@[simp] theorem Dev.modTime_fio (f : TimeSt → TimeSt) : (d.modTime f).fio = d.fio := rfl
@[simp] theorem Dev.modTime_portal (f : TimeSt → TimeSt) : (d.modTime f).portal = d.portal := rfl
@[simp] theorem Dev.modTime_servo (f : TimeSt → TimeSt) : (d.modTime f).servo = d.servo := rfl
@[simp] theorem Dev.modTime_stepd (f : TimeSt → TimeSt) : (d.modTime f).stepd = d.stepd := rfl
@[simp] theorem Dev.modTime_eng (f : TimeSt → TimeSt) : (d.modTime f).eng = d.eng := rfl
@[simp] theorem Dev.modTime_tmem (f : TimeSt → TimeSt) : (d.modTime f).tmem = d.tmem := rfl
@[simp] theorem Dev.modTime_trace (f : TimeSt → TimeSt) : (d.modTime f).trace = d.trace := rfl
@[simp] theorem Dev.modTime_cvn (f : TimeSt → TimeSt) : (d.modTime f).cvn = d.cvn := rfl
@[simp] theorem Dev.modTime_rcd (f : TimeSt → TimeSt) : (d.modTime f).rcd = d.rcd := rfl
@[simp] theorem Dev.modTime_jnl (f : TimeSt → TimeSt) : (d.modTime f).jnl = d.jnl := rfl
@[simp] theorem Dev.modTime_sec (f : TimeSt → TimeSt) : (d.modTime f).sec = d.sec := rfl
@[simp] theorem Dev.modTime_pwr (f : TimeSt → TimeSt) : (d.modTime f).pwr = d.pwr := rfl
@[simp] theorem Dev.modTime_boot (f : TimeSt → TimeSt) : (d.modTime f).boot = d.boot := rfl

@[simp] theorem Dev.modBoot_regs (f : Boot → Boot) : (d.modBoot f).regs = d.regs := rfl
@[simp] theorem Dev.modBoot_staged (f : Boot → Boot) : (d.modBoot f).staged = d.staged := rfl
@[simp] theorem Dev.modBoot_snap (f : Boot → Boot) : (d.modBoot f).snap = d.snap := rfl
@[simp] theorem Dev.modBoot_setNow (f : Boot → Boot) : (d.modBoot f).setNow = d.setNow := rfl
@[simp] theorem Dev.modBoot_seq (f : Boot → Boot) : (d.modBoot f).seq = d.seq := rfl
@[simp] theorem Dev.modBoot_time (f : Boot → Boot) : (d.modBoot f).time = d.time := rfl
@[simp] theorem Dev.modBoot_mot (f : Boot → Boot) : (d.modBoot f).mot = d.mot := rfl
@[simp] theorem Dev.modBoot_enc (f : Boot → Boot) : (d.modBoot f).enc = d.enc := rfl
@[simp] theorem Dev.modBoot_ilk (f : Boot → Boot) : (d.modBoot f).ilk = d.ilk := rfl
@[simp] theorem Dev.modBoot_fio (f : Boot → Boot) : (d.modBoot f).fio = d.fio := rfl
@[simp] theorem Dev.modBoot_portal (f : Boot → Boot) : (d.modBoot f).portal = d.portal := rfl
@[simp] theorem Dev.modBoot_servo (f : Boot → Boot) : (d.modBoot f).servo = d.servo := rfl
@[simp] theorem Dev.modBoot_stepd (f : Boot → Boot) : (d.modBoot f).stepd = d.stepd := rfl
@[simp] theorem Dev.modBoot_eng (f : Boot → Boot) : (d.modBoot f).eng = d.eng := rfl
@[simp] theorem Dev.modBoot_tmem (f : Boot → Boot) : (d.modBoot f).tmem = d.tmem := rfl
@[simp] theorem Dev.modBoot_trace (f : Boot → Boot) : (d.modBoot f).trace = d.trace := rfl
@[simp] theorem Dev.modBoot_cvn (f : Boot → Boot) : (d.modBoot f).cvn = d.cvn := rfl
@[simp] theorem Dev.modBoot_rcd (f : Boot → Boot) : (d.modBoot f).rcd = d.rcd := rfl
@[simp] theorem Dev.modBoot_jnl (f : Boot → Boot) : (d.modBoot f).jnl = d.jnl := rfl
@[simp] theorem Dev.modBoot_sec (f : Boot → Boot) : (d.modBoot f).sec = d.sec := rfl
@[simp] theorem Dev.modBoot_pwr (f : Boot → Boot) : (d.modBoot f).pwr = d.pwr := rfl
@[simp] theorem Dev.modBoot_boot (f : Boot → Boot) : (d.modBoot f).boot = f d.boot := rfl

@[simp] theorem Dev.modTrc_regs (f : TraceSt → TraceSt) : (d.modTrc f).regs = d.regs := rfl
@[simp] theorem Dev.modTrc_staged (f : TraceSt → TraceSt) : (d.modTrc f).staged = d.staged := rfl
@[simp] theorem Dev.modTrc_snap (f : TraceSt → TraceSt) : (d.modTrc f).snap = d.snap := rfl
@[simp] theorem Dev.modTrc_setNow (f : TraceSt → TraceSt) : (d.modTrc f).setNow = d.setNow := rfl
@[simp] theorem Dev.modTrc_seq (f : TraceSt → TraceSt) : (d.modTrc f).seq = d.seq := rfl
@[simp] theorem Dev.modTrc_time (f : TraceSt → TraceSt) : (d.modTrc f).time = d.time := rfl
@[simp] theorem Dev.modTrc_mot (f : TraceSt → TraceSt) : (d.modTrc f).mot = d.mot := rfl
@[simp] theorem Dev.modTrc_enc (f : TraceSt → TraceSt) : (d.modTrc f).enc = d.enc := rfl
@[simp] theorem Dev.modTrc_ilk (f : TraceSt → TraceSt) : (d.modTrc f).ilk = d.ilk := rfl
@[simp] theorem Dev.modTrc_fio (f : TraceSt → TraceSt) : (d.modTrc f).fio = d.fio := rfl
@[simp] theorem Dev.modTrc_portal (f : TraceSt → TraceSt) : (d.modTrc f).portal = d.portal := rfl
@[simp] theorem Dev.modTrc_servo (f : TraceSt → TraceSt) : (d.modTrc f).servo = d.servo := rfl
@[simp] theorem Dev.modTrc_stepd (f : TraceSt → TraceSt) : (d.modTrc f).stepd = d.stepd := rfl
@[simp] theorem Dev.modTrc_eng (f : TraceSt → TraceSt) : (d.modTrc f).eng = d.eng := rfl
@[simp] theorem Dev.modTrc_tmem (f : TraceSt → TraceSt) : (d.modTrc f).tmem = d.tmem := rfl
@[simp] theorem Dev.modTrc_trace (f : TraceSt → TraceSt) : (d.modTrc f).trace = f d.trace := rfl
@[simp] theorem Dev.modTrc_cvn (f : TraceSt → TraceSt) : (d.modTrc f).cvn = d.cvn := rfl
@[simp] theorem Dev.modTrc_rcd (f : TraceSt → TraceSt) : (d.modTrc f).rcd = d.rcd := rfl
@[simp] theorem Dev.modTrc_jnl (f : TraceSt → TraceSt) : (d.modTrc f).jnl = d.jnl := rfl
@[simp] theorem Dev.modTrc_sec (f : TraceSt → TraceSt) : (d.modTrc f).sec = d.sec := rfl
@[simp] theorem Dev.modTrc_pwr (f : TraceSt → TraceSt) : (d.modTrc f).pwr = d.pwr := rfl
@[simp] theorem Dev.modTrc_boot (f : TraceSt → TraceSt) : (d.modTrc f).boot = d.boot := rfl

@[simp] theorem Dev.upTo_regs (t : Nat) : (d.upTo t).regs = d.regs := rfl
@[simp] theorem Dev.upTo_staged (t : Nat) : (d.upTo t).staged = d.staged := rfl
@[simp] theorem Dev.upTo_snap (t : Nat) : (d.upTo t).snap = d.snap := rfl
@[simp] theorem Dev.upTo_setNow (t : Nat) : (d.upTo t).setNow = d.setNow := rfl
@[simp] theorem Dev.upTo_seq (t : Nat) : (d.upTo t).seq = d.seq := rfl
@[simp] theorem Dev.upTo_time (t : Nat) : (d.upTo t).time = { d.time with now := max d.time.now t } := rfl
@[simp] theorem Dev.upTo_mot (t : Nat) : (d.upTo t).mot = d.mot := rfl
@[simp] theorem Dev.upTo_enc (t : Nat) : (d.upTo t).enc = d.enc := rfl
@[simp] theorem Dev.upTo_ilk (t : Nat) : (d.upTo t).ilk = d.ilk := rfl
@[simp] theorem Dev.upTo_fio (t : Nat) : (d.upTo t).fio = d.fio := rfl
@[simp] theorem Dev.upTo_portal (t : Nat) : (d.upTo t).portal = d.portal := rfl
@[simp] theorem Dev.upTo_servo (t : Nat) : (d.upTo t).servo = d.servo := rfl
@[simp] theorem Dev.upTo_stepd (t : Nat) : (d.upTo t).stepd = d.stepd := rfl
@[simp] theorem Dev.upTo_eng (t : Nat) : (d.upTo t).eng = d.eng := rfl
@[simp] theorem Dev.upTo_tmem (t : Nat) : (d.upTo t).tmem = d.tmem := rfl
@[simp] theorem Dev.upTo_trace (t : Nat) : (d.upTo t).trace = d.trace := rfl
@[simp] theorem Dev.upTo_cvn (t : Nat) : (d.upTo t).cvn = d.cvn := rfl
@[simp] theorem Dev.upTo_rcd (t : Nat) : (d.upTo t).rcd = d.rcd := rfl
@[simp] theorem Dev.upTo_jnl (t : Nat) : (d.upTo t).jnl = d.jnl := rfl
@[simp] theorem Dev.upTo_sec (t : Nat) : (d.upTo t).sec = d.sec := rfl
@[simp] theorem Dev.upTo_pwr (t : Nat) : (d.upTo t).pwr = d.pwr := rfl
@[simp] theorem Dev.upTo_boot (t : Nat) : (d.upTo t).boot = d.boot := rfl

@[simp] theorem Dev.begin_regs : (d.begin).regs = d.regs := rfl
@[simp] theorem Dev.begin_staged : (d.begin).staged = d.staged := rfl
@[simp] theorem Dev.begin_snap : (d.begin).snap = d.snap := rfl
@[simp] theorem Dev.begin_setNow : (d.begin).setNow = d.setNow := rfl
@[simp] theorem Dev.begin_seq : (d.begin).seq = d.seq + 1 := rfl
@[simp] theorem Dev.begin_time : (d.begin).time = d.time := rfl
@[simp] theorem Dev.begin_mot : (d.begin).mot = d.mot := rfl
@[simp] theorem Dev.begin_enc : (d.begin).enc = d.enc := rfl
@[simp] theorem Dev.begin_ilk : (d.begin).ilk = d.ilk := rfl
@[simp] theorem Dev.begin_fio : (d.begin).fio = d.fio := rfl
@[simp] theorem Dev.begin_portal : (d.begin).portal = d.portal := rfl
@[simp] theorem Dev.begin_servo : (d.begin).servo = d.servo := rfl
@[simp] theorem Dev.begin_stepd : (d.begin).stepd = d.stepd := rfl
@[simp] theorem Dev.begin_eng : (d.begin).eng = d.eng := rfl
@[simp] theorem Dev.begin_tmem : (d.begin).tmem = d.tmem := rfl
@[simp] theorem Dev.begin_trace : (d.begin).trace = d.trace := rfl
@[simp] theorem Dev.begin_cvn : (d.begin).cvn = { d.cvn with outbox := [] } := rfl
@[simp] theorem Dev.begin_rcd : (d.begin).rcd = d.rcd := rfl
@[simp] theorem Dev.begin_jnl : (d.begin).jnl = d.jnl := rfl
@[simp] theorem Dev.begin_sec : (d.begin).sec = d.sec := rfl
@[simp] theorem Dev.begin_pwr : (d.begin).pwr = d.pwr := rfl
@[simp] theorem Dev.begin_boot : (d.begin).boot = d.boot := rfl

end Sys2Proof.Machine
end

