-- ==== Sys2Proof/Safety.lean ====
section
/-!
DEFINITION. The terms in which claims about the block are stated: the credit account of the host port, what a
command leaves alone, and which registers an announcement (an occurrence, a wake, a record request) can touch.
-/

namespace Sys2Proof.Machine

/-! ### The host port's credits (R364, R366) -/

/-- Credits of the writes that wait in the port's buffer. -/
def HostPort.queued (h : HostPort) : Nat := (h.queue.map HostWrite.cost).sum

/-- The account balances: CRED_TAKEN and CRED_RET are 8-bit counts, their difference modulo 256 is what the waiting
writes cost, and no more than the 32 credits of the buffer are out. -/
def HostPort.creditsOk (h : HostPort) : Prop :=
  h.taken < 256 ∧ h.ret < 256 ∧ (h.taken + 256 - h.ret) % 256 = h.queued ∧ h.queued ≤ 32

/-! ### What a command leaves alone -/

/-- The parts of the controller beside its register file. -/
inductive Part where
  | staged | snap | setNow | seq | time | mot | enc | ilk | fio | portal | servo | stepd | eng | tmem | trace
  | cvn | rcd | jnl | sec | pwr | boot
  deriving DecidableEq, Repr

/-- One part is the same in both. -/
def Dev.same (p : Part) (d d' : Dev) : Prop :=
  match p with
  | .staged => d'.staged = d.staged
  | .snap => d'.snap = d.snap
  | .setNow => d'.setNow = d.setNow
  | .seq => d'.seq = d.seq
  | .time => d'.time = d.time
  | .mot => d'.mot = d.mot
  | .enc => d'.enc = d.enc
  | .ilk => d'.ilk = d.ilk
  | .fio => d'.fio = d.fio
  | .portal => d'.portal = d.portal
  | .servo => d'.servo = d.servo
  | .stepd => d'.stepd = d.stepd
  | .eng => d'.eng = d.eng
  | .tmem => d'.tmem = d.tmem
  | .trace => d'.trace = d.trace
  | .cvn => d'.cvn = d.cvn
  | .rcd => d'.rcd = d.rcd
  | .jnl => d'.jnl = d.jnl
  | .sec => d'.sec = d.sec
  | .pwr => d'.pwr = d.pwr
  | .boot => d'.boot = d.boot

/-- Every part but those named is the same. -/
def Dev.onlyParts (d d' : Dev) (ps : List Part) : Prop := ∀ p, p ∉ ps → Dev.same p d d'

/-- Every register but those named reads the same. -/
def Dev.onlyRegs (d d' : Dev) (as : List Nat) : Prop := ∀ a, a ∉ as → d'.rd a = d.rd a

/-- Registers that an occurrence, the wake it can cause, and a record request can change (R310, R376, R385). -/
def noticeRegs : List Nat :=
  [Reg.EVC_PEND 0, Reg.EVC_PEND 1, Reg.PWR_CAUSE, Reg.PWR_FLAGS, Reg.REC_STATUS, Reg.REC_FLAGS, Reg.REC_DISCARDS,
    Reg.REC_CYC_REFUSED]

/-- Parts that an occurrence, the wake it can cause, and a record request can change. -/
def noticeParts : List Part := [.setNow, .pwr, .rcd]

/-- The two states differ by announcements alone, apart from the parts `ps` and the registers `as`. -/
def Dev.changes (d d' : Dev) (ps : List Part) (as : List Nat) : Prop :=
  d.onlyParts d' (ps ++ noticeParts) ∧ d.onlyRegs d' (as ++ noticeRegs)

/-- The two states differ in the parts `ps` and the registers `as` alone; nothing is announced. -/
def Dev.changesSilently (d d' : Dev) (ps : List Part) (as : List Nat) : Prop :=
  d.onlyParts d' ps ∧ d.onlyRegs d' as

/-- Registers in which switch channels show their state (R262, R263, R266): a change of one channel's request or gate
can change these and no others. -/
def switchRegs : List Nat :=
  (List.range 48).map Reg.FSW_HS_STATUS
    ++ [Reg.FSW_HS_REQ 0, Reg.FSW_HS_REQ 1, Reg.FSW_HS_OUT 0, Reg.FSW_HS_OUT 1, Reg.ILK_STATUS]

/-- Registers of the motion page of an axis (R95, R428). -/
def motionPage (a : Axis) : List Nat := (List.range 50).map (fun i => Reg.MOT_MCFG a + 4 * i)

/-- The command completes: from every state whose controller meets `pre` it answers a next state, whose queue is the
one it was given and whose host port is the one before (or the reset port, where the control die is in reset), and
`post` relates the controllers before and after. The controller before has counted the command (`seq`) and emptied the
caravan outbox, as every command does first. -/
def completes (i : Instr) (pre : Dev → Prop) (post : Dev → Dev → Prop) : Prop :=
  ∀ s : State, pre s.dev.begin →
    ∃ t, exec i s = .next t ∧ t.pending = s.pending ∧ t.host = s.host.after t.dev ∧ post s.dev.begin t.dev

/-! ### Engine words (R223, R229, R235, R251) -/

/-- The engine can execute one more word: it runs a task, the program address is in the program, the fetched word is
good, and `charge` more words leave the task's budget unreached. -/
def Dev.wordReady (d : Dev) (env : WordEnv) (charge : Nat) : Prop :=
  ∃ task, d.taskOn env.eng = some task ∧ d.eng[env.eng].pc ≤ 3071 ∧ d.eng[env.eng].words + charge < task.wcet
    ∧ env.fetch = .good ∧ env.code = .asRow

/-- The controller after a word that wrote the destinations `ps`, with the change `f` of the engine beside them and the
charge counted; nothing else of the controller changes. -/
def Dev.afterWord (d : Dev) (env : WordEnv) (ps : List Put) (charge : Nat) (f : Engine → Engine) : Dev :=
  (d.upTo env.t).modEng env.eng (fun e =>
    f { ps.foldl Engine.put e with stepping := true, pc := e.pc + 1, words := e.words + charge, tickWords := e.tickWords + charge })

/-- An ALU opcode gives its result: where its fields are allowed, in a word whose other slots are NOPs it writes `res`; and
where the companion slot raises nothing and names no destination of the opcode's, and the MEM slot is a MEM_NOP, the word
writes `res` and what the companion asks for, all computed on the registers before the word. -/
def aluGives (op : WordEnv → BitVec 5 → BitVec 5 → BitVec 5 → WithAlu0 → Instr) (ok : Nat → Nat → Nat → Bool)
    (res : Engine → Nat → Nat → Nat → List Put) : Prop :=
  (∀ env d a b (s : State), s.dev.wordReady env 1 → ok d.toNat a.toNat b.toNat = true →
    ∃ t, exec (op env d a b { alu1 := 0, mem := 0 }) s = .next t ∧ t.pending = s.pending
      ∧ t.dev = s.dev.begin.afterWord env (res s.dev.eng[env.eng] d.toNat a.toNat b.toNat) 1 id)
  ∧ (∀ env d a b x ps (s : State),
    s.dev.wordReady env 1 → ok d.toNat a.toNat b.toNat = true → x.mem = 0 →
    s.dev.eng[env.eng].alu none false x.alu1.toNat = .ok ps →
    collide (res s.dev.eng[env.eng] d.toNat a.toNat b.toNat ++ ps) = false →
    ∃ t, exec (op env d a b x) s = .next t ∧
      t.dev = s.dev.begin.afterWord env (res s.dev.eng[env.eng] d.toNat a.toNat b.toNat ++ ps) 1 id)

/-- An ALU opcode with a reserved field value raises ILLEGAL 2h and the word has no other effect. -/
def aluTraps (op : WordEnv → BitVec 5 → BitVec 5 → BitVec 5 → WithAlu0 → Instr) (ok : Nat → Nat → Nat → Bool) : Prop :=
  ∀ env d a b x ps (s : State),
    s.dev.wordReady env 1 → ok d.toNat a.toNat b.toNat = false → x.mem = 0 →
    s.dev.eng[env.eng].alu none false x.alu1.toNat = .ok ps → collide ps = false →
    ∃ t, exec (op env d a b x) s = .next t ∧
      t.dev = ((s.dev.begin.upTo env.t).modEng env.eng (fun e => { e with stepping := true })).engException env.eng 2 2

/-- A MEM opcode gives its result, in a word whose ALU slots are NOPs, and in one whose ALU slots raise nothing and name no
destination of the opcode's: `res` says what it writes and stores on the controller at the word's start, `none` where it
raises a cause. -/
def memGives (op : WordEnv → BitVec 5 → BitVec 2 → BitVec 9 → WithMem → Instr) (charge : Nat)
    (res : Dev → Slot → Nat → Nat → Nat → Option (List Put × (Engine → Engine))) : Prop :=
  (∀ env reg tp off rs f (s : State), s.dev.wordReady env charge → env.read = .good →
    res s.dev env.eng reg.toNat tp.toNat off.toNat = some (rs, f) →
    ∃ t, exec (op env reg tp off { alu0 := 0, alu1 := 0 }) s = .next t ∧ t.pending = s.pending
      ∧ t.dev = s.dev.begin.afterWord env rs charge f)
  ∧ (∀ env reg tp off x ps qs rs f (s : State),
    s.dev.wordReady env charge → env.read = .good →
    s.dev.eng[env.eng].alu none false x.alu0.toNat = .ok ps → s.dev.eng[env.eng].alu none false x.alu1.toNat = .ok qs →
    res s.dev env.eng reg.toNat tp.toNat off.toNat = some (rs, f) → collide (ps ++ qs ++ rs) = false →
    ∃ t, exec (op env reg tp off x) s = .next t ∧ t.dev = s.dev.begin.afterWord env (ps ++ qs ++ rs) charge f)

end Sys2Proof.Machine
end

