-- ==== Sys2Proof/Laws/Ops.lean ====
section
/-!
SUPPORT. What the shared operations do, once: reading a register after a write, and what announcing an occurrence,
counting a tally, asking for a record and raising a flag can change.
-/

namespace Sys2Proof.Machine

variable (d : Dev)

/-! ### Registers -/

theorem Dev.rd_wr (a b : Nat) (v : Word) : (d.wr a v).rd b = if a = b then v else d.rd b :=
  Cells.read_write resetOf d.regs a b v

@[simp] theorem Dev.rd_wr_same (a : Nat) (v : Word) : (d.wr a v).rd a = v := by rw [Dev.rd_wr, if_pos rfl]

theorem Dev.rd_wr_ne {a b : Nat} (v : Word) (h : b ≠ a) : (d.wr a v).rd b = d.rd b := by
  rw [Dev.rd_wr, if_neg (Ne.symm h)]

@[simp] theorem Dev.rd_stage (b : Nat) (v : Word) (a : Nat) : (d.stage b v).rd a = d.rd a := rfl
@[simp] theorem Dev.rd_modMot (x : Axis) (f : MotAxis → MotAxis) (a : Nat) : (d.modMot x f).rd a = d.rd a := rfl
@[simp] theorem Dev.rd_modEnc (c : Enc) (f : EncCh → EncCh) (a : Nat) : (d.modEnc c f).rd a = d.rd a := rfl
@[simp] theorem Dev.rd_modPrt (p : Slot) (f : Portal → Portal) (a : Nat) : (d.modPrt p f).rd a = d.rd a := rfl
@[simp] theorem Dev.rd_modServo (n : Sax) (f : Servo → Servo) (a : Nat) : (d.modServo n f).rd a = d.rd a := rfl
@[simp] theorem Dev.rd_modStep (n : Stx) (f : StepDrv → StepDrv) (a : Nat) : (d.modStep n f).rd a = d.rd a := rfl
@[simp] theorem Dev.rd_modEng (n : Slot) (f : Engine → Engine) (a : Nat) : (d.modEng n f).rd a = d.rd a := rfl
@[simp] theorem Dev.rd_modFio (f : FieldIO → FieldIO) (a : Nat) : (d.modFio f).rd a = d.rd a := rfl
@[simp] theorem Dev.rd_modDin (i : Din) (f : DinCh → DinCh) (a : Nat) : (d.modDin i f).rd a = d.rd a := rfl
@[simp] theorem Dev.rd_modEdge (e : Edge) (f : EdgeCh → EdgeCh) (a : Nat) : (d.modEdge e f).rd a = d.rd a := rfl
@[simp] theorem Dev.rd_modHs (c : Ch) (f : HsCh → HsCh) (a : Nat) : (d.modHs c f).rd a = d.rd a := rfl
@[simp] theorem Dev.rd_modIlk (f : Ilk → Ilk) (a : Nat) : (d.modIlk f).rd a = d.rd a := rfl
@[simp] theorem Dev.rd_modRcd (f : Recorder → Recorder) (a : Nat) : (d.modRcd f).rd a = d.rd a := rfl
@[simp] theorem Dev.rd_modJnl (f : Journal → Journal) (a : Nat) : (d.modJnl f).rd a = d.rd a := rfl
@[simp] theorem Dev.rd_modCvn (f : Caravan → Caravan) (a : Nat) : (d.modCvn f).rd a = d.rd a := rfl
@[simp] theorem Dev.rd_modMir (p : Slot) (f : Mirage → Mirage) (a : Nat) : (d.modMir p f).rd a = d.rd a := rfl
@[simp] theorem Dev.rd_modLease (p : Slot) (f : LeaseT → LeaseT) (a : Nat) : (d.modLease p f).rd a = d.rd a := rfl
@[simp] theorem Dev.rd_modSec (f : Security → Security) (a : Nat) : (d.modSec f).rd a = d.rd a := rfl
@[simp] theorem Dev.rd_modPwr (f : PowerSt → PowerSt) (a : Nat) : (d.modPwr f).rd a = d.rd a := rfl
@[simp] theorem Dev.rd_modTime (f : TimeSt → TimeSt) (a : Nat) : (d.modTime f).rd a = d.rd a := rfl
@[simp] theorem Dev.rd_modBoot (f : Boot → Boot) (a : Nat) : (d.modBoot f).rd a = d.rd a := rfl
@[simp] theorem Dev.rd_modTrc (f : TraceSt → TraceSt) (a : Nat) : (d.modTrc f).rd a = d.rd a := rfl
@[simp] theorem Dev.rd_upTo (t : Nat) (a : Nat) : (d.upTo t).rd a = d.rd a := rfl
@[simp] theorem Dev.rd_begin (a : Nat) : (d.begin).rd a = d.rd a := rfl

@[simp] theorem Dev.rdF_eq (a hi lo : Nat) : d.rdF a hi lo = fld (d.rd a) hi lo := rfl
@[simp] theorem Dev.rdB_eq (a i : Nat) : d.rdB a i = bit (d.rd a) i := rfl
@[simp] theorem Dev.wrF_eq (a hi lo v : Nat) : d.wrF a hi lo v = d.wr a (setFld (d.rd a) hi lo v) := rfl
@[simp] theorem Dev.wrB_eq (a i : Nat) (b : Bool) : d.wrB a i b = d.wr a (setBit (d.rd a) i b) := rfl
theorem Dev.incSat_eq (a m k : Nat) : d.incSat a m k = d.wr a (wn (satAdd m (d.rd a).toNat k)) := rfl

theorem Dev.rd_setFlag (a i b : Nat) : (d.setFlag a i).rd b = if a = b then setBit (d.rd a) i true else d.rd b :=
  Dev.rd_wr d a b _

/-! ### Frames compose -/

theorem Dev.changes_refl (ps : List Part) (as : List Nat) : d.changes d ps as :=
  ⟨fun p _ => by cases p <;> rfl, fun _ _ => rfl⟩

variable {d}

theorem Dev.same_trans {p : Part} {e f : Dev} (h : Dev.same p d e) (k : Dev.same p e f) : Dev.same p d f := by
  cases p <;> exact k.trans h

theorem Dev.onlyParts_trans {e f : Dev} {ps qs : List Part} (h : d.onlyParts e ps) (k : e.onlyParts f qs) :
    d.onlyParts f (ps ++ qs) :=
  fun p hp => Dev.same_trans (h p fun x => hp (List.mem_append_left _ x)) (k p fun x => hp (List.mem_append_right _ x))

theorem Dev.onlyRegs_trans {e f : Dev} {as bs : List Nat} (h : d.onlyRegs e as) (k : e.onlyRegs f bs) :
    d.onlyRegs f (as ++ bs) :=
  fun a ha => (k a fun x => ha (List.mem_append_right _ x)).trans (h a fun x => ha (List.mem_append_left _ x))

theorem Dev.onlyParts_mono {e : Dev} {ps qs : List Part} (h : d.onlyParts e ps) (hs : ps ⊆ qs) : d.onlyParts e qs :=
  fun p hp => h p fun x => hp (hs x)

theorem Dev.onlyRegs_mono {e : Dev} {as bs : List Nat} (h : d.onlyRegs e as) (hs : as ⊆ bs) : d.onlyRegs e bs :=
  fun a ha => h a fun x => ha (hs x)

theorem Dev.changes_trans {e f : Dev} {ps qs : List Part} {as bs : List Nat} (h : d.changes e ps as)
    (k : e.changes f qs bs) : d.changes f (ps ++ qs) (as ++ bs) :=
  ⟨Dev.onlyParts_mono (Dev.onlyParts_trans h.1 k.1) (by intro p; simp; tauto),
    Dev.onlyRegs_mono (Dev.onlyRegs_trans h.2 k.2) (by intro a; simp; tauto)⟩

theorem Dev.changes_mono {e : Dev} {ps qs : List Part} {as bs : List Nat} (h : d.changes e ps as) (hp : ps ⊆ qs)
    (ha : as ⊆ bs) : d.changes e qs bs :=
  ⟨Dev.onlyParts_mono h.1 (List.append_subset.mpr ⟨fun _ x => List.mem_append_left _ (hp x), List.subset_append_right _ _⟩),
    Dev.onlyRegs_mono h.2 (List.append_subset.mpr ⟨fun _ x => List.mem_append_left _ (ha x), List.subset_append_right _ _⟩)⟩

theorem Dev.changesSilently_loud {e : Dev} {ps : List Part} {as : List Nat} (h : d.changesSilently e ps as) :
    d.changes e ps as :=
  ⟨Dev.onlyParts_mono h.1 (List.subset_append_left _ _), Dev.onlyRegs_mono h.2 (List.subset_append_left _ _)⟩

/-- A run of updates of one shape changes what one of them can. -/
theorem Dev.changes_foldl {α : Type} {ps : List Part} {as : List Nat} (f : Dev → α → Dev) (xs : List α)
    (h : ∀ e x, x ∈ xs → Dev.changes e (f e x) ps as) (d : Dev) : d.changes (xs.foldl f d) ps as := by
  induction xs generalizing d with
  | nil => exact Dev.changes_refl d ps as
  | cons x xs ih =>
    exact Dev.changes_mono (Dev.changes_trans (h d x (List.mem_cons_self)) (ih (fun e y hy => h e y (List.mem_cons_of_mem _ hy)) (f d x)))
      (by simp) (by simp)

variable (d)

/-! ### Announcements -/

theorem Dev.changes_wr (a : Nat) (v : Word) : d.changes (d.wr a v) [] [a] :=
  ⟨fun p _ => by cases p <;> rfl, fun b hb => Dev.rd_wr_ne d v (by simp at hb; tauto)⟩

theorem Dev.changes_setFlag (a i : Nat) : d.changes (d.setFlag a i) [] [a] := by
  refine ⟨fun p hp => ?_, fun b hb => ?_⟩
  · cases p <;> first | rfl | (simp [noticeParts] at hp)
  · rw [Dev.rd_setFlag, if_neg]; simp at hb; tauto

theorem Dev.changes_modPwr (f : PowerSt → PowerSt) : d.changes (d.modPwr f) [] [] :=
  ⟨fun p hp => by cases p <;> first | rfl | (simp [noticeParts] at hp), fun _ _ => rfl⟩

theorem Dev.changes_modRcd (f : Recorder → Recorder) : d.changes (d.modRcd f) [] [] :=
  ⟨fun p hp => by cases p <;> first | rfl | (simp [noticeParts] at hp), fun _ _ => rfl⟩

/-- A write of a register that announcements change is an announcement. -/
theorem Dev.changes_notice {d e : Dev} {ps : List Part} {as : List Nat} (h : d.changes e ps as) (ha : as ⊆ noticeRegs) :
    d.changes e ps [] :=
  ⟨h.1, Dev.onlyRegs_mono h.2 (List.append_subset.mpr ⟨ha, List.Subset.refl _⟩)⟩

/-- A wake cause changes no more than an announcement does. -/
theorem Dev.wakeOn_changes (code : Nat) : d.changes (d.wakeOn code) [] [] := by
  unfold Dev.wakeOn
  extract_lets e c f
  have h0 : d.changes e [] [] := Dev.changes_modPwr d _
  split
  · have h1 := Dev.changes_trans h0 (Dev.changes_wr e Reg.PWR_CAUSE (wn (e.pwr.st.code * 256 + code)))
    have h2 := Dev.changes_trans h1 (Dev.changes_modPwr c (fun p => { p with
      exiting := true, wakePulse := !c.solo, exitAt := c.now + c.exitTime p.st }))
    have h3 : d.changes f _ _ := Dev.changes_trans h2 (Dev.changes_setFlag _ Reg.PWR_FLAGS 8)
    split
    · exact Dev.changes_notice (Dev.changes_trans h3 (Dev.changes_setFlag _ (evcPend 35) 3)) (by decide)
    · exact Dev.changes_notice h3 (by decide)
  · exact h0

theorem evcPend_notice {s : Nat} (h : s < 64) : evcPend s ∈ noticeRegs := by
  unfold evcPend
  have : s / 32 = 0 ∨ s / 32 = 1 := by omega
  rcases this with e | e <;> rw [e] <;> decide

/-- An occurrence changes no more than an announcement does (R376). -/
theorem Dev.occur_changes {s : Nat} (h : s < 64) : d.changes (d.occur s) [] [] := by
  unfold Dev.occur
  split
  · have hf := Dev.changes_notice (Dev.changes_setFlag d (evcPend s) (s % 32)) (by simpa using evcPend_notice h)
    dsimp only
    split
    · exact Dev.changes_trans hf (Dev.wakeOn_changes _ 9)
    · exact hf
  · exact Dev.changes_refl d [] []

/-- Counting a tally (R310). -/
theorem Dev.tally_changes (src : Nat) (r : TallyReason) (sev : Nat) : d.changes (d.tally src r sev) [] [] := by
  unfold Dev.tally
  dsimp only
  have h := Dev.changes_modRcd d (fun x => { x with tallies := tallyAdd x.tallies src r sev d.opTime })
  split
  · exact Dev.changes_trans h (Dev.changes_trans
      (Dev.changes_notice (Dev.changes_setFlag _ Reg.REC_FLAGS 0) (by decide)) (Dev.occur_changes _ (by decide)))
  · exact h

theorem Dev.admitFifo_changes (q : Req) : d.changes (d.admitFifo q) [] [] := by
  unfold Dev.admitFifo
  split <;> split
  · exact Dev.changes_modRcd d _
  · exact Dev.tally_changes d _ _ _
  · exact Dev.changes_modRcd d _
  · exact Dev.tally_changes d _ _ _

theorem Dev.haboobRise_changes (was : Bool) : d.changes (d.haboobRise was) [] [] := by
  unfold Dev.haboobRise
  split
  · have h1 := Dev.changes_notice (Dev.changes_wr d Reg.REC_STATUS (setBit (d.rd Reg.REC_STATUS) 5 true)) (by decide)
    have h2 := Dev.changes_trans h1 (Dev.changes_notice (Dev.changes_setFlag _ Reg.REC_FLAGS 1) (by decide))
    have h3 := Dev.changes_trans h2 (Dev.occur_changes _ (s := 27) (by decide))
    exact Dev.changes_trans h3 (Dev.admitFifo_changes _ _)
  · exact Dev.changes_refl d [] []

theorem Dev.admitCycle_changes (q : Req) : d.changes (d.admitCycle q) [] [] := by
  unfold Dev.admitCycle
  dsimp only
  split
  · exact Dev.changes_modRcd d _
  · exact Dev.changes_notice (Dev.changes_wr d Reg.REC_CYC_REFUSED _) (by decide)

/-- A record request changes no more than an announcement does (R303, R310). -/
theorem Dev.request_changes (q : Req) : d.changes (d.request q) [] [] := by
  unfold Dev.request
  split_ifs
  · exact Dev.changes_refl d [] []
  · exact Dev.changes_notice (Dev.changes_wr d Reg.REC_DISCARDS _) (by decide)
  · dsimp only
    split
    · split
      · have h1 := Dev.changes_notice (Dev.changes_wr d Reg.REC_DISCARDS
          (setFld (d.rd Reg.REC_DISCARDS) 31 16 (satAdd 0xFFFF (d.rdF Reg.REC_DISCARDS 31 16) 1))) (by decide)
        exact Dev.changes_trans h1 (Dev.changes_trans
          (Dev.changes_notice (Dev.changes_setFlag _ Reg.REC_FLAGS 13) (by decide)) (Dev.occur_changes _ (by decide)))
      · exact Dev.changes_trans (Dev.changes_modRcd d _) (Dev.admitCycle_changes _ _)
    · exact Dev.changes_trans (Dev.admitFifo_changes d _) (Dev.haboobRise_changes _ _)

/-- Raising a flag changes its register and what an announcement does (R374, R304). -/
theorem Dev.raise_changes (reg b : Nat) {src : Nat} (h : src < 64) (sev : Option Nat) (inst : Nat) (data : List Word) :
    d.changes (d.raise reg b src sev inst data) [] [reg] := by
  unfold Dev.raise
  have hf := Dev.changes_trans (Dev.changes_setFlag d reg b) (Dev.occur_changes _ h)
  cases sev with
  | none => exact Dev.changes_mono hf (by simp) (by simp)
  | some s => exact Dev.changes_mono (Dev.changes_trans hf (Dev.request_changes _ _)) (by simp) (by simp)

/-- The raised flag reads 1. -/
theorem Dev.raise_flag {reg b : Nat} (hb : b < 32) {src : Nat} (h : src < 64) (sev : Option Nat) (inst : Nat)
    (data : List Word) (hr : reg ∉ noticeRegs) : bit ((d.raise reg b src sev inst data).rd reg) b = true := by
  have key : (d.raise reg b src sev inst data).rd reg = (d.setFlag reg b).rd reg := by
    unfold Dev.raise
    have ho := (Dev.occur_changes (d.setFlag reg b) h).2 reg (by simpa using hr)
    cases sev with
    | none => exact ho
    | some s => exact ((Dev.request_changes ((d.setFlag reg b).occur src) _).2 reg (by simpa using hr)).trans ho
  rw [key, Dev.rd_setFlag, if_pos rfl, bit_setBit_same _ _ hb]

end Sys2Proof.Machine
end

