-- ==== Sys2Proof/Laws/Irval.lean ====
section
/-!
SUPPORT. Engine words: what the fields of a built word read, and what a word that raises nothing does.
-/

namespace Sys2Proof.Machine

/-! ### Fields of a built word (R235, R236) -/

theorem aluSlot_toNat {op : Nat} (d a b : BitVec 5) (h : op < 64) :
    (aluSlot op d a b).toNat = op * 2 ^ 15 + d.toNat * 2 ^ 10 + a.toNat * 2 ^ 5 + b.toNat := by
  have := d.isLt; have := a.isLt; have := b.isLt
  unfold aluSlot; rw [BitVec.toNat_ofNat]; omega

theorem memSlot_toNat {mop : Nat} (reg : BitVec 5) (tp : BitVec 2) (off : BitVec 9) (h : mop < 16) :
    (memSlot mop reg tp off).toNat = mop * 2 ^ 16 + reg.toNat * 2 ^ 11 + tp.toNat * 2 ^ 9 + off.toNat := by
  have := reg.isLt; have := tp.isLt; have := off.isLt
  unfold memSlot; rw [BitVec.toNat_ofNat]; omega

theorem basicWord_toNat (x y : BitVec 21) (m : BitVec 20) :
    (basicWord x y m).toNat = x.toNat * 2 ^ 41 + y.toNat * 2 ^ 20 + m.toNat := by
  have := x.isLt; have := y.isLt; have := m.isLt
  unfold basicWord; rw [BitVec.toNat_ofNat]; omega

theorem basicWord_format (x y : BitVec 21) (m : BitVec 20) : wfld (basicWord x y m) 63 62 = 0 := by
  have := x.isLt; have := y.isLt; have := m.isLt
  unfold wfld; rw [basicWord_toNat]; omega

theorem basicWord_alu0 (x y : BitVec 21) (m : BitVec 20) : wfld (basicWord x y m) 61 41 = x.toNat := by
  have := x.isLt; have := y.isLt; have := m.isLt
  unfold wfld; rw [basicWord_toNat]; omega

theorem basicWord_alu1 (x y : BitVec 21) (m : BitVec 20) : wfld (basicWord x y m) 40 20 = y.toNat := by
  have := x.isLt; have := y.isLt; have := m.isLt
  unfold wfld; rw [basicWord_toNat]; omega

theorem basicWord_mem (x y : BitVec 21) (m : BitVec 20) : wfld (basicWord x y m) 19 0 = m.toNat := by
  have := x.isLt; have := y.isLt; have := m.isLt
  unfold wfld; rw [basicWord_toNat]; omega

/-- A BASIC word asks for what its three slots ask for. -/
theorem Dev.wordOut_basic (d : Dev) (n : Slot) (x y : BitVec 21) (m : BitVec 20) :
    d.wordOut n (basicWord x y m)
      = ⟨[d.eng[n].alu none false x.toNat, d.eng[n].alu none false y.toNat], d.memOp n m.toNat, []⟩ := by
  unfold Dev.wordOut
  rw [basicWord_format, basicWord_alu0, basicWord_alu1, basicWord_mem]
  rfl

/-- A MEM_NOP with zero fields asks for nothing. -/
theorem Dev.memOp_zero (d : Dev) (n : Slot) : d.memOp n 0 = {} := by
  unfold Dev.memOp; rfl

/-! ### A word that raises nothing -/

/-- The engine as a word that starts finds it: it runs its task word by word. -/
def Dev.stepped (d : Dev) (env : WordEnv) : Dev := (d.upTo env.t).modEng env.eng (fun e => { e with stepping := true })

@[simp] theorem Dev.taskOn_upTo (d : Dev) (t : Nat) (n : Slot) : (d.upTo t).taskOn n = d.taskOn n := rfl
@[simp] theorem Dev.taskOn_begin (d : Dev) (n : Slot) : d.begin.taskOn n = d.taskOn n := rfl

theorem Dev.wordReady_begin {d : Dev} {env : WordEnv} {c : Nat} : d.begin.wordReady env c ↔ d.wordReady env c := Iff.rfl

theorem worst_nil : worst [] = none := rfl

/-- A word of a ready engine that raises no cause retires. -/
theorem Dev.runWord_retires {d : Dev} {env : WordEnv} {c : Nat} (h : d.wordReady env c) (w : DWord)
    (he : ∀ task, d.taskOn env.eng = some task →
      (d.stepped env).wordExcs env task ((d.stepped env).wordOut env.eng w) = []) :
    d.runWord env w = (d.stepped env).wordRetire env ((d.stepped env).wordOut env.eng w) := by
  obtain ⟨task, ht, hpc, _, hf, hcode⟩ := h
  have hpc' : ¬ 3071 < (d.stepped env).eng[env.eng].pc := by
    simp [Dev.stepped]; exact hpc
  unfold Dev.runWord
  simp only [Dev.taskOn_upTo, ht]
  change (if 3071 < (d.stepped env).eng[env.eng].pc then _ else _) = _
  rw [if_neg hpc', hf, hcode, if_neg (by decide), if_neg (by decide)]
  have := he task ht
  change (match worst ((d.stepped env).wordExcs env task ((d.stepped env).wordOut env.eng w)) with
    | some x => _ | none => _) = _
  rw [this]; rfl

/-! ### Destinations -/

theorem Engine.put_stepping (e : Engine) (b : Bool) (p : Put) :
    Engine.put { e with stepping := b } p = { e.put p with stepping := b } := by
  cases p with
  | v i x => by_cases h : i = 0 <;> simp [Engine.put, h]
  | w i x => rfl
  | p i x => rfl
  | cur i x => rfl
  | bind i k => rfl

theorem Engine.puts_stepping (ps : List Put) (e : Engine) (b : Bool) :
    ps.foldl Engine.put { e with stepping := b } = { ps.foldl Engine.put e with stepping := b } := by
  induction ps generalizing e with
  | nil => rfl
  | cons p ps ih => simp only [List.foldl_cons, Engine.put_stepping, ih]

/-- A destination is a register: every other part of the engine stands. -/
theorem Engine.put_parts (e : Engine) (p : Put) :
    (e.put p).pc = e.pc ∧ (e.put p).words = e.words ∧ (e.put p).tickWords = e.tickWords ∧ (e.put p).data = e.data
      ∧ (e.put p).task = e.task ∧ (e.put p).rest = e.rest ∧ (e.put p).img = e.img := by
  cases p with
  | v i x => by_cases h : i = 0 <;> simp [Engine.put, h]
  | w i x => simp [Engine.put]
  | p i x => simp [Engine.put]
  | cur i x => simp [Engine.put]
  | bind i k => simp [Engine.put]

theorem Engine.puts_parts (ps : List Put) (e : Engine) :
    (ps.foldl Engine.put e).pc = e.pc ∧ (ps.foldl Engine.put e).words = e.words
      ∧ (ps.foldl Engine.put e).tickWords = e.tickWords ∧ (ps.foldl Engine.put e).data = e.data
      ∧ (ps.foldl Engine.put e).task = e.task ∧ (ps.foldl Engine.put e).rest = e.rest
      ∧ (ps.foldl Engine.put e).img = e.img := by
  induction ps generalizing e with
  | nil => simp
  | cons p ps ih => rw [List.foldl_cons]; have h := ih (e.put p); have k := Engine.put_parts e p; simp [h, k]

/-- A word of two ALU slots that raise nothing, beside a MEM_NOP, writes what both ask for and nothing else. -/
theorem Dev.runWord_alus {d : Dev} {env : WordEnv} (h : d.wordReady env 1) (x y : BitVec 21) (ps qs : List Put)
    (hx : d.eng[env.eng].alu none false x.toNat = .ok ps) (hy : d.eng[env.eng].alu none false y.toNat = .ok qs)
    (hc : collide (ps ++ qs) = false) :
    d.runWord env (basicWord x y 0) = d.afterWord env (ps ++ qs) 1 id := by
  have hs : ∀ z, (d.stepped env).eng[env.eng].alu none false z = d.eng[env.eng].alu none false z := by
    intro z; simp [Dev.stepped]; rfl
  have ho : (d.stepped env).wordOut env.eng (basicWord x y 0) = ⟨[.ok ps, .ok qs], {}, []⟩ := by
    rw [Dev.wordOut_basic, hs, hs, hx, hy]; rfl
  rw [Dev.runWord_retires h, ho]
  · simp [Dev.wordRetire, Dev.wordIo, WordOut.puts, SlotOut.puts, Dev.stepped, Dev.afterWord, Dev.modEng]
    have hp := Engine.puts_parts (ps ++ qs) d.eng[env.eng]
    have h1 := hp.1; have h2 := hp.2.1; have h3 := hp.2.2.1
    simp only [List.foldl_append, Fin.getElem_fin] at h1 h2 h3
    simp only [Engine.puts_stepping, h1, h2, h3]
  · intro task ht
    obtain ⟨task', ht', _, hb, _⟩ := h
    rw [ht] at ht'; cases ht'
    rw [ho]
    have hk : WordOut.clash ⟨[.ok ps, .ok qs], {}, []⟩ = false := by
      simpa [WordOut.clash, WordOut.puts, SlotOut.puts] using hc
    simp [Dev.wordExcs, Dev.wordIo, SlotOut.excs, Dev.stepped, hk]
    omega

end Sys2Proof.Machine
end

