-- ==== Sys2Proof/Certificates/Slice0/Obligations.lean ====
section
/-! DEFINITION. The statements for the provers. They are grouped by the chapters of spec/; `completes`, `changes`,
`changesSilently` and `onlyParts` are defined in Sys2Proof/Safety.lean: `completes c pre post` says that in every state
whose device meets `pre` the command answers a next state, whose device meets `post`, with the queue unchanged. -/

section
open Sys2Proof Sys2Proof.Machine

/-- A step takes the command at the front of the queue and runs it with the queue's rest. Every command of the table
completes: exec answers a next state with the queue it was given, and only a command of the host port's own rows changes
the port (beside the reset of the control die). That the block idles on an empty queue is the model's choice (log 6). -/
def Obligations.StepTakesTheFront : Prop :=
  (∀ (c : Instr) (rest : List Instr) (s : State), s.pending = c :: rest → step s = exec c { s with pending := rest })
  ∧ (∀ s : State, s.pending = [] → step s = .next s)
  ∧ (∀ (c : Instr) (s : State), ∃ t, exec c s = .next t ∧ t.pending = s.pending
      ∧ (match c with
          | .readFrame .. | .writeFrame .. | .writeGated .. | .statusFrame .. | .resync .. | .frameCut .. | .writeCompletion ..
          | .hostGone | .exitComplete .. => True
          | _ => t.host = s.host.after t.dev))

/-- The reset state (R364, R366, R392, R421): no command waits, every register reads its reset value, memories and stores
are empty, RST_N is low, and no credit is out. Which value a register has whose reset value the spec does not give is
the model's choice (log 6). -/
def Obligations.ResetState : Prop :=
  State.reset.pending = [] ∧ State.reset.host.creditsOk ∧ (∀ a, State.reset.dev.rd a = resetOf a ∧ State.reset.dev.stg a = resetOf a)
  ∧ State.reset.dev.rd Reg.SYS_ID = 0x4B441216#32 ∧ State.reset.dev.rd Reg.TBS_TICK_CFG = 0x000A2710#32
  ∧ State.reset.dev.rd Reg.HST_FLAGS = 0x80#32 ∧ State.reset.dev.rd Reg.SYS_RESET_CAUSE = 1
  ∧ State.reset.dev.boot.st = .reset ∧ State.reset.dev.time.rstN = false ∧ State.reset.dev.timeCounter = 0
  ∧ State.reset.dev.tmem = [] ∧ State.reset.dev.rcd.store = [] ∧ State.reset.dev.jnl.half0 = []
  ∧ (∀ (p : Slot) (k : Nat), Cells.read zeroCell State.reset.dev.eng[p].data k = 0)

/-- The credit account is an invariant (R364, R366, R412): CRED_TAKEN less CRED_RET, modulo 256, is the cost of the writes
that wait, and it never exceeds 32. Every step keeps it, whatever the command. -/
def Obligations.CreditsKept : Prop :=
  ∀ s t : State, s.host.creditsOk → step s = .next t → t.host.creditsOk

/-- EVC.TOP (R377): it names the pending and enabled source with the highest priority, of equal ones the lowest number, and
reads 0 where there is none; it is read from PEND, EN and PRIO as they stand. -/
def Obligations.TopSource : Prop :=
  ∀ d : Dev,
    let on (s : Nat) : Prop := s < 64 ∧ d.rdB (Reg.EVC_PEND (s / 32)) (s % 32) = true ∧ d.rdB (Reg.EVC_EN (s / 32)) (s % 32) = true
    ((∀ s, ¬on s) → d.topWord = 0)
    ∧ (∀ s, on s → (∀ u, on u → d.srcPrio u < d.srcPrio s ∨ d.srcPrio u = d.srcPrio s ∧ s ≤ u) →
        d.topWord = wn (2 ^ 31 + d.srcPrio s * 256 + s))
    ∧ (∀ s, on s → ∃ u, on u ∧ (∀ v, on v → d.srcPrio v < d.srcPrio u ∨ d.srcPrio v = d.srcPrio u ∧ u ≤ v))
    ∧ (∀ h : HostPort, d.view h Reg.EVC_TOP = some d.topWord)

/-- Before DONE (R398): from the end of the KEYS step the port answers frames, and before that none has an effect; until
DONE a read of a register outside SYS, LCS, SEC, HST and EVC returns its reset value, and a write there completes with
08h and leaves every register of those blocks, every memory and every sequencer as it was; the command rows that are such
writes do nothing, there and where the port takes no frames (R36, R361). In RETURNED the records are the exception (R350, log 150): there the REC block answers. -/
def Obligations.BeforeDone : Prop :=
  let started (d : Dev) : Prop := d.boot.st ≠ .reset ∧ d.boot.st ≠ .wipe ∧ d.boot.st ≠ .keys
  let other (d : Dev) (a : Nat) : Prop := ((0x2000 ≤ a ∧ a < 0x4000) ∨ 0x8000 ≤ a)
    ∧ (d.inquiry = true → a < 0x70000 ∨ 0x71100 ≤ a)
  (∀ (t : Nat) (s : State), started s.dev → s.dev.pwr.st = .run ∨ s.dev.pwr.st = .hold →
    s.dev.pwr.oor.getD 3 false = false →
    ∃ u, exec (.statusFrame t (crc32c (hostPhase 4 0 0 [] [])) 4 0 0) s = .next u ∧ ∃ r, u.host.reply = some r ∧ r.result = 0 ∧ r.tag = s.host.tag)
  ∧ (∀ (t : Nat) (s : State), s.dev.boot.st = .wipe ∨ s.dev.boot.st = .keys →
      ∀ (hcrc : Word) (a len : Nat) (data : List Byte) (bad : List (Nat × Ecc)) (ctr : BitVec 32) (mac : List Byte) (op : BitVec 8),
      ∀ i ∈ [Instr.readFrame t hcrc a len bad, .writeFrame t hcrc a data, .writeGated t hcrc a data ctr mac,
          .statusFrame t hcrc op a len],
        ∃ u, exec i s = .next u ∧ u.host = s.host ∧ s.dev.begin.changesSilently u.dev [.time] [])
  ∧ (∀ (t a n : Nat) (s : State), s.dev.takesFrames = true → s.dev.up = false → 1 ≤ n → n ≤ 1024 →
      (∀ k < n, other s.dev (a + 4 * k)) → a % 4 = 0 → inOneRow a (4 * n) = true →
      ∃ u, exec (.readFrame t (crc32c (hostPhase 1 a (4 * n) [] [])) a (4 * n) []) s = .next u
        ∧ ∃ r, u.host.reply = some r ∧ r.result = 0
          ∧ r.data = (List.range n).flatMap (fun k => leBytes 4 (if 0x200000 ≤ a + 4 * k then 0 else resetOf (a + 4 * k)).toNat))
  ∧ (∀ (t : Nat) (w : HostWrite) (rest : List HostWrite) (s : State), started s.dev → s.dev.up = false → other s.dev w.addr →
      s.host.queue = w :: rest → w.gated = none →
      ∃ u, exec (.writeCompletion t) s = .next u ∧ u.host.queue = rest ∧ u.host.doneTag = w.tag ∧ u.host.errCode = 8
        ∧ u.host.errTag = w.tag ∧ u.host.ret = (s.host.ret + w.cost) % 256
        ∧ s.dev.begin.changes u.dev [.time] ((List.range 8).map Reg.HST_WLOG_A ++ (List.range 8).map Reg.HST_WLOG_B
            ++ [Reg.HST_FLAGS, Reg.HST_ERR_CNT]))
  ∧ (∀ (gate on high bankB : Bool) (v tgt attr tgt2 mask : Word) (p : Slot) (a : Axis) (c : Enc) (ch : Ch) (n : Sax) (x : Stx)
        (w : Fin 3) (h : Fin 2) (i : Fin 4) (adr : Nat),
      ∀ row ∈ [Instr.openCmd p, .closeCmd p, .faultClear p, .isolate p gate, .restore p gate, .push a tgt attr tgt2,
          .retarget a tgt attr tgt2, .stop a, .qstop a, .halt a, .realign a, .home a, .compareArm a i on, .latchArm a on,
          .uncClr c, .driftClr c, .servoEn n on, .fltAck n high, .ocAck n, .dsmAck n, .sealBank n, .bankSwap n bankB gate,
          .bankWrite adr v, .traceArm, .traceStop, .manual, .bypass p on gate, .obsDriftClr p, .stepEn x on, .shortAck x,
          .stepDsmAck x, .restart p, .statClr p, .inEvenWrite w v, .hsHreq h v, .hsClr ch, .surrenderGo gate,
          .cvnXfer mask gate, .flush, .cursorLo v, .seekOldest, .seekNewest, .toleranceWrite w v],
        completes row (fun d => d.hostUp = false
            ∧ (row = .cursorLo v ∨ row = .seekOldest ∨ row = .seekNewest → d.takesFrames = false ∨ d.inquiry = false))
          fun d d' => d' = d)
  ∧ (∀ (g : Bool) (k : Fin 2) (v : Word) (ofs : Nat) (bytes : List Byte),
      ∀ row ∈ [Instr.commitCmd, .pendClear k v, .enWrite k v, .swset, .loadBegin g, .loadWinWrite ofs bytes g, .loadEnd g,
          .loadAbort g, .keyOrder g, .revert g, .svnCommit g, .sessEnd g, .certRead, .attest, .chalReq, .sessStart, .order g,
          .resetGo],
        completes row (fun d => d.takesFrames = false) fun d d' => d' = d)

/-- Clears and occurrences (R19): in one position period a bit that the controller sets ends the period set, whether the
clear came before or after; a clear of a bit not set in the period takes it away, and no other bit changes. -/
def Obligations.ClearsAndOccurrences : Prop :=
  ∀ (d : Dev) (a i : Nat) (mask v : Word), i < 32 →
    ((d.setFlag a i).w1c a mask v).rdB a i = true
    ∧ ((d.w1c a mask v).setFlag a i).rdB a i = true
    ∧ (∀ j < 32, bit (Cells.read (fun _ => 0) d.setNow a) j = false →
        (d.w1c a mask v).rdB a j = (d.rdB a j && !(bit v j && bit mask j)))
    ∧ (∀ b, b ≠ a → (d.w1c a mask v).rd b = d.rd b)

/-- Portal commands where the door program does not act on them (R51, R231): on a disabled portal that the member drives
the result is 3h (the model's choice, log 113), on a member that does not drive the portal 7h, also where that member runs
the portal's program beside the driver; an engine that has not started leaves the command pending, a halted one never
processes it; each write is counted. -/
def Obligations.PortalCommandsReceived : Prop :=
  ∀ (p : Slot) (g : Bool), ∀ q ∈ [(Instr.openCmd p, 1), (.closeCmd p, 2), (.faultClear p, 3), (.isolate p g, 4), (.restore p g, 5)],
    let st (d : Dev) (hi lo : Nat) : Nat := d.rdF (Reg.PRT_CMD_STATUS p) hi lo
    let answered (r : Nat) (d d' : Dev) : Prop := st d' 3 0 = q.2 ∧ st d' 7 4 = r ∧ st d' 15 8 = (st d 15 8 + 1) % 256
      ∧ st d' 23 16 = (st d 23 16 + 1) % 256 ∧ d'.portal[p].cmd = none
    let alone (d d' : Dev) : Prop := d.changes d' [.portal] [Reg.PRT_CMD_STATUS p, Reg.PRT_STATE p]
    completes q.1 (fun d => d.hostUp = true ∧ d.engRun p = true ∧ d.drives p = true ∧ d.enabled p = false) (fun d d' =>
      answered 3 d d' ∧ alone d d')
    ∧ completes q.1 (fun d => d.hostUp = true ∧ d.engRun p = true ∧ d.drives p = false) (fun d d' =>
      answered 7 d d' ∧ (d.enabled p = false ∨ d.shadows p = false → alone d d'))
    ∧ completes q.1 (fun d => d.hostUp = true ∧ d.engRun p = false) (fun d d' =>
      d'.portal[p].cmd = (if 2 ≤ d.rdF (Reg.ENG_STATUS p) 1 0 then d.portal[p].cmd else some q.2)
      ∧ st d' 15 8 = (st d 15 8 + 1) % 256 ∧ st d' 23 16 = st d 23 16
      ∧ d.changesSilently d' [.portal] [Reg.PRT_CMD_STATUS p])

/-- The commands on a portal that this member drives (R46, R48 to R51, R346). `e` is the portal as the rules of the
housekeeping task that processes the command find it. OPEN unlocks a released portal and starts a cycle; CLOSE is latched
in UNLOCKING to OBSTRUCTED; FAULT_CLEAR leaves FAULT where no cause is active; ISOLATE and RESTORE act with the ISOLATE
right and are refused without it. Other portals are left alone. -/
def Obligations.PortalCommandsObeyed : Prop :=
  ∀ (p : Slot) (g : Bool),
    let ok (d : Dev) : Prop := d.hostUp = true ∧ d.engRun p = true ∧ d.enabled p = true ∧ d.drives p = true
    let at' (code : Nat) (d : Dev) : Dev := (d.cmdWrite p code g).hkPrepare p
    let calm (e : Dev) : Prop := e.portal[p].evaluated = true ∧ e.roleOn p roIsolate = false ∧ e.portal[p].isoHost = false
    let does (i : Instr) (code : Nat) (pre : Dev → Prop) (result : Nat) (post : Dev → Dev → Prop) : Prop :=
      completes i (fun d => ok d ∧ pre (at' code d)) (fun d d' =>
        d'.rdF (Reg.PRT_CMD_STATUS p) 3 0 = code ∧ d'.rdF (Reg.PRT_CMD_STATUS p) 7 4 = result
        ∧ d'.portal[p].cmd = none ∧ post (at' code d) d'
        ∧ (∀ q : Slot, q ≠ p → d'.portal[q] = d.portal[q] ∧ d'.rd (Reg.PRT_STATE q) = d.rd (Reg.PRT_STATE q))
        ∧ d.onlyParts d' ([.portal, .mot, .servo, .stepd, .fio, .cvn] ++ noticeParts))
    (g = false →
      does (.openCmd p) 1 (fun e => calm e ∧ e.activeCause p = 0 ∧ e.pst p = psReleased ∧ e.release p = true
          ∧ e.tlClose = false ∧ (e.rdB (Reg.PRT_CFG p) 11 = true → e.roleOn p roBtnClose = false)
          ∧ (e.sst p = ssRetracted ∨ e.sst p = ssNotFitted)) 0
        (fun _ d' => d'.pst p = psUnlocking ∧ d'.portal[p].cycOn = true)
      ∧ does (.openCmd p) 1 (fun e => calm e ∧ e.activeCause p = 0 ∧ e.release p = false) 1 (fun _ _ => True)
      ∧ does (.closeCmd p) 2 (fun e => calm e ∧ e.activeCause p = 0 ∧ psUnlocking ≤ e.pst p ∧ e.pst p ≤ psObstructed) 0
        (fun e d' => e.pst p = psOpen → d'.portal[p].closeLatch = true ∧ d'.pst p ∈ [psOpen, psClosing, psObstructed])
      ∧ does (.closeCmd p) 2 (fun e => calm e ∧ e.activeCause p = 0 ∧ (e.pst p < psUnlocking ∨ e.pst p = psLocking)) 3
        (fun _ _ => True)
      ∧ does (.faultClear p) 3 (fun e => calm e ∧ e.pst p = psFault ∧ e.portal[p].offDue = false ∧ e.activeCause p = 0) 0
        (fun e d' => (e.secured p = true → d'.pst p = if e.release p then psReleased else psLocked)
          ∧ (e.secured p = false → d'.pst p = psOpen ∧ d'.prtB p 19 = true ∧ d'.portal[p].cycOn = true))
      ∧ does (.faultClear p) 3 (fun e => calm e ∧ e.pst p = psFault ∧ e.activeCause p ≠ 0) 5 (fun _ d' => d'.pst p = psFault))
    ∧ does (.isolate p g) 4 (fun e => calm e ∧ e.portal[p].cmdGate = true ∧ e.pst p ≠ psIsolated) 0
        (fun _ d' => d'.pst p = psIsolated ∧ d'.portal[p].isoHost = true)
    ∧ does (.isolate p g) 4 (fun e => e.portal[p].evaluated = true ∧ e.portal[p].cmdGate = false) 2 (fun _ _ => True)
    ∧ does (.restore p g) 5 (fun e => e.portal[p].evaluated = true ∧ e.roleOn p roIsolate = false ∧ e.portal[p].offDue = false
          ∧ e.portal[p].cmdGate = true ∧ e.pst p = psIsolated ∧ e.portal[p].isoHost = true) 0
        (fun e d' => d'.portal[p].isoHost = false
          ∧ (e.secured p = true → d'.pst p = if e.release p then psReleased else psLocked)
          ∧ (e.secured p = false → d'.pst p = psFault ∧ d'.rdF (Reg.PRT_STATE p) 15 8 = 0x0F))
    ∧ does (.restore p g) 5 (fun e => e.portal[p].evaluated = true ∧ e.portal[p].cmdGate = false) 2 (fun _ _ => True)

/-- The limits of a cycle (R46, R55, R56, R61): at the first housekeeping tick at or after its limit each timer puts the
portal into FAULT with its cause, unless a lower cause is active. `e` is the portal as the rules of that housekeeping task
find it.

The timers of a close (R48, R52, R182, R184): the pre-close warning ends in CLOSING, the dwell latches a close, a
doorway blocked for CURTAIN_MAX ends in OBSTRUCTED, and the reversal wait ends in OPEN where no close is in force.

Each of these rows completes with its own effect on a portal that the member drives, with its engine running and nothing
else to act on: the last part says so on the state before the row alone. -/
def Obligations.CycleLimitsAndCloseTimers : Prop :=
  (
  ∀ (p : Slot) (t0 : Nat),
    let due (limit : Dev → Nat) (d : Dev) : Dev := (d.upTo (d.hkAt (t0 + limit d))).hkPrepare p
    let faults (i : Instr) (limit : Dev → Nat) (runs : Dev → Prop) (pre : Dev → Prop) (cause : Nat) : Prop :=
      completes i (fun d => d.engRun p = true ∧ d.enabled p = true ∧ d.drives p = true ∧ runs d ∧
          (due limit d).portal[p].evaluated = true ∧ (due limit d).roleOn p roIsolate = false
          ∧ (due limit d).portal[p].isoHost = false ∧ (due limit d).portal[p].holdNs = false ∧ pre (due limit d))
        (fun d d' => d'.pst p = psFault ∧ d'.rdF (Reg.PRT_STATE p) 15 8 = cause ∧ d'.now = d.hkAt (t0 + limit d)
          ∧ d'.portal[p].cycOn = false
          ∧ (∀ q : Slot, q ≠ p → d'.portal[q] = d.portal[q] ∧ d'.rd (Reg.PRT_STATE q) = d.rd (Reg.PRT_STATE q)))
    faults (.lockRelMaxExpiry p) (fun d => d.rdF (Reg.PRT_TIME_B p) 7 0 * 2000000)
      (fun d => d.pst p = psUnlocking ∧ d.portal[p].lockAt = some t0)
      (fun e => e.unlockedAll p = false ∧ e.release p = true ∧ e.closeInForce p = false) 2
    ∧ faults (.lockEngMaxExpiry p) (fun d => d.rdF (Reg.PRT_TIME_B p) 15 8 * 2000000)
      (fun d => d.pst p = psLocking ∧ d.portal[p].lockAt = some t0)
      (fun e => e.lockedMade p = false ∧ e.prtB p 27 = false ∧ e.portal[p].lockAt = some t0) 3
    ∧ faults (.openMaxExpiry p) (fun d => d.rdF (Reg.PRT_TIME_C p) 7 0 * 20000000)
      (fun d => d.pst p = psOpening ∧ d.portal[p].enteredAt = t0) (fun _ => True) 4
    ∧ faults (.closeMaxExpiry p) (fun d => d.rdF (Reg.PRT_TIME_C p) 15 8 * 20000000)
      (fun d => d.pst p = psClosing ∧ d.prtB p 21 = false ∧ d.portal[p].enteredAt + d.portal[p].paused = t0)
      (fun _ => True) 5
    ∧ faults (.stepMaxExpiry p) (fun d => d.rdF (Reg.PRT_TIME_B p) 23 16 * 20000000)
      (fun d => d.portal[p].stepAt = some t0 ∧ d.pst p ≠ psFault ∧ d.pst p ≠ psIsolated)
      (fun e => e.activeCause p = 0x0A) 0x0A
    ∧ faults (.qualMaxExpiry p) (fun d => d.rdF (Reg.PRT_TIME_B p) 31 24 * 2000000)
      (fun d => (d.portal[p].quals.filterMap id).min? = some t0 ∧ d.pst p ≠ psFault ∧ d.pst p ≠ psIsolated)
      (fun e => e.activeCause p = 0x0E) 0x0E)
  ∧ (
  ∀ (p : Slot) (t0 : Nat),
    let due (limit : Dev → Nat) (d : Dev) : Dev := (d.upTo (d.hkAt (t0 + limit d))).hkPrepare p
    let leads (i : Instr) (limit : Dev → Nat) (runs : Dev → Prop) (pre : Dev → Prop) (post : Dev → Prop) : Prop :=
      completes i (fun d => d.engRun p = true ∧ d.enabled p = true ∧ d.drives p = true ∧ d.portal[p].cmd = none ∧ runs d ∧
          (due limit d).portal[p].evaluated = true ∧ (due limit d).roleOn p roIsolate = false
          ∧ (due limit d).portal[p].isoHost = false ∧ (due limit d).activeCause p = 0 ∧ pre (due limit d))
        (fun d d' => post d' ∧ d'.now = d.hkAt (t0 + limit d)
          ∧ (∀ q : Slot, q ≠ p → d'.portal[q] = d.portal[q] ∧ d'.rd (Reg.PRT_STATE q) = d.rd (Reg.PRT_STATE q)))
    leads (.warnElapsed p) (fun d => d.rdF (Reg.PRT_TIME_A p) 9 0 * 2000000)
      (fun d => d.pst p = psOpen ∧ d.portal[p].warnAt = some t0)
      (fun e => e.prtB p 20 = false ∧ e.closeInForce p = true ∧ e.doorwayBlocked p = false)
      (fun d' => d'.pst p = psClosing)
    ∧ leads (.dwellCloseExpiry p) (fun d => d.rdF (Reg.PRT_TIME_A p) 25 16 * 200000000)
      (fun d => d.pst p = psOpen ∧ d.portal[p].enteredAt = t0 ∧ d.rdF (Reg.PRT_TIME_A p) 25 16 ≠ 0)
      (fun e => e.prtB p 20 = false ∧ e.tlClose = false)
      (fun d' => d'.portal[p].closeLatch = true ∧ d'.pst p ∈ [psOpen, psClosing, psObstructed])
    ∧ leads (.curtainMaxExpiry p) (fun d => d.rdF (Reg.PRT_TIME_C p) 23 16 * 200000000)
      (fun d => d.pst p = psClosing ∧ d.prtB p 21 = true ∧ d.portal[p].curtAt = some t0 ∧ d.rdF (Reg.PRT_TIME_C p) 23 16 ≠ 0)
      (fun _ => True) (fun d' => d'.pst p = psObstructed)
    ∧ leads (.curtainMaxExpiry p) (fun d => d.rdF (Reg.PRT_TIME_C p) 23 16 * 200000000)
      (fun d => d.pst p = psOpen ∧ d.portal[p].curtAt = some t0 ∧ d.rdF (Reg.PRT_TIME_C p) 23 16 ≠ 0)
      (fun e => e.prtB p 20 = false ∧ e.closeInForce p = true ∧ e.doorwayBlocked p = true)
      (fun d' => d'.pst p = psObstructed)
    ∧ leads (.reversalWaitExpiry p) (fun d => d.rdF (Reg.PRT_OBS_REACT p) 23 16 * 20000000)
      (fun d => d.pst p = psReversing ∧ d.portal[p].waitAt = some t0 ∧ d.portal[p].revMove = false)
      (fun e => e.tlClose = false ∧ e.portal[p].closeLatch = false ∧ (e.rdB (Reg.PRT_CFG p) 10 = true → e.release p = true)
        ∧ e.roleOn p roBtnClose = false)
      (fun d' => d'.pst p = psOpen ∧ d'.rdF (Reg.PRT_STATE p) 26 24 = 0))
  ∧ (
  ∀ (p : Slot) (t0 : Nat),
    let plain (d : Dev) : Prop := d.engRun p = true ∧ d.enabled p = true ∧ d.drives p = true ∧ d.portal[p].cmd = none
      ∧ d.portal[p].evaluated = true ∧ d.roleOn p roIsolate = false ∧ d.portal[p].isoHost = false ∧ d.portal[p].holdNs = false
    let sound (d : Dev) : Prop := d.switchDisagree p = false ∧ (∀ a ∈ d.doorAxes p, d.uncSeen a = false)
      ∧ (∀ n ∈ d.servosOf p, d.rdB (Reg.SAX_STATUS n) 1 = false) ∧ d.roleOn p roEgress = false
      ∧ (∀ b, d.edgeNo p b < 24 → d.snBand (d.edgeNo p b) = 0)
    let settled (d : Dev) : Prop := d.sst p ≠ ssStalled ∧ d.portal[p].stallMark = false ∧ d.portal[p].stepAt = none
    let valid (d : Dev) : Prop := ∀ x ∈ d.invalidInputs p, x = false
    let fault (cause : Nat) (d' : Dev) : Prop := d'.pst p = psFault ∧ d'.rdF (Reg.PRT_STATE p) 15 8 = cause
    let row (i : Instr) (limit : Dev → Nat) (pre post : Dev → Prop) : Prop :=
      completes i (fun d => plain d ∧ pre d) (fun d d' => post d' ∧ d'.now = d.hkAt (t0 + limit d))
    row (.lockRelMaxExpiry p) (fun d => d.rdF (Reg.PRT_TIME_B p) 7 0 * 2000000)
      (fun d => d.pst p = psUnlocking ∧ d.portal[p].lockAt = some t0 ∧ d.unlockedAll p = false ∧ d.release p = true
        ∧ d.closeInForce p = false) (fault 2)
    ∧ row (.lockEngMaxExpiry p) (fun d => d.rdF (Reg.PRT_TIME_B p) 15 8 * 2000000)
      (fun d => d.pst p = psLocking ∧ d.portal[p].lockAt = some t0 ∧ d.lockedMade p = false ∧ d.prtB p 27 = false
        ∧ d.lockShared p = false) (fault 3)
    ∧ row (.openMaxExpiry p) (fun d => d.rdF (Reg.PRT_TIME_C p) 7 0 * 20000000)
      (fun d => d.pst p = psOpening ∧ d.portal[p].enteredAt = t0) (fault 4)
    ∧ row (.closeMaxExpiry p) (fun d => d.rdF (Reg.PRT_TIME_C p) 15 8 * 20000000)
      (fun d => d.pst p = psClosing ∧ d.prtB p 21 = false ∧ d.portal[p].enteredAt + d.portal[p].paused = t0) (fault 5)
    ∧ (∀ n : Stx, row (.stepMaxExpiry p) (fun d => d.rdF (Reg.PRT_TIME_B p) 23 16 * 20000000)
      (fun d => d.pst p = psOpen ∧ sound d ∧ d.portal[p].stepAt = some t0 ∧ d.stepAx p = some n ∧ d.axisQuiet (Stx.axis n) = false
        ∧ (d.sst p = ssExtending ∨ d.sst p = ssRetracting)) (fault 0x0A))
    ∧ row (.qualMaxExpiry p) (fun d => d.rdF (Reg.PRT_TIME_B p) 31 24 * 2000000)
      (fun d => d.pst p = psOpen ∧ sound d ∧ settled d ∧ (d.portal[p].quals.filterMap id).min? = some t0
        ∧ ∃ k : Nat, d.portal[p].quals[k]? = some (some t0) ∧ (d.invalidInputs p)[k]? = some true) (fault 0x0E)
    ∧ row (.warnElapsed p) (fun d => d.rdF (Reg.PRT_TIME_A p) 9 0 * 2000000)
      (fun d => d.pst p = psOpen ∧ sound d ∧ settled d ∧ valid d ∧ d.portal[p].warnAt = some t0 ∧ d.prtB p 20 = false
        ∧ d.closeInForce p = true ∧ d.curtainBlocked p = false) (fun d' => d'.pst p = psClosing)
    ∧ row (.dwellCloseExpiry p) (fun d => d.rdF (Reg.PRT_TIME_A p) 25 16 * 200000000)
      (fun d => d.pst p = psOpen ∧ sound d ∧ settled d ∧ valid d ∧ d.portal[p].enteredAt = t0
        ∧ d.rdF (Reg.PRT_TIME_A p) 25 16 ≠ 0 ∧ d.prtB p 20 = false ∧ d.tlClose = false)
      (fun d' => d'.portal[p].closeLatch = true ∧ d'.pst p ∈ [psOpen, psClosing, psObstructed])
    ∧ row (.curtainMaxExpiry p) (fun d => d.rdF (Reg.PRT_TIME_C p) 23 16 * 200000000)
      (fun d => d.pst p = psClosing ∧ sound d ∧ settled d ∧ valid d ∧ d.prtB p 21 = true ∧ d.portal[p].curtAt = some t0
        ∧ d.rdF (Reg.PRT_TIME_C p) 23 16 ≠ 0) (fun d' => d'.pst p = psObstructed)
    ∧ row (.reversalWaitExpiry p) (fun d => d.rdF (Reg.PRT_OBS_REACT p) 23 16 * 20000000)
      (fun d => d.pst p = psReversing ∧ sound d ∧ settled d ∧ valid d ∧ d.portal[p].waitAt = some t0 ∧ d.portal[p].revMove = false
        ∧ d.tlClose = false ∧ d.portal[p].closeLatch = false ∧ (d.rdB (Reg.PRT_CFG p) 10 = true → d.release p = true)
        ∧ d.roleOn p roBtnClose = false) (fun d' => d'.pst p = psOpen ∧ d'.rdF (Reg.PRT_STATE p) 26 24 = 0))

/-- The door is secured (R46), and only then does LOCKING end: every fitted CLOSED input made, every fitted LOCKED input
made or the feed shared, every referenced door axis within CLOSED_WIN, and the step retracted where fitted.

LOOP_OK (R75): a locked and valid map, and every enabled slot made or isolated: closed 1, closed 2 where fitted, locked
1, locked 2 where fitted, and step retracted where fitted. Without a map LOOP_OK is false. -/
def Obligations.SecuredAndLoopOkFormulas : Prop :=
  (
  ∀ (d : Dev) (p : Slot),
    (d.secured p = true ↔
      (∀ r ∈ [roClosed1, roClosed2], d.fit p r = true → d.roleOn p r = true)
      ∧ (d.prtB p 27 = true ∨ ∀ r ∈ [roLocked1, roLocked2], d.fit p r = true → d.roleOn p r = true)
      ∧ (∀ n ∈ d.servosOf p, d.refValid (Sax.axis n) = true →
          |d.fromClosed (Sax.axis n)| * 10 ≤ d.rdF (Reg.PRT_CFG p) 19 12)
      ∧ (d.stepFitted p = true → d.roleOn p roStepRet = true))
    ∧ (d.pst p = psLocking → d.secured p = false → ∀ src, (d.transition p src).pst p = psLocking))
  ∧ (
  (∀ d : Dev, d.ilk.map = none → d.loopOk = false)
  ∧ (∀ (d : Dev) (m : IlkMap), d.ilk.map = some m →
      (d.loopOk = true ↔ d.rdB Reg.ILK_STATUS 30 = true ∧ ∀ s ∈ m.slots, s.en = true →
        (s.isoExcl = true ∧ d.made s.isolate = true)
        ∨ (∀ b ∈ [s.closed1, s.closed2, s.locked1, s.locked2], b % 128 < 96 → d.made b = true)
          ∧ (s.stepRet % 128 ≠ 127 → d.made s.stepRet = true))))

/-- A cycle ends (R63, R65): CYCLES advances, saturating, the cycle is over, its accumulators are cleared, and the record
asked for carries the result: 12h in FAULT with an emergency egress active, 13h after a power loss, 10h in FAULT, 11h in ISOLATED,
02h after an obstruction, 01h after a reversal, 03h by rule 7, 00h otherwise. -/
def Obligations.CycleEnds : Prop :=
  ∀ (d : Dev) (p : Slot) (loss : Bool),
    (d.portal[p].cycOn = true →
      let d' := d.cycleEnd p loss
      d'.rd (Reg.PRT_CYCLES p) = wn (min (2 ^ 32 - 1) ((d.rd (Reg.PRT_CYCLES p)).toNat + 1))
      ∧ d'.portal[p].cycOn = false ∧ d'.portal[p].acc = {} ∧ (∀ i, i < 12 → d'.rd (Reg.PRT_CYCLE_ACC p i) = 0)
      ∧ (∀ q : Slot, q ≠ p → d'.portal[q] = d.portal[q]))
    ∧ (d.portal[p].cycOn = false → d.cycleEnd p loss = d)
    ∧ d.cycleResult p loss =
        (if d.pst p = psFault ∧ loss = false ∧ d.roleOn p roEgress = true then 0x12 else if loss = true then 0x13
         else if d.pst p = psFault then 0x10 else if d.pst p = psIsolated then 0x11
         else if d.portal[p].acc.flags % 2 = 1 then 2 else if d.portal[p].acc.reversals ≠ 0 then 1
         else if d.portal[p].acc.rule7 = true then 3 else 0)

/-- A train-line channel takes the level that its samples, 10 µs apart and newest first, have shown for TL_DEB without a
break, and no other (R69, R70, R71), and none in the sag state or by samples from before its end (R268): the pair's state follows its two channels, DISCREPANT is left only with both absent,
the permissions follow the pairs, and every other pair stands. TL_OVRD shows in STATUS. Beside the interlock only the
switch channels can change. -/
def Obligations.TrainLineChannels : Prop :=
  ∀ (t : Nat) (ch : Fin 9) (lvl : Bool) (before : List Bool),
    let samples := lvl :: before
    let shown : Nat := 2000 * (before.takeWhile (fun v => v == lvl)).length
    let news (d : Dev) : Prop := d.ilk.tlLvl.getD ch false ≠ lvl ∨ d.ilk.tlQual.getD ch false = false
    completes (.tlChannelAccept t ch samples)
      (fun d => shown < 200000 * d.rdF Reg.ILK_CFG 7 0 ∨ ¬news d ∨ d.fio.sag = true
        ∨ (d.fio.sagEnd ≠ 0 ∧ max d.now t ≤ d.fio.sagEnd + 200000 * d.rdF Reg.ILK_CFG 7 0))
      (fun d d' => d.changesSilently d' [.time] [])
    ∧ completes (.tlChannelAccept t ch samples)
      (fun d => 200000 * d.rdF Reg.ILK_CFG 7 0 ≤ shown ∧ news d
        ∧ d.fio.sag = false ∧ (d.fio.sagEnd = 0 ∨ d.fio.sagEnd + 2000 * before.length < max d.now t)
        ∧ d.ilk.tlLvl.length = 9 ∧ d.ilk.tlQual.length = 9 ∧ d.ilk.pairs.length = 4) fun d d' =>
      let i := ch.val / 2
      let here (k : Nat) : Bool := d'.ilk.tlLvl.getD k false && d'.ilk.tlQual.getD k false
      d'.ilk.tlLvl = d.ilk.tlLvl.set ch lvl ∧ d'.ilk.tlQual = d.ilk.tlQual.set ch true
      ∧ (ch.val < 8 →
          (here (2 * i) = false → here (2 * i + 1) = false → d'.pair i = .absent)
          ∧ (here (2 * i) = true → here (2 * i + 1) = true →
              d'.pair i = if d.pair i = .discrepant then .discrepant else .present)
          ∧ (here (2 * i) ≠ here (2 * i + 1) →
              d'.pair i = if d.pair i = .discrepant then .discrepant else .transit)
          ∧ (∀ j, j ≠ i → d'.pair j = d.pair j)
          ∧ (d'.pair i ≠ d.pair i →
              d'.rdB Reg.ILK_STATUS 0 = decide (d'.pair 2 = .present)
              ∧ d'.rdB Reg.ILK_STATUS 2 = decide (d'.pair 0 = .present ∧ d'.pair 2 = .present)
              ∧ d'.rdB Reg.ILK_STATUS 3 = decide (d'.pair 1 = .present ∧ d'.pair 2 = .present)
              ∧ d'.rdB Reg.ILK_FLAGS 0 = true))
      ∧ (ch.val = 8 → d'.rdB Reg.ILK_STATUS 25 = lvl ∧ d'.ilk.pairs = d.ilk.pairs)
      ∧ d.changes d' [.ilk, .fio, .time] (Reg.ILK_TL_RAW :: Reg.ILK_FLAGS :: switchRegs)

/-- The discrepancy time and the loop's confirm intervals (R70, R73, R77, R78, R435): a pair in TRANSIT turns DISCREPANT;
a readback level that two samples agree on starts and stops the confirm intervals; DLP_KILL operates when its interval ends; LOOP_OPEN and
LOCK_BACKFEED are reported; a loop driver turns off in its current limit and is retried while HOLD is true.

A map input whose quality has been invalid for 20 ms counts as not made (R75, R76): INPUT_STALE is set, and LOOP_OK
and HOLD follow at once. -/
def Obligations.DoorLoopTimersAndStaleInputs : Prop :=
  (
  (∀ (i : Fin 4) (t0 : Nat), completes (.tlDiscExpiry i)
      (fun d => d.ilk.pairs.length = 4 ∧ d.ilk.discAt.getD i none = some t0) fun d d' =>
      d'.pair i = .discrepant ∧ (∀ j, j ≠ i.val → d'.pair j = d.pair j) ∧ d'.rdB Reg.ILK_FLAGS 1 = true
      ∧ d'.now = max d.now (t0 + d.rdF Reg.ILK_CFG 15 8 * 2000000)
      ∧ d.changes d' [.ilk, .fio, .time] (Reg.ILK_FLAGS :: switchRegs))
  ∧ (∀ (t : Nat) (lvl : Bool), completes (.dlpRbChange t lvl lvl) (fun _ => True) fun d d' =>
      d'.ilk.rb = lvl ∧ d'.rdB Reg.ILK_STATUS 28 = lvl
      ∧ d'.ilk.killAt.isSome = (lvl && !d.rdB Reg.ILK_STATUS 26 && !d.ilk.kill && d.time.xtalOk)
      ∧ d'.ilk.openAt.isSome = (d.rdB Reg.ILK_STATUS 27 && d.rdB Reg.ILK_STATUS 26 && !lvl)
      ∧ d.changesSilently d' [.ilk, .time] [Reg.ILK_STATUS])
  ∧ (∀ (t : Nat) (lvl : Bool), completes (.dlpRbChange t (!lvl) lvl) (fun _ => True) fun d d' =>
      d.changesSilently d' [.time] [])
  ∧ (∀ t0 : Nat, completes .killConfirmExpiry (fun d => d.ilk.killAt = some t0) fun d d' =>
      d'.ilk.kill = true ∧ d'.ilk.killAt = none ∧ d'.rdB Reg.ILK_STATUS 29 = true ∧ d'.rdB Reg.ILK_FLAGS 4 = true
      ∧ d'.now = max d.now (t0 + d.rdF Reg.ILK_CFG 23 16 * 20000)
      ∧ d.changes d' [.ilk, .time] [Reg.ILK_STATUS, Reg.ILK_FLAGS])
  ∧ (∀ t0 : Nat, completes .loopOpen (fun d => d.ilk.openAt = some t0) fun d d' =>
      d'.ilk.openAt = none ∧ d'.rdB Reg.ILK_FLAGS 3 = true
      ∧ d'.now = max d.now (t0 + d.rdF Reg.ILK_CFG 23 16 * 20000)
      ∧ d.changes d' [.ilk, .time] [Reg.ILK_FLAGS])
  ∧ (∀ k : Fin 8, completes (.lockBackfeed k)
      (fun d => let c : Ch := ⟨40 + k.val, by omega⟩
        d.lockClass c = true ∧ d.perm (d.lockSide c == 2) = false ∧ d.fio.hs[c].diag = 5) fun d d' =>
      d'.rdB Reg.ILK_FLAGS 6 = true ∧ d.changes d' [.ilk, .time] [Reg.ILK_FLAGS])
  ∧ completes .loopDriverLimitOff (fun _ => True) (fun d d' =>
      d'.ilk.limA = true ∧ d.changesSilently d' [.ilk] [])
  ∧ completes .loopDriverRetry (fun _ => True) (fun d d' =>
      d'.ilk.limA = (d.ilk.limA && !d.rdB Reg.ILK_STATUS 27) ∧ d.changesSilently d' [.ilk] []))
  ∧ (
  ∀ (i : Din) (m : IlkMap), completes (.inputStale i)
    (fun d => d.ilk.map = some m ∧ i.val ∈ m.dins ∧ d.fio.dins[i].inv = true ∧ i.val ∉ d.ilk.stale) fun d d' =>
    d'.ilk.stale = i.val :: d.ilk.stale ∧ d'.rdB Reg.ILK_FLAGS 11 = true
    ∧ (∀ b, b % 128 = i.val → d'.made b = false)
    ∧ d'.rdB Reg.ILK_STATUS 26 = d'.loopOk ∧ d'.rdB Reg.ILK_STATUS 27 = (d'.loopOk && d.time.xtalOk)
    ∧ (d'.rdB Reg.ILK_STATUS 26 ≠ d.rdB Reg.ILK_STATUS 26 → d'.rdB Reg.ILK_FLAGS 2 = true)
    ∧ d'.now = max d.now (d.fio.dins[i].invAt + 4000000)
    ∧ d.changes d' [.ilk, .time] [Reg.ILK_STATUS, Reg.ILK_FLAGS])

/-- PUSH and RETARGET on an axis that takes them (R102, R105, R120): PUSH appends the entry and LEDGER_CMD advances by the
displacement it commands; RETARGET leaves the new entry alone in the queue and reports the residual. An entry with
COORD commands the swing axis too. No axis beside the two changes.

Refusal of motion commands (R96, R102, R121): a member that does not drive the portal, a portal whose engine is
stopped, and a ninth write of a position period leave the generator as it is and set CMD_ERR; an axis that is not
enabled refuses a PUSH with Q_ERR and any other with CMD_ERR; so does a full queue of eight a PUSH. -/
def Obligations.MovesQueuedOrRefused : Prop :=
  (
  ∀ (a : Axis) (tgt attr tgt2 : Word),
    let goal : Int := 256 * tgt.toInt + fld attr 7 0
    let goal2 : Int := 256 * tgt2.toInt
    let entry : Entry := ⟨goal, fld attr 16 8, bit attr 17, bit attr 18, goal2, none, false⟩
    let queued (d : Dev) : List Entry := d.mot[a].queue.map (fun e => { e with clamp := false })
    let ready (d : Dev) : Prop := d.hostUp = true ∧ d.drivesAx a = true ∧ d.mcmdDead a = false ∧ d.mot[a].mcmdCnt < 8
      ∧ d.axEn a = true ∧ d.follow a = false ∧ d.mot[a].slaveOf = none ∧ d.mot[a].home = .idle ∧ fld attr 16 8 ≠ 0
      ∧ d.limitsSet a = true ∧ d.mot[a].silenced = false ∧ d.mot[a].alignDue = false
      ∧ (bit attr 18 = true → d.coordOk a = true ∧ d.swingOf a ≠ some a)
    let old (d : Dev) : List Entry := queued (d.profileDone a)
    let beside (d d' : Dev) : Prop := (∀ x : Axis, x ≠ a → d.swingOf a ≠ some x → d'.mot[x] = d.mot[x])
      ∧ d.changes d' [.mot, .stepd, .cvn] (motionPage a ++ (d.swingOf a).toList.flatMap motionPage
          ++ (stxOf a).toList.map (fun n => Reg.STX_STATUS n))
    completes (.push a tgt attr tgt2) (fun d => ready d ∧ (old d).length < 8) (fun d d' =>
      queued d' = old d ++ [entry] ∧ d'.mot[a].lastTgt = goal
      ∧ d'.rd (Reg.MOT_LEDGER_CMD a) = d.rd (Reg.MOT_LEDGER_CMD a) + BitVec.ofInt 32 (goal - d.mot[a].lastTgt)
      ∧ d'.rd (Reg.MOT_MV_TGT a) = tgt ∧ d'.rd (Reg.MOT_MV_TGT2 a) = tgt2
      ∧ (∀ w, bit attr 18 = true → d.swingOf a = some w → d'.mot[w].lastTgt = goal2)
      ∧ beside d d')
    ∧ completes (.retarget a tgt attr tgt2) ready (fun d d' =>
      queued d' = [entry] ∧ d'.mot[a].lastTgt = goal
      ∧ d'.rd (Reg.MOT_LAST_RES a) = BitVec.ofInt 32 (d.mot[a].lastTgt - goal)
      ∧ d'.rdB (Reg.MOT_MFLAGS a) 13 = true
      ∧ (∀ w, bit attr 18 = true → d.swingOf a = some w → d'.mot[w].lastTgt = goal2)
      ∧ beside d d'))
  ∧ (
  ∀ (a : Axis) (tgt attr tgt2 : Word),
    let kept (d d' : Dev) (b : Nat) : Prop := d'.rdB (Reg.MOT_MFLAGS a) b = true
      ∧ (∀ x : Axis, d'.mot[x].queue = d.mot[x].queue ∧ d'.mot[x].lastTgt = d.mot[x].lastTgt ∧ d'.mot[x].sp = d.mot[x].sp
          ∧ d'.mot[x].segs = d.mot[x].segs ∧ d'.mot[x].home = d.mot[x].home)
      ∧ d.changes d' [.mot, .cvn]
          [Reg.MOT_MFLAGS a, Reg.MOT_MV_TGT a, Reg.MOT_MV_ATTR a, Reg.MOT_MV_TGT2 a]
    let shut (d : Dev) : Prop := d.drivesAx a = false ∨ d.mcmdDead a = true ∨ 8 ≤ d.mot[a].mcmdCnt
    (∀ i ∈ [Instr.push a tgt attr tgt2, .retarget a tgt attr tgt2, .stop a, .qstop a, .halt a, .realign a, .home a],
      completes i (fun d => d.hostUp = true ∧ shut d) fun d d' => kept d d' 19)
    ∧ (∀ i ∈ [Instr.retarget a tgt attr tgt2, .stop a, .qstop a, .halt a, .realign a, .home a],
      completes i (fun d => d.hostUp = true ∧ ¬shut d ∧ d.axEn a = false) fun d d' => kept d d' 19)
    ∧ completes (.push a tgt attr tgt2) (fun d => d.hostUp = true ∧ ¬shut d ∧ d.axEn a = false) (fun d d' => kept d d' 12)
    ∧ completes (.push a tgt attr tgt2) (fun d => d.hostUp = true ∧ ¬shut d ∧ d.axEn a = true ∧ d.mot[a].alignDue = false
        ∧ d.mot[a].segs ≠ [] ∧ 8 ≤ d.mot[a].queue.length) (fun d d' => kept d d' 12)
    ∧ (a.val < 16 → ∀ i ∈ [Instr.halt a, .home a],
        completes i (fun d => d.hostUp = true ∧ ¬shut d ∧ d.axEn a = true ∧ d.mot[a].alignDue = false) fun d d' => kept d d' 19))

/-- STOP and QSTOP (R106): the queue is emptied, the axis runs down to rest (QSTOP under STOP_A and STOP_J), and the
residual is the old last target less the rest position. HALT (R205) stops a step axis at once, at its issued count.

The end of a plan (R92), REALIGN (R93, R119) and the compares (R111, R113): at a plan's end the set-point is the last
target exactly; REALIGN puts the set-point at the axis position with the ledger at zero; arming a compare is refused,
missed, live or waiting. -/
def Obligations.AxesStopAndAlign : Prop :=
  (
  ∀ a : Axis,
    let may (d : Dev) : Prop := d.hostUp = true ∧ d.drivesAx a = true ∧ d.mcmdDead a = false ∧ d.mot[a].mcmdCnt < 8
      ∧ d.axEn a = true ∧ d.mot[a].alignDue = false ∧ d.mot[a].home = .idle ∧ d.swingOf a ≠ some a
    let stops (quick : Bool) (d d' : Dev) : Prop :=
      d'.mot[a].queue = [] ∧ d'.mot[a].quick = quick ∧ d'.mot[a].slaveOf = none
      ∧ d'.rd (Reg.MOT_LAST_RES a) = BitVec.ofInt 32 (d.mot[a].lastTgt - d'.mot[a].lastTgt)
      ∧ d'.rdB (Reg.MOT_MFLAGS a) 13 = true
      ∧ d'.rd (Reg.MOT_LEDGER_RES a) = d.rd (Reg.MOT_LEDGER_RES a) + BitVec.ofInt 32 (d.mot[a].lastTgt - d'.mot[a].lastTgt)
      ∧ (∀ x : Axis, x ≠ a → d.swingOf a ≠ some x → d'.mot[x] = d.mot[x])
      ∧ d.changes d' [.mot, .cvn] (motionPage a ++ (d.swingOf a).toList.flatMap motionPage)
    completes (.stop a) (fun d => may d ∧ d.mot[a].busy = true) (stops false)
    ∧ completes (.qstop a) (fun d => may d ∧ d.mot[a].busy = true) (stops true)
    ∧ (∀ n : Stx, a = Stx.axis n → completes (.halt a) may fun d d' =>
        d'.rdB (Reg.STX_STATUS n) 2 = true ∧ d'.rdB (Reg.STX_FLAGS n) 6 = true
        ∧ (d.mot[a].busy = true → d'.mot[a].queue = [] ∧ d'.mot[a].running = false ∧ d'.mot[a].v = 0
            ∧ d'.mot[a].sp = 256 * d'.posInt a)
        ∧ (d.mot[a].busy = false → d'.mot[a].sp = d.mot[a].sp)
        ∧ d.changes d' [.mot, .stepd, .cvn] (motionPage a ++ (d.swingOf a).toList.flatMap motionPage
            ++ [Reg.STX_STATUS n, Reg.STX_FLAGS n, Reg.STX_STEPS_ISSUED n, Reg.STX_REF_AB n 0, Reg.STX_REF_AB n 1])))
  ∧ (
  ∀ a : Axis,
    completes (.profileEnd a) (fun d => d.mot[a].running = true ∧ d.mot[a].segs = []
        ∧ (d.follow a = true → d.mot[a].queue = [] → d.mot[a].home ≠ .idle)) (fun d d' =>
      d'.mot[a].sp = d.mot[a].lastTgt ∧ d'.mot[a].running = false ∧ d'.mot[a].v = 0 ∧ d'.mot[a].a = 0
      ∧ (d.mot[a].slaveOf = none → d'.mot[a].queue = [])
      ∧ d'.rd (Reg.MOT_LEDGER_EXE a)
          = d.rd (Reg.MOT_LEDGER_EXE a) + BitVec.ofInt 32 (d.mot[a].lastTgt - d.mot[a].sp)
      ∧ d'.now = max d.now (d.time.periodStart + d.posT)
      ∧ (∀ x : Axis, x ≠ a → d'.mot[x] = d.mot[x]) ∧ d.changesSilently d' [.mot, .time] (motionPage a))
    ∧ completes (.realign a) (fun d => d.hostUp = true ∧ d.drivesAx a = true ∧ d.mcmdDead a = false ∧ d.mot[a].mcmdCnt < 8
        ∧ d.axEn a = true ∧ d.mot[a].alignDue = false ∧ (d.mot[a].silenced = true ∨ d.mot[a].busy = false ∧ d.mot[a].home = .idle)) (fun d d' =>
      d'.mot[a].sp = 256 * d.posInt a ∧ d'.mot[a].lastTgt = 256 * d.posInt a ∧ d'.mot[a].queue = []
      ∧ d'.mot[a].silenced = false ∧ d'.rd (Reg.MOT_LEDGER_CMD a) = 0 ∧ d'.rd (Reg.MOT_LEDGER_EXE a) = 0
      ∧ d'.rd (Reg.MOT_LEDGER_RES a) = 0 ∧ d'.rdB (Reg.MOT_MFLAGS a) 14 = true
      ∧ (∀ x : Axis, x ≠ a → d'.mot[x] = d.mot[x])
      ∧ d.changes d' [.mot, .stepd, .cvn] (motionPage a
          ++ (stxOf a).toList.flatMap (fun n => [Reg.STX_STATUS n, Reg.STX_STEPS_ISSUED n])))
    ∧ (∀ i : Fin 4,
        let ctrl := Reg.MOT_CMP_CTRL a i
        let src (d : Dev) : Int := if d.cmpSrc a i then d.mot[a].sp else 256 * d.posInt a
        let speed (d : Dev) : Rat := if d.cmpSrc a i then d.mot[a].v else (d.rd (Reg.ENC_SPEED a)).toInt
        let frame (d d' : Dev) : Prop := d.changes d' [.mot] [ctrl, Reg.MOT_MFLAGS a]
        completes (.compareArm a i false) (fun d => d.hostUp = true) (fun d d' =>
          d'.rdB ctrl 15 = false ∧ d'.rdB ctrl 7 = false ∧ frame d d')
        ∧ completes (.compareArm a i true) (fun d => d.hostUp = true ∧ d.cmpArmFails a i = true ∧ i.val ∉ d.mot[a].cmpArm)
          (fun d d' => d'.rdB ctrl 15 = false ∧ d'.rdB (Reg.MOT_MFLAGS a) 19 = true ∧ frame d d')
        ∧ completes (.compareArm a i true) (fun d => d.hostUp = true ∧ d.cmpArmFails a i = false ∧ d.cmpDir a i = 1)
          (fun d d' => frame d d' ∧
            (src d < d.cmpPos a i → d'.rdB ctrl 15 = true ∧ d'.rdB ctrl 7 = false)
            ∧ (d.cmpPos a i ≤ src d → speed d ≤ 0 → d'.rdB ctrl 15 = true ∧ d'.rdB ctrl 7 = true)
            ∧ (d.cmpPos a i ≤ src d → 0 < speed d → d'.rdB ctrl 15 = false ∧ d'.rdB (Reg.MOT_MFLAGS a) (4 + i) = true))
        ∧ completes (.compareArm a i true) (fun d => d.hostUp = true ∧ d.cmpArmFails a i = false ∧ d.cmpDir a i = 2)
          (fun d d' => frame d d' ∧
            (d.cmpPos a i < src d → d'.rdB ctrl 15 = true ∧ d'.rdB ctrl 7 = false)
            ∧ (src d ≤ d.cmpPos a i → 0 ≤ speed d → d'.rdB ctrl 15 = true ∧ d'.rdB ctrl 7 = true)
            ∧ (src d ≤ d.cmpPos a i → speed d < 0 → d'.rdB ctrl 15 = false ∧ d'.rdB (Reg.MOT_MFLAGS a) (4 + i) = true))
        ∧ completes (.compareArm a i true) (fun d => d.hostUp = true ∧ d.cmpArmFails a i = false ∧ d.cmpDir a i = 0)
          (fun d d' => frame d d' ∧ d'.rdB ctrl 15 = true)
        ∧ completes (.compareArm a i true) (fun d => d.hostUp = true ∧ d.cmpArmFails a i = false ∧ d.cmpDir a i = 3)
          (fun d d' => frame d d' ∧
            (src d ≠ d.cmpPos a i → d'.rdB ctrl 15 = true ∧ d'.rdB ctrl 7 = false)
            ∧ (src d = d.cmpPos a i → d'.rdB ctrl 15 = false ∧ d'.rdB (Reg.MOT_MFLAGS a) (4 + i) = true))))

/-- The position latch (R114, R115): arming writes one bit; an edge seen in an earlier snapshot is latched at a position
tick with the position at its stamp and the stamp's time; the arm, and with it every later edge, is used up unless the
latch is continuous; with REBASE the frame moves so that the latched point reads LATCH_REF; a reference close whose axes
have all latched leaves REF_NEEDED clear.

Homing of a step axis (R116): HOME seeks the retracted switch, or backs off from it; each step ends as its row says,
with HOME_ERR 1 (no switch within HOME_MAX), 2 (still made after backing off) or 3 (not found again), and the sequence
ends with HOME_DONE and a certain position. -/
def Obligations.LatchesAndHoming : Prop :=
  (
  ∀ a : Axis,
    (∀ on, completes (.latchArm a on) (fun d => d.hostUp = true) fun d d' =>
      d'.rdB (Reg.MOT_LATCH_CFG a) 15 = on
      ∧ (∀ i, i < 15 → d'.rdB (Reg.MOT_LATCH_CFG a) i = d.rdB (Reg.MOT_LATCH_CFG a) i)
      ∧ d.changesSilently d' [] [Reg.MOT_LATCH_CFG a])
    ∧ (∀ (l : LatchPend) (rest : List LatchPend) (t : Nat),
        let due (d : Dev) : Prop := d.mot[a].latch = l :: rest ∧ l.seenAt = some t ∧ t < d.time.periodStart
        let latched (d d' : Dev) : Prop :=
          d'.mot[a].latch = (if d.rdB (Reg.MOT_LATCH_CFG a) 14 || d.mot[a].home != .idle then rest else [])
          ∧ d'.rd (Reg.MOT_LATCH_POS a) = BitVec.ofInt 32 (latchAt l.stamp d.mot[a].hist).1
          ∧ d'.rd (Reg.MOT_LATCH_TIME a) = d.stampAt l.stamp ∧ d'.rdB (Reg.MOT_MFLAGS a) 15 = true
          ∧ d.changes d' [.mot, .snap] (motionPage a ++ (d.portalOf a).toList.map (fun p => Reg.PRT_STATE p))
        completes (.latchReady a) (fun d => due d ∧ d.mot[a].home ≠ .approach) (fun d d' =>
          latched d d' ∧ d'.rdB (Reg.MOT_MSTAT a) 8 = true
          ∧ d'.rdB (Reg.MOT_LATCH_CFG a) 15
              = (d.rdB (Reg.MOT_LATCH_CFG a) 14 && d.rdB (Reg.MOT_LATCH_CFG a) 15)
          ∧ d'.rd (Reg.MOT_POS_OFFSET a) = d.rd (Reg.MOT_POS_OFFSET a)
              + (if d.rdB (Reg.MOT_MCFG a) 3 then d.rd (Reg.MOT_LATCH_REF a) - d'.rd (Reg.MOT_LATCH_POS a) else 0)
          ∧ (∀ p, d.mot[a].refDue = true → d.portalOf a = some p →
              (∀ n ∈ d.servosOf p, Sax.axis n ≠ a → d.mot[Sax.axis n].refDue = false) → d'.rdB (Reg.PRT_STATE p) 19 = false))
        ∧ completes (.latchReady a) (fun d => due d ∧ d.mot[a].home = .approach ∧ l.made = true) (fun d d' =>
          latched d d' ∧ d'.mot[a].home = .approachStop ∧ d'.mot[a].queue = [])))
  ∧ (
  ∀ n : Stx,
    let a := Stx.axis n
    let r (d : Dev) (x : Nat) : Int := (d.rd x).toNat
    let fails (err : Nat) (d' : Dev) : Prop := d'.mot[a].home = .idle ∧ d'.rdF (Reg.MOT_MSTAT a) 12 11 = err
      ∧ d'.rdB (Reg.MOT_MFLAGS a) 18 = true
    let at' (st : HomeStep) (d : Dev) : Prop := d.mot[a].home = st ∧ d.mot[a].segs = []
    let completes := fun i pre (post : Dev → Dev → Prop) => Machine.completes i pre (fun d d' =>
      post d d' ∧ (∀ x : Axis, x ≠ a → d'.mot[x] = d.mot[x])
        ∧ d.changes d' [.mot, .snap, .stepd, .cvn, .time] (motionPage a ++ [Reg.STX_STATUS n, Reg.STX_STEPS_ISSUED n]))
    completes (.home a) (fun d => d.hostUp = true ∧ d.drivesAx a = true ∧ d.mcmdDead a = false ∧ d.mot[a].mcmdCnt < 8
        ∧ d.axEn a = true ∧ d.mot[a].alignDue = false ∧ (d.profileDone a).mot[a].busy = false ∧ d.mot[a].home = .idle ∧ d.mot[a].silenced = false
        ∧ d.mot[a].slaveOf = none ∧ d.rdF (Reg.MOT_LATCH_CFG a) 6 0 < 96
        ∧ (∀ p, d.portalOf a = some p → d.rdF (Reg.MOT_LATCH_CFG a) 6 0 = d.rdF (Reg.PRT_INPUT_MAP p 1) 14 8)
        ∧ r d (Reg.MOT_HOME_SEEK_V a) ≠ 0 ∧ r d (Reg.MOT_HOME_CREEP_V a) ≠ 0 ∧ r d (Reg.MOT_HOME_BACKOFF a) ≠ 0
        ∧ r d (Reg.MOT_HOME_MAX a) ≠ 0) (fun d d' =>
      let sp := (d.profileDone a).mot[a].sp
      (d.retMade a = true → d'.mot[a].home = .backOff
        ∧ d'.mot[a].lastTgt = sp - d.retSign a * 256 * r d (Reg.MOT_HOME_BACKOFF a))
      ∧ (d.retMade a = false → d'.mot[a].home = .seek
        ∧ d'.mot[a].lastTgt = sp + d.retSign a * 256 * r d (Reg.MOT_HOME_MAX a)))
    ∧ completes (.homeStepComplete a) (fun d => d.mot[a].home = .seek ∧ d.retMade a = true) (fun _ d' =>
      d'.mot[a].home = .seekStop ∧ d'.mot[a].queue = [])
    ∧ completes (.homeStepComplete a) (fun d => at' .seek d ∧ d.retMade a = false) (fun _ d' => fails 1 d')
    ∧ completes (.homeStepComplete a) (at' .seekStop) (fun d d' => d'.mot[a].home = .backOff
      ∧ d'.mot[a].lastTgt = d.mot[a].lastTgt - d.retSign a * 256 * r d (Reg.MOT_HOME_BACKOFF a))
    ∧ completes (.homeStepComplete a) (fun d => at' .backOff d ∧ d.retMade a = true) (fun _ d' => fails 2 d')
    ∧ completes (.homeStepComplete a) (fun d => at' .backOff d ∧ d.retMade a = false) (fun d d' =>
      d'.mot[a].home = .approach
      ∧ d'.mot[a].lastTgt = d.mot[a].lastTgt + d.retSign a * 512 * r d (Reg.MOT_HOME_BACKOFF a))
    ∧ completes (.homeStepComplete a) (at' .approach) (fun _ d' => fails 3 d')
    ∧ completes (.homeStepComplete a) (at' .approachStop) (fun d d' => d'.mot[a].home = .park
      ∧ d'.rd (Reg.MOT_POS_OFFSET a) = d.rd (Reg.MOT_POS_OFFSET a) - d.rd (Reg.MOT_LATCH_POS a)
      ∧ d'.mot[a].lastTgt = d.retSign a * 256 * r d (Reg.MOT_RET_DEPTH a))
    ∧ completes (.homeStepComplete a) (at' .park) (fun _ d' => d'.mot[a].home = .idle
      ∧ d'.rdB (Reg.MOT_MFLAGS a) 17 = true ∧ d'.rdB (Reg.MOT_MSTAT a) 7 = false))

/-- The quadrature decoder at one sample (R123, R124, R126 to R128): a line's level is that of its _P wire, or the one
before where the two wires agree; the decoder takes a level that 1 + FILT samples have shown. The accepted AB steps
through 00, 10, 11, 01; one step forward counts +1, one back −1 (exchanged by DIR_INV), none leaves the count, and two
steps are illegal: the count holds, the total counts, the speed measurement restarts and, above a window count of
ILL_LIMIT, ILL_TRIP is set. A sample at or after the awaited strobe instant belongs to the tick after it, and in DORMANT
none is taken. -/
def Obligations.QuadratureDecoder : Prop :=
  ∀ (c : Enc) (t : Nat) (s : EncSample),
  completes (.encoderTransition c t [s]) (fun d => d.pwr.st = .dormant) (fun d d' => d.changesSilently d' [.time] [])
  ∧ completes (.encoderTransition c t [s])
    (fun d => d.pwr.st ≠ .dormant ∧ d.ticking = true ∧ d.time.nextValley ≤ t) (fun d d' =>
      d'.enc[c] = { d.enc[c] with held := d.enc[c].held ++ [.sample t s] } ∧ (∀ x : Enc, x ≠ c → d'.enc[x] = d.enc[x])
      ∧ d.changesSilently d' [.enc, .time] [])
  ∧ completes (.encoderTransition c t [s])
    (fun d => d.pwr.st ≠ .dormant ∧ (d.ticking = false ∨ t < d.time.nextValley) ∧ t ≤ d.enc[c].sampAt + 2
      ∧ d.enc[c].lvl.length = 3 ∧ d.enc[c].run.length = 3) fun d d' =>
    let wires (i : Nat) : Wires := [s.a, s.b, s.z].getD i s.z
    let before (i : Nat) : Bool := d.enc[c].lvl.getD i false
    let level (i : Nat) : Bool := if (wires i).p = (wires i).n then before i else (wires i).p
    let run (i : Nat) : Nat := if level i = before i then min 4 (d.enc[c].run.getD i 0 + 1) else 1
    let taken (i : Nat) : Bool := if d.rdF (Reg.ENC_CFG c) 7 6 < run i then level i else d.rdB (Reg.ENC_STATUS c) i
    let a := taken 0
    let b := taken 1
    let pos (x y : Bool) : Nat := if x then (if y then 2 else 1) else (if y then 3 else 0)
    let moved := (pos a b + 4 - pos (d.rdB (Reg.ENC_STATUS c) 0) (d.rdB (Reg.ENC_STATUS c) 1)) % 4
    let one : Word := if d.rdB (Reg.ENC_CFG c) 1 then -1 else 1
    let n := d.rdF (Reg.ENC_STATUS c) 15 8
    (∀ i < 3, d'.enc[c].lvl.getD i false = level i ∧ d'.enc[c].run.getD i 0 = run i) ∧ d'.enc[c].sampAt = t
    ∧ d'.rdB (Reg.ENC_STATUS c) 0 = a ∧ d'.rdB (Reg.ENC_STATUS c) 1 = b
    ∧ d'.rdB (Reg.ENC_STATUS c) 2 = (decide (c.val < 16) && taken 2)
    ∧ (d.rdB (Reg.ENC_CFG c) 0 = false ∨ moved = 0 → d.changesSilently d' [.enc, .time] [Reg.ENC_STATUS c])
    ∧ (d.rdB (Reg.ENC_CFG c) 0 = true → moved = 1 → d'.rd (Reg.ENC_COUNT c) = d.rd (Reg.ENC_COUNT c) + one)
    ∧ (d.rdB (Reg.ENC_CFG c) 0 = true → moved = 3 → d'.rd (Reg.ENC_COUNT c) = d.rd (Reg.ENC_COUNT c) - one)
    ∧ (d.rdB (Reg.ENC_CFG c) 0 = true → moved = 1 ∨ moved = 3 →
        d'.rd (Reg.ENC_EDGE_TIME c) = d.stampAt t ∧ d'.rd (Reg.ENC_ILL_TOTAL c) = d.rd (Reg.ENC_ILL_TOTAL c))
    ∧ (d.rdB (Reg.ENC_CFG c) 0 = true → moved = 2 →
        d'.rd (Reg.ENC_COUNT c) = d.rd (Reg.ENC_COUNT c)
        ∧ d'.rd (Reg.ENC_ILL_TOTAL c) = wn (min (2 ^ 32 - 1) ((d.rd (Reg.ENC_ILL_TOTAL c)).toNat + 1))
        ∧ d'.rdF (Reg.ENC_STATUS c) 15 8 = min 255 (n + 1) ∧ d'.enc[c].restart = true ∧ d'.enc[c].illAt = some t
        ∧ d'.rdB (Reg.ENC_FLAGS c) 2 = true
        ∧ (d.rdF (Reg.ENC_CFG c) 31 24 ≤ n → d'.rdB (Reg.ENC_FLAGS c) 3 = true ∧ d'.enc[c].uncPend = true)
        ∧ (n < d.rdF (Reg.ENC_CFG c) 31 24 → d'.enc[c].uncPend = d.enc[c].uncPend))
    ∧ (∀ x : Enc, x ≠ c → d'.enc[x] = d.enc[x])
    ∧ d.changes d' [.enc, .fio, .time] ([Reg.ENC_STATUS c, Reg.ENC_COUNT c, Reg.ENC_EDGE_TIME c, Reg.ENC_ILL_TOTAL c,
        Reg.ENC_FLAGS c] ++ motionPage c ++ switchRegs)

/-- Channel events (R122, R123, R127, R129, R135, R136, R138): the end of an illegal-transition window of ILL_WIN position
periods, the speed time-out, wire faults and their end, and the host's acknowledgements. A servo channel's UNC_CLR waits
for the strobe instant, which clears or refuses; a step channel refuses it at once.

The index and the Hall inputs (R131, R132, R133, R134): an index latches the count, and against the latch before it
the drift is the nearest residue of the displacement modulo CPR; 1 µs after the first sample of a Hall code, an adjacent
sector latches the count of that sample, and an invalid code or a jump is an error. -/
def Obligations.EncoderEventsIndexAndHall : Prop :=
  (
  ∀ c : Enc,
    let driven (d : Dev) : Prop := c.val < 16 ∧ d.drivesAx c = true
    completes (.illWindowEnd c) (fun d => d.enc[c].winAt + d.rdF (Reg.ENC_CFG c) 23 18 ≤ d.time.posRun) (fun d d' =>
      d'.rdF (Reg.ENC_STATUS c) 15 8 = 0 ∧ d'.enc[c] = { d.enc[c] with winAt := d.time.posRun }
      ∧ (∀ x : Enc, x ≠ c → d'.enc[x] = d.enc[x]) ∧ d.changesSilently d' [.enc] [Reg.ENC_STATUS c])
    ∧ completes (.illWindowEnd c) (fun d => d.time.posRun < d.enc[c].winAt + d.rdF (Reg.ENC_CFG c) 23 18)
      (fun d d' => d' = d)
    ∧ completes (.spdTimeoutExpiry c) (fun _ => True) (fun d d' =>
      d'.rd (Reg.ENC_SPEED c) = 0 ∧ d'.rdB (Reg.ENC_STATUS c) 3 = true
      ∧ d'.now = max d.now (d.enc[c].tLast + d.rdF (Reg.ENC_CFG c) 15 8 * 200000)
      ∧ d.changesSilently d' [.time] [Reg.ENC_SPEED c, Reg.ENC_STATUS c])
    ∧ (∀ (t : Nat) (line : Fin 3), completes (.wireFault t c line) (fun _ => line.val = 2 → c.val < 16) fun d d' =>
      d'.rdB (Reg.ENC_STATUS c) (4 + line.val) = true
      ∧ d'.rdB (Reg.ENC_FLAGS c) (if line.val = 2 then 1 else 0) = true
      ∧ (line.val ≠ 2 → driven d → d'.rdB (Reg.MOT_MSTAT c) 7 = true)
      ∧ (line.val = 2 ∨ ¬driven d → d'.rd (Reg.MOT_MSTAT c) = d.rd (Reg.MOT_MSTAT c))
      ∧ d.changes d' [.time] [Reg.ENC_STATUS c, Reg.ENC_FLAGS c, Reg.MOT_MSTAT c])
    ∧ (16 ≤ c.val → ∀ t, completes (.wireFault t c 2) (fun _ => True) fun d d' => d.changesSilently d' [.time] [])
    ∧ (∀ (t : Nat) (line : Fin 3), completes (.wireFaultEnd t c line) (fun _ => True) fun d d' =>
      d'.rdB (Reg.ENC_STATUS c) (4 + line.val) = false ∧ (line.val ≠ 2 → d'.enc[c].restart = true)
      ∧ d.changesSilently d' [.enc, .time] [Reg.ENC_STATUS c])
    ∧ (let may (d : Dev) : Prop := driven d ∧ d.rdB (Reg.ENC_STATUS c) 4 = false ∧ d.rdB (Reg.ENC_STATUS c) 5 = false
          ∧ (d.mot[c].silenced = true ∨ d.mot[c].busy = false)
       (c.val < 16 → completes (.uncClr c) (fun d => d.hostUp = true) fun d d' =>
          d'.enc[c] = { d.enc[c] with uncReq := true } ∧ (∀ x : Enc, x ≠ c → d'.enc[x] = d.enc[x])
          ∧ d.changesSilently d' [.enc] [])
       ∧ (16 ≤ c.val → completes (.uncClr c) (fun d => d.hostUp = true) fun d d' =>
          d'.rdB (Reg.ENC_FLAGS c) 10 = true ∧ d.changes d' [] [Reg.ENC_FLAGS c])
       ∧ (∀ d : Dev,
          let d' := d.uncClrDue c
          d'.enc[c].uncReq = false
          ∧ (d.enc[c].uncReq = false → d' = d)
          ∧ (d.enc[c].uncReq = true → may d →
              d'.rdB (Reg.MOT_MSTAT c) 7 = false ∧ d'.rdB (Reg.MOT_MSTAT c) 8 = false
              ∧ d'.rdF (Reg.ENC_STATUS c) 15 8 = 0 ∧ d'.enc[c].latchKnown = false ∧ d'.enc[c].winAt = d.time.posRun
              ∧ d.changesSilently d' [.enc] [Reg.ENC_STATUS c, Reg.MOT_MSTAT c])
          ∧ (d.enc[c].uncReq = true → ¬may d → c.val < 16 →
              d'.rdB (Reg.ENC_FLAGS c) 10 = true ∧ d.changes d' [.enc] [Reg.ENC_FLAGS c])))
    ∧ (c.val < 16 → completes (.driftClr c) (fun d => d.hostUp = true) fun d d' =>
        d'.rd (Reg.ENC_DRIFT_SUM c) = 0 ∧ d'.enc[c].latchKnown = false
        ∧ d.changesSilently d' [.enc] [Reg.ENC_DRIFT_SUM c])
    ∧ (16 ≤ c.val → completes (.driftClr c) (fun d => d.hostUp = true) fun d d' => d' = d))
  ∧ (
  ∀ (c : Enc) (t : Nat), c.val < 16 →
    let taken (d : Dev) : Prop := d.pwr.st ≠ .dormant ∧ (d.ticking = false ∨ t < d.time.nextValley)
      ∧ (t < d.enc[c].sampAt + 2 ∨ d.encUnsettled c = false)
    let suspect (d : Dev) : Bool := decide (d.enc[c].illAt = some t)
    completes (.indexEvent t c)
      (fun d => taken d ∧ d.rdB (Reg.ENC_STATUS c) 2 = true ∧ d.rdB (Reg.ENC_CFG c) 0 = true ∧ d.rdB (Reg.ENC_CFG c) 2 = true ∧ d.rdB (Reg.ENC_STATUS c) 6 = false
        ∧ d.enc[c].zArmed = true ∧ d.rdB (Reg.ENC_STATUS c) 0 = d.rdB (Reg.ENC_CFG c) 17
        ∧ d.rdB (Reg.ENC_STATUS c) 1 = d.rdB (Reg.ENC_CFG c) 16) (fun d d' =>
      d'.rd (Reg.ENC_INDEX_PREV c) = d.rd (Reg.ENC_INDEX_LATCH c) ∧ d'.rd (Reg.ENC_INDEX_LATCH c) = d.rd (Reg.ENC_COUNT c)
      ∧ d'.rd (Reg.ENC_INDEX_CNT c) = d.rd (Reg.ENC_INDEX_CNT c) + 1 ∧ d'.rdB (Reg.ENC_FLAGS c) 4 = true
      ∧ d'.enc[c].zArmed = false ∧ d'.enc[c].latchKnown = true
      ∧ (suspect d = true → d'.rdB (Reg.ENC_FLAGS c) 6 = true)
      ∧ (suspect d = true ∨ d.enc[c].latchKnown = false →
          d'.rd (Reg.ENC_DRIFT c) = d.rd (Reg.ENC_DRIFT c) ∧ d'.rd (Reg.ENC_DRIFT_SUM c) = d.rd (Reg.ENC_DRIFT_SUM c))
      ∧ (suspect d = false → d.enc[c].latchKnown = true →
          let cpr : Int := d.rdF (Reg.ENC_INDEX_CFG c) 23 0
          ∃ k drift : Int, drift = (d.rd (Reg.ENC_COUNT c)).toInt - (d.rd (Reg.ENC_INDEX_LATCH c)).toInt - k * cpr
            ∧ (cpr ≠ 0 → 2 * |drift| ≤ cpr) ∧ d'.rd (Reg.ENC_DRIFT c) = BitVec.ofInt 32 drift
            ∧ d'.rd (Reg.ENC_DRIFT_SUM c) = d.rd (Reg.ENC_DRIFT_SUM c) + BitVec.ofInt 32 drift
            ∧ ((d.rdF (Reg.ENC_INDEX_CFG c) 31 24 : Int) < |drift| →
                d'.rdB (Reg.ENC_FLAGS c) 5 = true ∧ d'.enc[c].uncPend = true))
      ∧ d.changes d' [.enc, .time] [Reg.ENC_STATUS c, Reg.ENC_INDEX_PREV c, Reg.ENC_INDEX_LATCH c, Reg.ENC_INDEX_CNT c,
          Reg.ENC_DRIFT c, Reg.ENC_DRIFT_SUM c, Reg.ENC_FLAGS c])
    ∧ completes (.indexEvent t c) (fun d => taken d ∧ (d.rdB (Reg.ENC_CFG c) 0 = false ∨ d.rdB (Reg.ENC_CFG c) 2 = false
        ∨ d.rdB (Reg.ENC_STATUS c) 6 = true ∨ d.rdB (Reg.ENC_STATUS c) 2 = false ∨ d.enc[c].zArmed = false))
      (fun d d' => d.changesSilently d' [.time] [])
    ∧ (∀ code : BitVec 3, completes (.hallSectorChange t c code)
      (fun d => d.pwr.st ≠ .dormant ∧ d.rdB (Reg.ENC_CFG c) 3 = true) fun d d' =>
      let sector (v : BitVec 3) : Nat :=
        if v = 1 then 0 else if v = 3 then 1 else if v = 2 then 2 else if v = 6 then 3 else if v = 4 then 4
        else if v = 5 then 5 else 7
      let s := if d.rdB (Reg.ENC_CFG c) 4 ∧ sector code ≠ 7 then 5 - sector code else sector code
      let old := d.rdF (Reg.ENC_HALL c) 6 4
      d'.rdF (Reg.ENC_HALL c) 2 0 = code.toNat ∧ d'.rdF (Reg.ENC_HALL c) 6 4 = s
      ∧ (s = 7 → d'.rdB (Reg.ENC_FLAGS c) 8 = true)
      ∧ (s ≠ 7 → old < 6 → (s = (old + 1) % 6 ∨ old = (s + 1) % 6) →
          d'.rd (Reg.ENC_HALL_LATCH c) = BitVec.ofInt 32 (countAt t (d.rd (Reg.ENC_COUNT c)).toInt d.enc[c].recent)
          ∧ (∀ x ∈ d.enc[c].recent.head?, x.1 ≤ t → d'.rd (Reg.ENC_HALL_LATCH c) = BitVec.ofInt 32 x.2)
          ∧ d'.rdB (Reg.ENC_HALL c) 8 = true ∧ d'.rdB (Reg.ENC_FLAGS c) 7 = true)
      ∧ (s ≠ 7 → old < 6 → s ≠ old → s ≠ (old + 1) % 6 → old ≠ (s + 1) % 6 →
          d'.rdB (Reg.ENC_FLAGS c) 8 = true ∧ d'.rd (Reg.ENC_HALL_LATCH c) = d.rd (Reg.ENC_HALL_LATCH c))
      ∧ (s ≠ 7 → old = 7 ∨ s = old → d.changesSilently d' [.time] [Reg.ENC_HALL c])
      ∧ d'.now = max d.now (t + 200)
      ∧ d.changes d' [.enc, .time] [Reg.ENC_HALL c, Reg.ENC_HALL_LATCH c, Reg.ENC_FLAGS c]))

/-- Gate shut-off (R119, R146, R161): a bridge fault, an over-current with OC_EN and a stuck bitstream with DSM_TRIP turn
the gates off, freeze the generator with an empty queue and leave the axis silenced; a stuck bitstream without DSM_TRIP
only shows. Resumed transitions clear the live bit. -/
def Obligations.GateShutOff : Prop :=
  ∀ (n : Sax) (t : Nat),
    let a := Sax.axis n
    let shut (d d' : Dev) : Prop := d'.servo[n].silenced = true ∧ d'.mot[a].silenced = true ∧ d'.mot[a].queue = []
      ∧ d'.mot[a].running = false ∧ d'.mot[a].sp = d.mot[a].sp ∧ d'.rdB (Reg.SAX_STATUS n) 0 = false
      ∧ d'.rdB (Reg.SAX_FLAGS n) 4 = true
    let beside (d d' : Dev) : Prop := (∀ m : Sax, m ≠ n → d'.servo[m] = d.servo[m])
      ∧ d.changes d' [.servo, .mot, .time] (Reg.SAX_STATUS n :: Reg.SAX_FLAGS n :: motionPage a
          ++ (d.swingOf a).toList.flatMap motionPage)
    completes (.bridgeFault t n) (fun d => d.swingOf a ≠ some a) (fun d d' =>
      shut d d' ∧ d'.rdB (Reg.SAX_STATUS n) 1 = true ∧ d'.rdB (Reg.SAX_FLAGS n) 1 = true ∧ beside d d')
    ∧ completes (.overCurrent t n) (fun d => d.solo = true ∧ d.swingOf a ≠ some a ∧ d.rdB (Reg.SAX_CFG n) 11 = true
        ∧ d.rdF (Reg.SAX_DSM_CFG n) 15 10 ≠ 0) (fun d d' =>
      shut d d' ∧ d'.rdB (Reg.SAX_STATUS n) 2 = true ∧ d'.rdB (Reg.SAX_FLAGS n) 2 = true ∧ beside d d')
    ∧ completes (.dsmStuck t a) (fun d => d.solo = true ∧ d.swingOf a ≠ some a ∧ d.rdB (Reg.SAX_CFG n) 10 = true)
      (fun d d' => shut d d' ∧ d'.servo[n].dsmLatch = true ∧ d'.rdB (Reg.SAX_STATUS n) 3 = true
        ∧ d'.rdB (Reg.SAX_FLAGS n) 3 = true ∧ beside d d')
    ∧ completes (.dsmStuck t a)
      (fun d => d.rdB (Reg.SAX_CFG n) 10 = false ∧ d.servo[n].dsmLatch = false) (fun d d' =>
        d'.rdB (Reg.SAX_STATUS n) 3 = true ∧ d'.rdB (Reg.SAX_FLAGS n) 3 = true
        ∧ d.changes d' [.time] [Reg.SAX_STATUS n, Reg.SAX_FLAGS n])
    ∧ completes (.dsmTransitionsResume t a) (fun _ => True) (fun d d' =>
        d'.rdB (Reg.SAX_STATUS n) 3 = false ∧ d.changesSilently d' [.time] [Reg.SAX_STATUS n])

/-- Enabling and acknowledging a servo axis (R34, R93, R161, R162, R168, R169): a write of EN waits for the next strobe
instant, and is refused on a member that does not drive the portal. There EN = 1 is refused while a cause is latched,
the bank in force is unsealed, or EXTEST or the reset it asks for holds every axis off (R352); enabling starts a fresh frame, and the set-point becomes the position at the position
tick; disabling turns the gates off and empties the queue. Each acknowledgement clears its cause once the condition has
gone.

Coefficient banks (R158, R159, R160): a write of the inactive bank is taken and unseals it, a write of the active one
is ignored with BANK_LOCK; where its journal entry does not bring a flush due (`room`, R316), nothing else changes; the
seal records the CRC-32C of the inactive bank; a swap puts a sealed bank in force, and is
rejected with its reason on a member that does not drive, for an unsealed bank, and while the axis is enabled and its
portal moves. Bits of a bank register outside its fields take nothing (R18). -/
def Obligations.ServoEnablingAndBanks : Prop :=
  (
  ∀ n : Sax,
    let a := Sax.axis n
    let mine (d : Dev) : Prop := d.hostUp = true ∧ d.drivesAx a = true
    (∀ on, completes (.servoEn n on) mine fun d d' =>
      d'.servo[n] = { d.servo[n] with enReqs := d.servo[n].enReqs ++ [on] } ∧ (∀ m : Sax, m ≠ n → d'.servo[m] = d.servo[m])
      ∧ d.changesSilently d' [.servo] [])
    ∧ (∀ on, completes (.servoEn n on) (fun d => d.hostUp = true ∧ d.drivesAx a = false) fun d d' =>
      d'.rdB (Reg.SAX_FLAGS n) 9 = true ∧ d.changes d' [] [Reg.SAX_FLAGS n])
    ∧ (∀ d : Dev, d.drivesAx a = true →
        (d.causeLatched n = false → d.sealed n (d.bankB n) = true → d.heldOff = false → d.rdB (Reg.SAX_CTRL n) 0 = false →
          let d' := d.servoEnDue n true
          d'.rdB (Reg.SAX_CTRL n) 0 = true ∧ d'.rdB (Reg.SAX_STATUS n) 0 = true ∧ d'.servo[n].silenced = false
          ∧ d'.rd (Reg.MOT_POS_OFFSET a) = 0 ∧ d'.rdB (Reg.MOT_MSTAT a) 8 = false ∧ d'.mot[a].alignDue = true
          ∧ d.changesSilently d' [.servo, .mot] [Reg.SAX_CTRL n, Reg.SAX_STATUS n, Reg.MOT_POS_OFFSET a, Reg.MOT_MSTAT a])
        ∧ (d.causeLatched n = true ∨ d.sealed n (d.bankB n) = false ∨ d.heldOff = true →
          let d' := d.servoEnDue n true
          d'.rdB (Reg.SAX_FLAGS n) 9 = true ∧ d.changes d' [] [Reg.SAX_FLAGS n])
        ∧ (d.swingOf a ≠ some a → d.rdB (Reg.SAX_CTRL n) 0 = true →
          let d' := d.servoEnDue n false
          d'.rdB (Reg.SAX_CTRL n) 0 = false ∧ d'.rdB (Reg.SAX_STATUS n) 0 = false ∧ d'.mot[a].queue = []
          ∧ d'.mot[a].running = false ∧ d'.servo[n].zeroed = true
          ∧ d.changes d' [.servo, .mot] (Reg.SAX_CTRL n :: Reg.SAX_STATUS n :: motionPage a
              ++ (d.swingOf a).toList.flatMap motionPage))
        ∧ (d.axEn a = true → d.mot[a].alignDue = true → d.mot[a].mcmds = [] → d.mot[a].replan = false →
            (∀ w, d.swingOf a = some w → d.mot[w].replan = false) →
          let d' := d.motCommands a
          d'.mot[a].sp = 256 * (BitVec.ofInt 32 (d.encCount a + (d.rd (Reg.MOT_POS_OFFSET a)).toInt)).toInt
          ∧ d'.mot[a].queue = [] ∧ d'.mot[a].silenced = false ∧ d'.mot[a].alignDue = false ∧ d'.rd (Reg.MOT_LEDGER_CMD a) = 0))
    ∧ (∀ high, completes (.fltAck n high) mine fun d d' =>
      d'.rdB (Reg.SAX_STATUS n) 1 = (!high && d.rdB (Reg.SAX_STATUS n) 1)
      ∧ d.changesSilently d' [] [Reg.SAX_STATUS n])
    ∧ completes (.ocAck n) mine (fun d d' =>
      d'.rdB (Reg.SAX_STATUS n) 2 = false ∧ d.changesSilently d' [] [Reg.SAX_STATUS n])
    ∧ completes (.dsmAck n) mine (fun d d' =>
      d'.servo[n].dsmLatch = (d.servo[n].dsmLatch && d.rdB (Reg.SAX_STATUS n) 3) ∧ d.changesSilently d' [.servo] []))
  ∧ (
  ∀ (n : Sax) (b : Bool),
    let mine (d : Dev) : Prop := d.hostUp = true ∧ d.drivesAx (Sax.axis n) = true
    let bitOf (x : Bool) : Nat := if x then 18 else 17
    let still (d : Dev) : Prop := ∀ p, d.portalOf (Sax.axis n) = some p → d.rdF (Reg.PRT_STATE p) 3 0 ∈ [0, 1, 9, 10]
    let rejected (r : Nat) (d d' : Dev) : Prop := d'.rdF (Reg.SAX_BANK_CTRL n) 31 28 = r
      ∧ d'.rdB (Reg.SAX_FLAGS n) 7 = true ∧ d'.bankB n = d.bankB n
      ∧ d.changes d' [] [Reg.SAX_BANK_CTRL n, Reg.SAX_FLAGS n]
    let room (d : Dev) : Prop := d.rdB Reg.REC_STATUS 1 = true ∨ d.unflBytes < 24 * 1024 ∧ d.jnl.pendingBytes + 64 < 8 * 1024
    (∀ i v, i < 18 → completes (.bankWrite (bankAddr n b i) v) (fun d => d.hostUp = true ∧ d.bankB n = !b) fun d d' =>
      d'.bankReg n b i = (if i = 16 then v &&& 0xFFFF#32 else if i = 17 then v &&& 0xF#32 else v) ∧ d'.sealed n b = false
      ∧ (room d → d.changesSilently d' [.jnl] [bankAddr n b i, Reg.SAX_BANK_CTRL n]))
    ∧ (∀ i v, i < 18 → completes (.bankWrite (bankAddr n b i) v) (fun d => d.hostUp = true ∧ d.bankB n = b) fun d d' =>
      d'.rdB (Reg.SAX_FLAGS n) 8 = true ∧ d.changes d' [] [Reg.SAX_FLAGS n])
    ∧ (∀ o v, o < 0x1800 → o % 4 = 0 → completes (.bankWrite (0x200000 + bankTbl n b + o) v)
        (fun d => d.hostUp = true ∧ d.bankB n = !b ∧ d.rdB (Reg.SAX_BANK_CTRL n) 19 = false) fun d d' =>
      (∀ k, Cells.read zeroCell d'.tmem k = if bankTbl n b + o ≤ k ∧ k < bankTbl n b + o + 4
        then BitVec.ofNat 8 (v.toNat / 256 ^ (k - (bankTbl n b + o))) else Cells.read zeroCell d.tmem k)
      ∧ d'.sealed n b = false ∧ (room d → d.changesSilently d' [.tmem, .jnl] [Reg.SAX_BANK_CTRL n]))
    ∧ completes (.sealBank n) mine (fun d d' =>
      d'.rdB (Reg.SAX_BANK_CTRL n) 19 = true ∧ d.changesSilently d' [] [Reg.SAX_BANK_CTRL n])
    ∧ completes (.sealComplete n) (fun d => d.rdB (Reg.SAX_BANK_CTRL n) 19 = true ∧ d.bankB n = !b) (fun d d' =>
      d'.rd (Reg.SAX_BANK_CRC n b.toNat) = crc32c (d.bankBytes n b) ∧ d'.rdB (Reg.SAX_BANK_CTRL n) (bitOf b) = true
      ∧ d'.rdB (Reg.SAX_BANK_CTRL n) 19 = false ∧ d'.sealed n (!b) = d.sealed n (!b)
      ∧ (room d → d.changesSilently d' [.jnl] [Reg.SAX_BANK_CRC n b.toNat, Reg.SAX_BANK_CTRL n]))
    ∧ (∀ gate, completes (.bankSwap n b gate) (fun d => mine d ∧ d.bankB n = !b ∧ d.sealed n b = true
          ∧ d.rdB (Reg.SAX_BANK_CTRL n) 19 = false ∧ d.solo = true ∧ (d.rdB (Reg.SAX_CTRL n) 0 = true → still d)) fun d d' =>
      d'.bankB n = b ∧ d'.rdB (Reg.SAX_FLAGS n) 6 = true
      ∧ d.changes d' [.servo, .portal, .jnl] [Reg.SAX_BANK_CTRL n, Reg.SAX_FLAGS n])
    ∧ (∀ gate, completes (.bankSwap n b gate) (fun d => d.hostUp = true ∧ d.drivesAx (Sax.axis n) = false) (rejected 4))
    ∧ (∀ gate, completes (.bankSwap n b gate) (fun d => mine d ∧ d.bankB n = !b ∧ d.sealed n b = false) (rejected 1))
    ∧ completes (.bankSwap n b false) (fun d => mine d ∧ d.bankB n = !b ∧ d.sealed n b = true
        ∧ d.rdB (Reg.SAX_BANK_CTRL n) 19 = false ∧ d.solo = true ∧ d.rdB (Reg.SAX_CTRL n) 0 = true ∧ ¬still d) (rejected 3))

/-- One controller of the loops (R151): within its bounds the output is u = ff + i + Kp·e in the order the program takes
it and the integrator moves on; outside it is the bound, and the integrator holds. At the end of its range the
interpolation of R154 gives the last table entry. -/
def Obligations.LoopStep : Prop :=
  (∀ e kp ki dt ff lo hi i : Word,
    let u := fadd (fma i kp e) ff
    (fclt hi u = true → piStep e kp ki dt ff lo hi i = (hi, true, i))
    ∧ (fclt hi u = false → fclt u lo = true → piStep e kp ki dt ff lo hi i = (lo, true, i))
    ∧ (fclt hi u = false → fclt u lo = false →
        piStep e kp ki dt ff lo hi i = (u, false, fclamp (fma i (fmul ki dt) e) lo hi)))
  ∧ (∀ (d : Dev) (n : Sax) (arr : Nat), d.interp n arr (cvtxf 1023 0) false = cvtxf (d.tblEnt n arr 1023) 0)

/-- The trace unit's commands (R165): TRACE_ARM takes the settings and starts sampling with empty rings, before the trigger
for PRE samples; with the mode off it starts nothing; TRACE_STOP stops; MANUAL triggers at the next sample while the
unit waits. -/
def Obligations.TraceCommands : Prop :=
  completes .traceArm (fun d => d.hostUp = true ∧ d.rdF Reg.TRC_CTRL 1 0 ≠ 0) (fun d d' =>
    d'.trace.st = (if d.rdF Reg.TRC_PRE 12 0 = 0 then .armed else .preTrig)
    ∧ d'.rdF Reg.TRC_STATUS 18 16 = d'.trace.st.code ∧ d'.rdF Reg.TRC_STATUS 12 0 = 0
    ∧ d'.trace.mode = d.rdF Reg.TRC_CTRL 1 0 ∧ d'.trace.ram = [] ∧ d'.trace.taken = 0
    ∧ d'.trace.div = (if d.rdF Reg.TRC_CTRL 15 8 = 0 then 256 else d.rdF Reg.TRC_CTRL 15 8)
    ∧ d'.trace.trig = d.rd Reg.TRC_TRIG_CFG
    ∧ d.changesSilently d' [.trace] [Reg.TRC_STATUS])
  ∧ completes .traceArm (fun d => d.hostUp = true ∧ d.rdF Reg.TRC_CTRL 1 0 = 0) (fun d d' =>
    d'.trace.st = .idle ∧ d.changesSilently d' [.trace] [Reg.TRC_STATUS])
  ∧ completes .traceStop (fun d => d.hostUp = true) (fun d d' =>
    d'.trace.st = .idle ∧ d'.rdF Reg.TRC_STATUS 18 16 = 0 ∧ d'.trace.ram = d.trace.ram
    ∧ d.changesSilently d' [.trace] [Reg.TRC_STATUS])
  ∧ completes .manual (fun d => d.hostUp = true ∧ (d.trace.st = .preTrig ∨ d.trace.st = .armed)) (fun d d' =>
    d'.trace = { d.trace with manual := true } ∧ d.changesSilently d' [.trace] [])

/-- Edges (R177, R178, R258, R259, R444): at its reading instant an edge under source reads its resistance to the integer
beside the exact value (which of the two is free, log 42) and its band, either of two within 5 % of their boundary (log
9), and a band is accepted once two measurements agree; an edge not measured reads INVALID, a foreign voltage and any reading in the sag state count
as INVALID (R268); LOW or HIGH for 1 s is reported to the portals that map the edge.

The confirmation of R174: with the speed period S and the position period T, N_conf is the number of obstacle ticks
that the confirmation time of the mode (6, 10 or 20 ms, less T) holds, plus one. -/
def Obligations.EdgesAndConfirmation : Prop :=
  (
  ∀ e : Edge,
    let regs : List Nat := [Reg.FED_EDG_R e, Reg.FED_EDG_BAND (e.val / 8), Reg.FED_EDG_FLAGS, Reg.FED_EDG_FOREIGN]
    let live (d : Dev) : Prop := d.edgeMeasured e = true
    let takes (d d' : Dev) (b : Nat) : Prop := d'.fio.edges[e].cand = b
      ∧ d'.edgeBand e = (if d.fio.edges[e].cand = b then b else d.edgeBand e)
      ∧ (∀ x : Edge, x ≠ e → d'.edgeBand x = d.edgeBand x ∧ d'.fio.edges[x] = d.fio.edges[x])
      ∧ d.changes d' [.fio, .time] regs
    let reads (t : Nat) (d : Dev) : Prop := (d.upTo t).edgeReads e t = true
    (∀ t idle uv, idle ≤ 200000 → uv < 5000000 → completes (.edgeMeasurement t e idle uv) (fun d => reads t d ∧ live d) fun d d' =>
      let r : Rat := 10000 * uv / (5000000 - uv)
      (∃ b, takes d d' b
        ∧ ((d.fio.sag = true ∧ b = 7) ∨ d.fio.sag = false ∧ (b = 1 ∧ r ≤ 525 ∨ b = 3 ∧ 475 ≤ r ∧ r ≤ 6888 ∨ b = 0 ∧ 6232 ≤ r ∧ r ≤ 10332 ∨ b = 4 ∧ 9348 ≤ r ∧ r ≤ 52500
            ∨ b = 2 ∧ 47500 ≤ r)))
      ∧ (r ≤ 1048574 → |((d'.rd (Reg.FED_EDG_R e)).toNat : Rat) - r| < 1)
      ∧ (r > 1048574 → d'.rd (Reg.FED_EDG_R e) = 0xFFFFF#32) ∧ d'.fio.edges[e].foreign = false)
    ∧ (∀ t idle uv, idle ≤ 200000 → 5000000 ≤ uv → completes (.edgeMeasurement t e idle uv) (fun d => reads t d ∧ live d) fun d d' =>
      takes d d' (if d.fio.sag then 7 else 2) ∧ d'.rd (Reg.FED_EDG_R e) = 0xFFFFF#32 ∧ d'.fio.edges[e].foreign = false)
    ∧ (∀ t idle uv, 200000 < idle → completes (.edgeMeasurement t e idle uv) (fun d => reads t d ∧ live d) fun d d' =>
      takes d d' 7 ∧ d'.fio.edges[e].foreign = true
      ∧ (d.fio.edges[e].foreign = false → d'.rdB Reg.FED_EDG_FOREIGN e = true))
    ∧ (∀ t idle uv, completes (.edgeMeasurement t e idle uv) (fun d => reads t d ∧ ¬live d) fun d d' =>
      d'.edgeBand e = 7 ∧ d'.fio.edges[e].cand = 7 ∧ d.changes d' [.fio, .time] regs)
    ∧ (∀ t idle uv, completes (.edgeMeasurement t e idle uv) (fun d => ¬reads t d) fun d d' => d.changesSilently d' [.time] [])
    ∧ (∀ t0, completes (.edgeMarginal e) (fun d => d.fio.edges[e].marginAt = some t0) fun d d' =>
      (∀ p : Slot, e.val ∈ d.portalEdges p → d'.rdB (Reg.PRT_OBS_FLAGS p) 4 = true)
      ∧ d'.fio.edges[e].marginAt = none ∧ d'.now = max d.now (t0 + 200000000)
      ∧ d.changes d' [.fio, .time] ((List.range 12).map Reg.PRT_OBS_FLAGS)))
  ∧ (
  ∀ (d : Dev) (p : Slot),
    let c : Nat := 200000 * (match d.rdF (Reg.PRT_OBS_CFG p) 1 0 with | 0 => 6 | 1 => 10 | _ => 20)
    let s := d.pwmP * d.spdDiv
    d.pwmP ≠ 0 → d.posT ≤ c → (d.nConf p - 1) * s ≤ c - d.posT ∧ c - d.posT < d.nConf p * s)

/-- The obstacle bypass and the drift means (R187, R189, R190, R346): a bypass starts only by a gated write with the BYPASS
right, its start and end are reported, and without the right it is refused with BYPASS_REJ; OBS_DRIFT_CLR restarts every
mean of its portal. -/
def Obligations.BypassAndDrift : Prop :=
  ∀ p : Slot,
    let on (d : Dev) : Bool := d.rdB (Reg.PRT_OBS_STATUS p) 15
    let regs : List Nat := [Reg.PRT_OBS_STATUS p, Reg.PRT_OBS_CTRL p, Reg.PRT_OBS_FLAGS p]
    completes (.bypass p true true) (fun d => d.hostUp = true ∧ d.hasRight 1 = true ∧ on d = false) (fun d d' =>
      on d' = true ∧ d'.rdB (Reg.PRT_OBS_CTRL p) 0 = true ∧ d'.rdB (Reg.PRT_OBS_FLAGS p) 6 = true
      ∧ d'.portal[p].clean = false ∧ d.changes d' [.portal] regs)
    ∧ (∀ g, completes (.bypass p true g) (fun d => d.hostUp = true ∧ (g = false ∨ d.hasRight 1 = false)) fun d d' =>
      d'.rdB (Reg.PRT_OBS_FLAGS p) 7 = true ∧ d.changes d' [] [Reg.PRT_OBS_FLAGS p])
    ∧ (∀ g, completes (.bypass p false g) (fun d => d.hostUp = true) fun d d' =>
      on d' = false ∧ d'.rdB (Reg.PRT_OBS_CTRL p) 0 = false ∧ (on d = true → d'.rdB (Reg.PRT_OBS_FLAGS p) 6 = true)
      ∧ d.changes d' [] regs)
    ∧ completes (.obsDriftClr p) (fun d => d.hostUp = true) (fun d d' =>
      d'.portal[p] = { d.portal[p] with fresh := List.replicate 16 true }
      ∧ (∀ q : Slot, q ≠ p → d'.portal[q] = d.portal[q]) ∧ d.changesSilently d' [.portal] [])

/-- The chopper (R193, R197, R198), at the instant of each event as the sequencer finds the axis then (`e`): BLANK after the
on phase started it goes on, or the off-time starts in fast decay (slow with FD = 0) where the chop filter, sinc3 of the
coil's bitstream, reports s × i ≥ |ref| or, with both sources, the comparator does; FD ÷ 16 of TOFF ends fast decay; TOFF
ends the off-time in a new on phase in the direction of the reference, which a reference of 0 withholds. The other coil
is left alone.

Step axes (R34, R193, R198, R199): a write of EN waits for the next strobe instant. There enabling is refused while a
short or a stuck bitstream is latched or EXTEST holds the axes off (R352), drives again only after EN = 0 where the axis was silenced, and otherwise starts a
fresh frame that aligns at the position tick; disabling turns the coils off. The standstill current follows HOLD_DLY
without a microstep; an acknowledgement clears its latch once the condition has gone; a stuck bitstream with DSM_TRIP
silences the axis. -/
def Obligations.StepDrives : Prop :=
  (
  ∀ (n : Stx) (b : Bool),
    let coil (d : Dev) (x : Bool) : Coil := if x then d.stepd[n].coilB else d.stepd[n].coilA
    let both (d : Dev) : Bool := !d.rdB (Reg.STX_CFG n) 4
    let toff (d : Dev) : Nat := 100 * d.rdF (Reg.STX_CHOP_CFG n) 6 0
    let fd (d : Dev) : Nat := d.rdF (Reg.STX_CHOP_CFG n) 20 16
    let decay (d : Dev) : ChopPhase := if fd d = 0 then .slow else .fast
    let ref (d : Dev) : Word := d.rd (Reg.STX_REF_AB n b.toNat)
    let tops (d : Dev) (bits : List Bool) : Bool :=
      let i := sincQ (d.rdF (Reg.STX_DSM_CFG n) 15 10) bits * ftoRat (d.rd (Reg.STX_IFS n))
      decide (|ftoRat (ref d)| ≤ if (coil d b).plus then i else -i)
    let goes (ph : ChopPhase) (e d' : Dev) : Prop := (coil d' b).phase = ph ∧ coil d' (!b) = coil e (!b)
      ∧ (∀ m : Stx, m ≠ n → d'.stepd[m] = e.stepd[m]) ∧ e.changesSilently d' [.stepd] [Reg.STX_STATUS n]
    let blanked (d : Dev) : Dev := d.stepAt n ((coil d b).onAt + 50 * d.rdF (Reg.STX_CHOP_CFG n) 12 8)
    (∀ bits cx, completes (.blankingEnd n b bits cx) (fun d => let e := blanked d; (coil e b).phase = .blank ∧
        ¬(both e = true ∧ cx = true ∧ e.rdF (Reg.STX_CHOP_CFG n) 27 24 ≤ (coil e b).shorts + 1)) fun d d' =>
      let e := blanked d
      goes (if tops e bits || (both e && cx) then decay e else .on) e d'
      ∧ d'.rdB (Reg.STX_STATUS n) (if b then 4 else 3) = cx
      ∧ (coil d' b).shorts = (if both e then (if cx then (coil e b).shorts + 1 else 0) else (coil e b).shorts))
    ∧ (∀ bits, completes (.blankingEnd n b bits true) (fun d => let e := blanked d; (coil e b).phase = .blank ∧ both e = true
        ∧ e.rdF (Reg.STX_CHOP_CFG n) 27 24 ≤ (coil e b).shorts + 1) fun _ d' =>
      d'.rdB (Reg.STX_STATUS n) 6 = true ∧ d'.rdB (Reg.STX_FLAGS n) 3 = true ∧ d'.stepd[n].silenced = true
      ∧ d'.rd (Reg.STX_REF_AB n 0) = 0 ∧ d'.rd (Reg.STX_REF_AB n 1) = 0 ∧ d'.mot[Stx.axis n].queue = [])
    ∧ (∀ t bits cx, completes (.chopTrip t n b bits cx)
        (fun d => let e := d.stepAt n t; (coil e b).phase = .on ∧ (tops e bits = true ∨ cx = true ∧ both e = true)) fun d d' =>
        goes (decay (d.stepAt n t)) (d.stepAt n t) d' ∧ (coil d' b).offAt = d'.now)
    ∧ (∀ t bits cx, completes (.chopTrip t n b bits cx)
        (fun d => let e := d.stepAt n t; (coil e b).phase = .on ∧ tops e bits = false ∧ (cx = false ∨ both e = false)) fun d d' =>
        goes .on (d.stepAt n t) d' ∧ d'.rdB (Reg.STX_STATUS n) (if b then 4 else 3) = cx)
    ∧ completes (.fastDecayEnd n b) (fun d => fd d < 16
          ∧ ∀ t, 16 * t < toff d * fd d + 16 → toff d * fd d < 16 * t + 16 →
              (coil (d.stepAt n ((coil d b).offAt + t)) b).phase = .fast) (fun d d' =>
        ∃ t, 16 * t < toff d * fd d + 16 ∧ toff d * fd d < 16 * t + 16 ∧ goes .slow (d.stepAt n ((coil d b).offAt + t)) d')
    ∧ completes (.offTimeEnd n b)
        (fun d => let e := d.stepAt n ((coil d b).offAt + toff d); (coil e b).phase = .slow ∨ (coil e b).phase = .fast) (fun d d' =>
        let e := d.stepAt n ((coil d b).offAt + toff d)
        (fceq (ref e) 0 = false → goes .blank e d' ∧ (coil d' b).plus = !bit (ref e) 31 ∧ (coil d' b).onAt = d'.now)
        ∧ (fceq (ref e) 0 = true → goes .slow e d')))
  ∧ (
  ∀ n : Stx,
    let a := Stx.axis n
    (∀ on, completes (.stepEn n on) (fun d => d.hostUp = true) fun d d' =>
      d'.stepd[n] = { d.stepd[n] with enReqs := d.stepd[n].enReqs ++ [on] } ∧ (∀ m : Stx, m ≠ n → d'.stepd[m] = d.stepd[m])
      ∧ d.changesSilently d' [.stepd] [])
    ∧ (∀ d : Dev,
        let latched : Prop := d.rdB (Reg.STX_STATUS n) 6 = true ∨ d.stepd[n].dsmLatch = true
        (¬latched → d.heldOff = false → d.rdB (Reg.STX_CTRL n) 0 = false → d.stepd[n].silenced = false ∨ d.stepd[n].zeroed = true →
          let d' := d.stepEnDue n true
          d'.rdB (Reg.STX_CTRL n) 0 = true ∧ d'.stepd[n].silenced = false ∧ d'.rd (Reg.MOT_POS_OFFSET a) = 0
          ∧ d'.rdB (Reg.MOT_MSTAT a) 8 = false ∧ d'.mot[a].alignDue = true
          ∧ d.changesSilently d' [.stepd, .mot] [Reg.STX_CTRL n, Reg.STX_STATUS n, Reg.MOT_POS_OFFSET a, Reg.MOT_MSTAT a])
        ∧ (¬latched → d.heldOff = false → d.rdB (Reg.STX_CTRL n) 0 = false → d.stepd[n].silenced = true → d.stepd[n].zeroed = false →
          let d' := d.stepEnDue n true
          d'.rdB (Reg.STX_CTRL n) 0 = true ∧ d'.stepd[n].silenced = true ∧ d.changesSilently d' [] [Reg.STX_CTRL n])
        ∧ (latched ∨ d.heldOff = true →
          let d' := d.stepEnDue n true
          d'.rdB (Reg.STX_FLAGS n) 7 = true ∧ d.changes d' [] [Reg.STX_FLAGS n])
        ∧ (d.rdB (Reg.STX_CTRL n) 0 = true →
          let d' := d.stepEnDue n false
          d'.rdB (Reg.STX_CTRL n) 0 = false ∧ d'.rdB (Reg.STX_STATUS n) 0 = false ∧ d'.mot[a].queue = []
          ∧ d'.stepd[n].coilA.phase = .off ∧ d'.stepd[n].coilB.phase = .off ∧ d'.rd (Reg.STX_REF_AB n 0) = 0
          ∧ d'.rd (Reg.STX_REF_AB n 1) = 0 ∧ (¬latched → d'.stepd[n].zeroed = true)
          ∧ d.changes d' [.stepd, .mot] (Reg.STX_CTRL n :: Reg.STX_STATUS n :: Reg.STX_REF_AB n 0 :: Reg.STX_REF_AB n 1
              :: Reg.STX_STEPS_ISSUED n :: motionPage a ++ (d.swingOf a).toList.flatMap motionPage)))
    ∧ (let stand (d : Dev) : Dev := (d.sequence n).stepAt n ((d.sequence n).stepd[n].standAt
          + (d.sequence n).rdF (Reg.STX_CUR_CFG n) 31 24 * 20000000)
       completes (.standstill n) (fun d => (d.sequence n).stepd[n].stood = false ∧ (d.sequence n).bridgesOn n = true
          ∧ (stand d).stepd[n].standAt = (d.sequence n).stepd[n].standAt) (fun d d' =>
        d'.rdB (Reg.STX_STATUS n) 1 = true ∧ d'.stepd[n].stood = true
        ∧ d'.now = max d.now ((d.sequence n).stepd[n].standAt + (d.sequence n).rdF (Reg.STX_CUR_CFG n) 31 24 * 20000000)
        ∧ (stand d).changesSilently d' [.stepd] [Reg.STX_STATUS n]))
    ∧ completes (.shortAck n) (fun d => d.hostUp = true) (fun d d' =>
      d'.rdB (Reg.STX_STATUS n) 6
        = (d.rdB (Reg.STX_STATUS n) 6 && (d.rdB (Reg.STX_STATUS n) 3 || d.rdB (Reg.STX_STATUS n) 4))
      ∧ d.changesSilently d' [] [Reg.STX_STATUS n])
    ∧ completes (.stepDsmAck n) (fun d => d.hostUp = true) (fun d d' =>
      d'.stepd[n].dsmLatch = (d.stepd[n].dsmLatch && d.rdB (Reg.STX_STATUS n) 5) ∧ d.changesSilently d' [.stepd] [])
    ∧ (∀ t, completes (.dsmStuck t a) (fun d => d.solo = true ∧ d.rdB (Reg.STX_CFG n) 6 = true) fun _ d' =>
      d'.rdB (Reg.STX_STATUS n) 5 = true ∧ d'.rdB (Reg.STX_FLAGS n) 4 = true ∧ d'.stepd[n].dsmLatch = true
      ∧ d'.stepd[n].silenced = true ∧ d'.mot[a].silenced = true)
    ∧ (∀ t, completes (.dsmTransitionsResume t a) (fun _ => True) fun d d' =>
      d'.rdB (Reg.STX_STATUS n) 5 = false ∧ d.changesSilently d' [.time] [Reg.STX_STATUS n]))

/-- Integer opcodes of the ALU slots: ADD to MULL, MOV, ABSS, NEGS and NOP (R239, R242). In a word whose other slots are
NOPs each of them completes. Where the word completes, the
value registers named are written, v0 discards what is written to it, and nothing else of the controller changes. -/
def Obligations.IntegerAluResults : Prop :=
  let any : Nat → Nat → Nat → Bool := fun _ _ _ => true
  let bZero : Nat → Nat → Nat → Bool := fun _ _ b => b == 0
  let clamp : Int → Word := fun i => BitVec.ofInt 32 (max (-2147483648) (min 2147483647 i))
  aluGives .add any (fun e d a b => [.v d (e.rv a + e.rv b)])
  ∧ aluGives .sub any (fun e d a b => [.v d (e.rv a - e.rv b)])
  ∧ aluGives .adds any (fun e d a b => [.v d (clamp ((e.rv a).toInt + (e.rv b).toInt))])
  ∧ aluGives .subs any (fun e d a b => [.v d (clamp ((e.rv a).toInt - (e.rv b).toInt))])
  ∧ aluGives .andWord any (fun e d a b => [.v d (e.rv a &&& e.rv b)])
  ∧ aluGives .orWord any (fun e d a b => [.v d (e.rv a ||| e.rv b)])
  ∧ aluGives .xor any (fun e d a b => [.v d (e.rv a ^^^ e.rv b)])
  ∧ aluGives .shl any (fun e d a b => [.v d (e.rv a <<< ((e.rv b).toNat % 32))])
  ∧ aluGives .shr any (fun e d a b => [.v d (e.rv a >>> ((e.rv b).toNat % 32))])
  ∧ aluGives .sar any (fun e d a b => [.v d ((e.rv a).sshiftRight ((e.rv b).toNat % 32))])
  ∧ aluGives .minWord any (fun e d a b => [.v d (if (e.rv a).toInt ≤ (e.rv b).toInt then e.rv a else e.rv b)])
  ∧ aluGives .maxWord any (fun e d a b => [.v d (if (e.rv a).toInt ≤ (e.rv b).toInt then e.rv b else e.rv a)])
  ∧ aluGives .mulq31 any (fun e d a b => [.v d (clamp (((e.rv a).toInt * (e.rv b).toInt + 2 ^ 30) / 2 ^ 31))])
  ∧ aluGives .mulq16 any (fun e d a b => [.v d (clamp (((e.rv a).toInt * (e.rv b).toInt + 2 ^ 15) / 2 ^ 16))])
  ∧ aluGives .mull any (fun e d a b => [.v d (BitVec.ofInt 32 ((e.rv a).toInt * (e.rv b).toInt))])
  ∧ aluGives .mov bZero (fun e d a _ => [.v d (e.rv a)])
  ∧ aluGives .abss bZero (fun e d a _ => [.v d (clamp |(e.rv a).toInt|)])
  ∧ aluGives .negs bZero (fun e d a _ => [.v d (clamp (-(e.rv a).toInt))])
  ∧ aluGives .nopWord (fun d a b => d == 0 && a == 0 && b == 0) (fun _ _ _ _ => [])
  ∧ (∀ (env : WordEnv) (d a b : BitVec 5) (s : State), s.dev.wordReady env 1 →
    let x : WithAlu0 := { alu1 := 0, mem := 0 }
    ∀ i ∈ [Instr.add env d a b x, .sub env d a b x, .adds env d a b x, .subs env d a b x, .andWord env d a b x,
        .orWord env d a b x, .xor env d a b x, .shl env d a b x, .shr env d a b x, .sar env d a b x, .minWord env d a b x,
        .maxWord env d a b x, .mulq31 env d a b x, .mulq16 env d a b x, .mull env d a b x, .mov env d a 0 x, .abss env d a 0 x,
        .negs env d a 0 x, .nopWord env 0 0 0 x],
      ∃ t, exec i s = .next t ∧ t.pending = s.pending ∧ t.dev.eng[env.eng].pc = s.dev.eng[env.eng].pc + 1
        ∧ t.dev.eng[env.eng].words = s.dev.eng[env.eng].words + 1 ∧ ∀ r, t.dev.rd r = s.dev.rd r)

/-- Accumulators, predicates and table pointers: MAC, MSU, WSET, WEXT, the integer compares, the predicate opcodes, SEL,
TCUR, TGET and TBIND (R239, R242). In a word whose other slots are NOPs, with fields that name registers of their class,
each of them completes. -/
def Obligations.AccumulatorPredicatePointerResults : Prop :=
  let any : Nat → Nat → Nat → Bool := fun _ _ _ => true
  let wD : Nat → Nat → Nat → Bool := fun d _ _ => decide (d ≤ 3)
  let pD : Nat → Nat → Nat → Bool := fun d _ _ => decide (d ≤ 7)
  let ppp : Nat → Nat → Nat → Bool := fun d a b => decide (d ≤ 7 ∧ a ≤ 7 ∧ b ≤ 7)
  let clamp : Int → Word := fun i => BitVec.ofInt 32 (max (-2147483648) (min 2147483647 i))
  let clamp64 : Int → DWord := fun i => BitVec.ofInt 64 (max (-9223372036854775808) (min 9223372036854775807 i))
  aluGives .mac wD (fun e d a b => [.w d (clamp64 (e.rw' d + (e.rv a).toInt * (e.rv b).toInt))])
  ∧ aluGives .msu wD (fun e d a b => [.w d (clamp64 (e.rw' d - (e.rv a).toInt * (e.rv b).toInt))])
  ∧ aluGives .wset wD (fun e d a b => [.w d (e.rv a ++ e.rv b)])
  ∧ aluGives .wext (fun _ a _ => decide (a ≤ 3)) (fun e d a b =>
      let s := (e.rv b).toNat % 64
      [.v d (clamp (if s = 0 then e.rw' a else (e.rw' a + 2 ^ (s - 1)) / 2 ^ s))])
  ∧ aluGives .ceq pD (fun e d a b => [.p d (e.rv a == e.rv b)])
  ∧ aluGives .clt pD (fun e d a b => [.p d (decide ((e.rv a).toInt < (e.rv b).toInt))])
  ∧ aluGives .cle pD (fun e d a b => [.p d (decide ((e.rv a).toInt ≤ (e.rv b).toInt))])
  ∧ aluGives .cltu pD (fun e d a b => [.p d (decide ((e.rv a).toNat < (e.rv b).toNat))])
  ∧ aluGives .pand ppp (fun e d a b => [.p d (e.rp a && e.rp b)])
  ∧ aluGives .por ppp (fun e d a b => [.p d (e.rp a || e.rp b)])
  ∧ aluGives .pnot (fun d a b => decide (d ≤ 7 ∧ a ≤ 7 ∧ b = 0)) (fun e d a _ => [.p d (!e.rp a)])
  ∧ aluGives .p2v (fun _ a b => decide (a = 0 ∧ b = 0)) (fun e d _ _ =>
      [.v d (BitVec.ofNat 32 (((List.range 8).map (fun i => (e.rp i).toNat * 2 ^ i)).sum))])
  ∧ aluGives .v2p (fun d _ b => decide (d = 0 ∧ b = 0)) (fun e _ a _ =>
      (List.range 8).map (fun i => .p i ((e.rv a).toNat.testBit i)))
  ∧ aluGives .tcur (fun d _ b => decide (d ≤ 3 ∧ b = 0)) (fun e d a _ => [.cur d (e.rv a)])
  ∧ aluGives .tget (fun _ a b => decide (a ≤ 3 ∧ b = 0)) (fun e d a _ => [.v d (e.rt a).cur])
  ∧ (∀ k : Fin 8, aluGives (fun env d a b x => .sel env k d a b x) any
      (fun e d a b => [.v d (if e.rp k.val then e.rv a else e.rv b)]))
  ∧ (∀ env d a x ps img (s : State), s.dev.wordReady env 1 → d.toNat ≤ 3 → s.dev.eng[env.eng].img = some img →
      a.toNat < img.descs.length → x.mem = 0 → s.dev.eng[env.eng].alu none false x.alu1.toNat = .ok ps →
      collide (Put.bind d.toNat a.toNat :: ps) = false →
      ∃ t, exec (.tbind env d a 0 x) s = .next t ∧ t.dev = s.dev.begin.afterWord env (.bind d.toNat a.toNat :: ps) 1 id)
  ∧ (∀ env d a img (s : State), s.dev.wordReady env 1 → d.toNat ≤ 3 → s.dev.eng[env.eng].img = some img →
      a.toNat < img.descs.length →
      ∃ t, exec (.tbind env d a 0 { alu1 := 0, mem := 0 }) s = .next t ∧ t.pending = s.pending
        ∧ t.dev = s.dev.begin.afterWord env [.bind d.toNat a.toNat] 1 id)
  ∧ (∀ (env : WordEnv) (d a b : BitVec 5) (k : Fin 8) (s : State), s.dev.wordReady env 1 →
    let x : WithAlu0 := { alu1 := 0, mem := 0 }
    ∀ i ∈ [Instr.mac env (d &&& 3) a b x, .msu env (d &&& 3) a b x, .wset env (d &&& 3) a b x, .wext env d (a &&& 3) b x,
        .ceq env (d &&& 7) a b x, .clt env (d &&& 7) a b x, .cle env (d &&& 7) a b x, .cltu env (d &&& 7) a b x,
        .pand env (d &&& 7) (a &&& 7) (b &&& 7) x, .por env (d &&& 7) (a &&& 7) (b &&& 7) x, .pnot env (d &&& 7) (a &&& 7) 0 x,
        .p2v env d 0 0 x, .v2p env 0 a 0 x, .tcur env (d &&& 3) a 0 x, .tget env d (a &&& 3) 0 x, .sel env k d a b x],
      ∃ t, exec i s = .next t ∧ t.pending = s.pending ∧ t.dev.eng[env.eng].pc = s.dev.eng[env.eng].pc + 1
        ∧ t.dev.eng[env.eng].words = s.dev.eng[env.eng].words + 1 ∧ ∀ r, t.dev.rd r = s.dev.rd r)

/-- binary32 opcodes (R240 to R242). In a word whose other slots are NOPs each of them completes. Where the word's fields
are allowed it writes what `fadd` and its siblings give for the operands, the whole word's effect being that.

What those are (R240, R241), with `val w x` for a word that stands for the number `x` (a subnormal is a zero): sum,
difference, product, FMA, FMS and CVTXF round the exact value once, to the nearest binary32 with ties to the even word
(`rounds`), to a zero of its sign below the normal range and to an infinity of its sign above; infinities add and
multiply as in IEEE 754; an invalid operation and a NaN operand give 7FC0_0000h; a comparison compares the numbers and is
false with a NaN; FMIN and FMAX give the lesser and the greater operand, the other one where one is a NaN; the estimates
FRCP and FRSQ are within 2⁻¹⁴ of the exact value; CVTFX floors, CVTFXR rounds to nearest, ties to even, and both
saturate. -/
def Obligations.Binary32Words : Prop :=
  (
  let any : Nat → Nat → Nat → Bool := fun _ _ _ => true
  let bZero : Nat → Nat → Nat → Bool := fun _ _ b => b == 0
  let pD : Nat → Nat → Nat → Bool := fun d _ _ => decide (d ≤ 7)
  (∀ (env : WordEnv) (d a b : BitVec 5) (s : State), s.dev.wordReady env 1 →
    let x : WithAlu0 := { alu1 := 0, mem := 0 }
    ∀ i ∈ [Instr.fadd env d a b x, .fsub env d a b x, .fmul env d a b x, .fma env d a b x, .fms env d a b x,
        .fmin env d a b x, .fmax env d a b x, .fceq env (d &&& 7) a b x, .fclt env (d &&& 7) a b x, .fcle env (d &&& 7) a b x,
        .frcp env d a 0 x, .frsq env d a 0 x, .cvtxf env d a b x, .cvtfx env d a b x, .cvtfxr env d a b x],
      ∃ t, exec i s = .next t ∧ t.pending = s.pending ∧ t.dev.eng[env.eng].pc = s.dev.eng[env.eng].pc + 1
        ∧ t.dev.eng[env.eng].words = s.dev.eng[env.eng].words + 1 ∧ ∀ r, t.dev.rd r = s.dev.rd r)
  ∧ aluGives .fadd any (fun e d a b => [.v d (fadd (e.rv a) (e.rv b))])
  ∧ aluGives .fsub any (fun e d a b => [.v d (fsub (e.rv a) (e.rv b))])
  ∧ aluGives .fmul any (fun e d a b => [.v d (fmul (e.rv a) (e.rv b))])
  ∧ aluGives .fma any (fun e d a b => [.v d (fma (e.rv d) (e.rv a) (e.rv b))])
  ∧ aluGives .fms any (fun e d a b => [.v d (fms (e.rv d) (e.rv a) (e.rv b))])
  ∧ aluGives .fmin any (fun e d a b => [.v d (fmin (e.rv a) (e.rv b))])
  ∧ aluGives .fmax any (fun e d a b => [.v d (fmax (e.rv a) (e.rv b))])
  ∧ aluGives .fceq pD (fun e d a b => [.p d (fceq (e.rv a) (e.rv b))])
  ∧ aluGives .fclt pD (fun e d a b => [.p d (fclt (e.rv a) (e.rv b))])
  ∧ aluGives .fcle pD (fun e d a b => [.p d (fcle (e.rv a) (e.rv b))])
  ∧ aluGives .frcp bZero (fun e d a _ => [.v d (frcp (e.rv a))])
  ∧ aluGives .frsq bZero (fun e d a _ => [.v d (frsq (e.rv a))])
  ∧ aluGives .cvtxf any (fun e d a b => [.v d (cvtxf (e.rv a).toInt b)])
  ∧ aluGives .cvtfx any (fun e d a b => [.v d (cvtfx (e.rv a) b)])
  ∧ aluGives .cvtfxr any (fun e d a b => [.v d (cvtfxr (e.rv a) b)]))
  ∧ (
  let val (w : Word) (x : Rat) : Prop := FVal.ofWord w = .num x ∨ x = 0 ∧ ∃ n, FVal.ofWord w = .zero n
  let rounds (x : Rat) (w : Word) : Prop :=
    (x = 0 → ∃ n, FVal.ofWord w = .zero n)
    ∧ (x ≠ 0 → |x| < 1 / 2 ^ 126 - 1 / 2 ^ 150 → FVal.ofWord w = .zero (decide (x < 0)))
    ∧ (1 / 2 ^ 126 ≤ |x| → |x| < (2 ^ 25 - 1) * 2 ^ 103 → ∃ r, FVal.ofWord w = .num r
        ∧ ∀ v y, FVal.ofWord v = .num y → |r - x| ≤ |y - x| ∧ (|r - x| = |y - x| → y ≠ r → w.toNat % 2 = 0))
    ∧ ((2 ^ 25 - 1) * 2 ^ 103 ≤ |x| → FVal.ofWord w = .inf (decide (x < 0)))
  let nan : Word := 0x7FC00000#32
  let clamp (z : Int) : Word := BitVec.ofInt 32 (max (-2147483648) (min 2147483647 z))
  let near : Rat := 1 / 2 ^ 14
  (∀ (a b c : Word) (p q r : Rat), val a p → val b q → val c r →
    rounds (p + q) (fadd a b) ∧ rounds (p - q) (fsub a b) ∧ rounds (p * q) (fmul a b)
    ∧ rounds (r + p * q) (fma c a b) ∧ rounds (r - p * q) (fms c a b)
    ∧ fceq a b = decide (p = q) ∧ fclt a b = decide (p < q) ∧ fcle a b = decide (p ≤ q))
  ∧ (∀ (i : Int) (k : Nat), k < 32 → rounds (i / 2 ^ k) (cvtxf i k))
  ∧ (∀ a b c : Word, FVal.ofWord a = .nan → fadd a b = nan ∧ fadd b a = nan ∧ fsub a b = nan ∧ fsub b a = nan
    ∧ fmul a b = nan ∧ fmul b a = nan ∧ fma a b c = nan ∧ fma b a c = nan ∧ fma b c a = nan ∧ fms a b c = nan
    ∧ fms b a c = nan ∧ fms b c a = nan ∧ frcp a = nan ∧ frsq a = nan
    ∧ fceq a b = false ∧ fceq b a = false ∧ fclt a b = false ∧ fclt b a = false ∧ fcle a b = false ∧ fcle b a = false
    ∧ fmin a b = (FVal.ofWord b).toWord ∧ fmax a b = (FVal.ofWord b).toWord
    ∧ fmin b a = (FVal.ofWord b).toWord ∧ fmax b a = (FVal.ofWord b).toWord)
  ∧ (∀ (a b : Word) (n : Bool), FVal.ofWord a = .inf n → FVal.ofWord b ≠ .nan →
    fadd a b = (if FVal.ofWord b = .inf (!n) then nan else (FVal.inf n).toWord)
    ∧ fsub a b = (if FVal.ofWord b = .inf n then nan else (FVal.inf n).toWord)
    ∧ (∀ m, FVal.ofWord b = .zero m → fmul a b = nan ∧ fmul b a = nan)
    ∧ (∀ y, FVal.ofWord b = .num y → fmul a b = (FVal.inf (n != decide (y < 0))).toWord ∧ fmul b a = fmul a b
        ∧ fclt a b = n ∧ fclt b a = !n ∧ fceq a b = false))
  ∧ (∀ a b : Word, FVal.ofWord a ≠ .nan → FVal.ofWord b ≠ .nan →
    (fmin a b = (FVal.ofWord a).toWord ∨ fmin a b = (FVal.ofWord b).toWord)
    ∧ (fmax a b = (FVal.ofWord a).toWord ∨ fmax a b = (FVal.ofWord b).toWord)
    ∧ fclt a (fmin a b) = false ∧ fclt b (fmin a b) = false ∧ fclt (fmax a b) a = false ∧ fclt (fmax a b) b = false)
  ∧ (∀ (a : Word) (q : Rat), FVal.ofWord a = .num q →
    (|q| ≤ 2 ^ 125 → ∃ y, FVal.ofWord (frcp a) = .num y ∧ |q * y - 1| ≤ near)
    ∧ (0 < q → ∃ y, FVal.ofWord (frsq a) = .num y ∧ 0 < y ∧ (1 - near) ^ 2 ≤ q * y ^ 2 ∧ q * y ^ 2 ≤ (1 + near) ^ 2)
    ∧ (q < 0 → frsq a = nan)
    ∧ (∀ k < 32, cvtfx a k = clamp (q * 2 ^ k).floor
        ∧ ∃ z : Int, cvtfxr a k = clamp z ∧ |(z : Rat) - q * 2 ^ k| ≤ 1 / 2
          ∧ (|(z : Rat) - q * 2 ^ k| = 1 / 2 → z % 2 = 0)))
  ∧ (∀ (a : Word) (n : Bool) (k : Nat),
    (FVal.ofWord a = .zero n → frcp a = (FVal.inf n).toWord ∧ (n = false → frsq a = (FVal.inf false).toWord)
      ∧ cvtfx a k = 0 ∧ cvtfxr a k = 0)
    ∧ (FVal.ofWord a = .inf n → frcp a = (FVal.zero n).toWord ∧ frsq a = (if n then nan else 0)
      ∧ cvtfx a k = clamp (if n then -2147483648 else 2147483647) ∧ cvtfxr a k = cvtfx a k)
    ∧ (FVal.ofWord a = .nan → cvtfx a k = 0 ∧ cvtfxr a k = 0)))

/-- A reserved value of a field that must be 0 or must name a register of its class raises ILLEGAL 2h, and the word has
no other effect (R242, R251, R252).

A word past the program, an uncorrectable fetched word and a word that reaches the budget of its task stop the engine
(R223, R229): ILLEGAL 2h, ECC 4h and BUDGET 1h, each with sub-code 1h. So does a word that program memory holds with a
reserved format, ILLEGAL sub-code 1h, or a reserved IMOP, sub-code 2h (R235, R236). The word writes nothing.

An engine exception (R229, R230) on the member that does not drive the portal: EXC holds the code, the sub-code, the
tick mask, the task and VALID, EXC_PC the word, STATUS.RUN reads 2, no task is left, the registers and the data memory
of the engine stand, and nothing else of the controller changes. -/
def Obligations.EngineExceptions : Prop :=
  (
  let bZero : Nat → Nat → Nat → Bool := fun _ _ b => b == 0
  let wD : Nat → Nat → Nat → Bool := fun d _ _ => decide (d ≤ 3)
  let pD : Nat → Nat → Nat → Bool := fun d _ _ => decide (d ≤ 7)
  let ppp : Nat → Nat → Nat → Bool := fun d a b => decide (d ≤ 7 ∧ a ≤ 7 ∧ b ≤ 7)
  aluTraps .mov bZero ∧ aluTraps .abss bZero ∧ aluTraps .negs bZero ∧ aluTraps .frcp bZero ∧ aluTraps .frsq bZero
  ∧ aluTraps .mac wD ∧ aluTraps .msu wD ∧ aluTraps .wset wD ∧ aluTraps .wext (fun _ a _ => decide (a ≤ 3))
  ∧ aluTraps .ceq pD ∧ aluTraps .clt pD ∧ aluTraps .cle pD ∧ aluTraps .cltu pD
  ∧ aluTraps .fceq pD ∧ aluTraps .fclt pD ∧ aluTraps .fcle pD ∧ aluTraps .pand ppp ∧ aluTraps .por ppp
  ∧ aluTraps .nopWord (fun d a b => d == 0 && a == 0 && b == 0)
  ∧ aluTraps .tcur (fun d _ b => decide (d ≤ 3 ∧ b = 0)) ∧ aluTraps .tget (fun _ a b => decide (a ≤ 3 ∧ b = 0)))
  ∧ (
  ∀ env (task : TaskDesc) (s : State), s.dev.taskOn env.eng = some task →
    let trap (sub code : Nat) : Dev :=
      ((s.dev.begin.upTo env.t).modEng env.eng (fun e => { e with stepping := true })).engException env.eng code sub
    (∀ reg x, 3071 < s.dev.eng[env.eng].pc →
      ∃ t, exec (.memNop env reg 0 0 x) s = .next t ∧ t.dev = trap 1 2)
    ∧ (∀ reg x, s.dev.eng[env.eng].pc ≤ 3071 → env.fetch = .bad →
      ∃ t, exec (.memNop env reg 0 0 x) s = .next t ∧ t.dev = trap 1 4)
    ∧ (∀ reg x, s.dev.eng[env.eng].pc ≤ 3071 → env.fetch = .good → env.code = .asRow → x.alu0 = 0 → x.alu1 = 0 →
        task.wcet ≤ s.dev.eng[env.eng].words + 1 →
      ∃ t, exec (.memNop env reg 0 0 x) s = .next t ∧ t.dev = trap 1 1)
    ∧ (∀ reg x (f : Fin 2), s.dev.eng[env.eng].pc ≤ 3071 → env.fetch = .good → env.code = .format f →
        s.dev.eng[env.eng].words + 1 < task.wcet →
      ∃ t, exec (.memNop env reg 0 0 x) s = .next t ∧ t.dev = trap 1 2)
    ∧ (∀ alu0 imm dest ps (k : Fin 14), s.dev.eng[env.eng].pc ≤ 3071 → env.fetch = .good → env.code = .imop k →
        s.dev.eng[env.eng].words + 1 < task.wcet → s.dev.eng[env.eng].alu none false alu0.toNat = .ok ps → collide ps = false →
      ∃ t, exec (.movi env alu0 imm dest) s = .next t ∧ t.dev = trap 2 2))
  ∧ (
  ∀ (d : Dev) (n : Slot) (code sub : Nat) (task : TaskDesc), (d.enabled n && d.drives n) = false →
    d.taskOn n = some task → task.id < 64 → code < 16 → sub < 16 → d.eng[n].pc < 4096 →
    let d' := d.engException n code sub
    fld (d'.rd (Reg.ENG_EXC n)) 3 0 = code ∧ fld (d'.rd (Reg.ENG_EXC n)) 7 4 = sub
    ∧ fld (d'.rd (Reg.ENG_EXC n)) 11 8 = d.rdF (Reg.ENG_STATUS n) 11 8
    ∧ fld (d'.rd (Reg.ENG_EXC n)) 21 16 = task.id ∧ bit (d'.rd (Reg.ENG_EXC n)) 31 = true
    ∧ d'.rd (Reg.ENG_EXC_PC n) = wn d.eng[n].pc ∧ d'.rdF (Reg.ENG_STATUS n) 1 0 = 2 ∧ d'.rdB (Reg.ENG_FLAGS n) 0 = true
    ∧ d'.eng[n].task = none ∧ d'.eng[n].rest = [] ∧ d'.eng[n].excDue = true
    ∧ d'.eng[n].v = d.eng[n].v ∧ d'.eng[n].w = d.eng[n].w ∧ d'.eng[n].p = d.eng[n].p ∧ d'.eng[n].t = d.eng[n].t
    ∧ d'.eng[n].data = d.eng[n].data ∧ (∀ m, m ≠ n → d'.eng[m] = d.eng[m])
    ∧ d.changes d' [.eng, .portal] [Reg.ENG_EXC n, Reg.ENG_EXC_PC n, Reg.ENG_STATUS n, Reg.ENG_FLAGS n])

/-- Data memory (R243): LDD, LDDH, LDDX read a word, STD, STDH, STDX write one, MEM_NOP does neither; pages hold 512
words, the upper half of the memory starts at word 2 048, and the indexed forms take any word of the memory. In a word
whose ALU slots are NOPs each of them completes.

The data memory is a memory: a read after a write of one word gives the word written and leaves every other word, and
a write keeps the memory's canonical form. -/
def Obligations.DataMemory : Prop :=
  (
  let word : Engine → Nat → Word := fun e a => Cells.read zeroCell e.data a
  let store : Nat → Word → Engine → Engine := fun a x e => { e with data := Cells.write zeroCell e.data a x }
  let index : Dev → Slot → Nat → Nat → Option Nat := fun d n tp off =>
    let i : Int := (d.eng[n].rt tp).cur.toInt + off
    if 0 ≤ i ∧ i < 4096 then some i.toNat else none
  memGives .ldd 1 (fun d n r tp off => some ([.v r (word d.eng[n] (tp * 512 + off))], id))
  ∧ memGives .lddh 1 (fun d n r tp off => some ([.v r (word d.eng[n] (2048 + tp * 512 + off))], id))
  ∧ memGives .lddx 1 (fun d n r tp off => (index d n tp off).map (fun i => ([.v r (word d.eng[n] i)], id)))
  ∧ memGives .std 1 (fun d n r tp off => some ([], store (tp * 512 + off) (d.eng[n].rv r)))
  ∧ memGives .stdh 1 (fun d n r tp off => some ([], store (2048 + tp * 512 + off) (d.eng[n].rv r)))
  ∧ memGives .stdx 1 (fun d n r tp off => (index d n tp off).map (fun i => ([], store i (d.eng[n].rv r))))
  ∧ memGives .memNop 1 (fun _ _ _ tp off => if tp = 0 ∧ off = 0 then some ([], id) else none)
  ∧ (∀ (env : WordEnv) (reg : BitVec 5) (tp : BitVec 2) (off : BitVec 9) (s : State), s.dev.wordReady env 1 → env.read = .good →
    let x : WithMem := { alu0 := 0, alu1 := 0 }
    let done (i : Instr) : Prop :=
      ∃ t, exec i s = .next t ∧ t.pending = s.pending ∧ t.dev.eng[env.eng].pc = s.dev.eng[env.eng].pc + 1
        ∧ t.dev.eng[env.eng].words = s.dev.eng[env.eng].words + 1 ∧ ∀ r, t.dev.rd r = s.dev.rd r
    (∀ i ∈ [Instr.ldd env reg tp off x, .lddh env reg tp off x, .std env reg tp off x, .stdh env reg tp off x,
        .memNop env reg 0 0 x], done i)
    ∧ (0 ≤ (s.dev.eng[env.eng].rt tp.toNat).cur.toInt + off.toNat → (s.dev.eng[env.eng].rt tp.toNat).cur.toInt + off.toNat < 4096 →
        ∀ i ∈ [Instr.lddx env reg tp off x, .stdx env reg tp off x], done i)))
  ∧ (
  ∀ (m : Cells 32) (a b : Nat) (x : Word),
    Cells.read zeroCell (Cells.write zeroCell m a x) b = (if a = b then x else Cells.read zeroCell m b)
    ∧ (Cells.wf zeroCell m = true → Cells.wf zeroCell (Cells.write zeroCell m a x) = true))

/-- Table memory (R13, R244, R246): through a pointer bound to a FIXED descriptor without WRAP, LDT reads the 32-bit
element CUR + OFF, LDTH the 16-bit element, sign-extended, LDTHP that one and the next (the last again at the window's
end). Each element is stored least significant byte first.

Loads of the IO window (R249, R250) take a value as it stood at the last strobe instant: LDIO of unit 0 the
registers of the portal's page, LDIO2 of unit 7 word 13 the sample tick.

Stores into the IO window (R121, R164, R250, R288, R308): STIO of unit 0 writes CMD_STATUS, DECEL and the accumulators
of the portal's page; STIO2 of unit 7 asks for the surrender of the portal at the next strobe (word 17, not in Solo),
writes a publication slot of the slide axis (words 41 to 55), and a word of the record mailbox (words 65 to 122). The
word's other slots complete with it. -/
def Obligations.TablesAndIoSpace : Prop :=
  (
  let soff : Nat → Int := fun off => if off < 256 then (off : Int) else (off : Int) - 512
  let half : Dev → Nat → Word := fun d a =>
    BitVec.signExtend 32 (Cells.read zeroCell d.tmem (a + 1) ++ Cells.read zeroCell d.tmem a)
  let full : Dev → Nat → Word := fun d a =>
    Cells.read zeroCell d.tmem (a + 3) ++ Cells.read zeroCell d.tmem (a + 2) ++ Cells.read zeroCell d.tmem (a + 1)
      ++ Cells.read zeroCell d.tmem a
  let fixed : Dev → Slot → Nat → Option (Nat × Nat) := fun d n tp =>
    match (d.eng[n].rt tp).desc, d.eng[n].img with
    | some k, some i => match i.descs[k]? with
      | some (.fixed false base len) => some (base, len)
      | _ => none
    | _, _ => none
  let elem : Dev → Slot → Nat → Nat → Nat → Option (Nat × Bool) := fun d n tp off sz =>
    (fixed d n tp).bind (fun w =>
      let i := (d.eng[n].rt tp).cur.toInt + soff off
      if 0 ≤ i ∧ (i + 1) * sz ≤ w.2 then some (w.1 + i.toNat * sz, decide ((i + 2) * sz ≤ w.2)) else none)
  memGives .ldt 3 (fun d n r tp off => (elem d n tp off 4).map (fun a => ([.v r (full d a.1)], id)))
  ∧ memGives .ldth 3 (fun d n r tp off => (elem d n tp off 2).map (fun a => ([.v r (half d a.1)], id)))
  ∧ memGives .ldthp 5 (fun d n r tp off =>
      if r % 2 = 0 ∧ r ≠ 0 then
        (elem d n tp off 2).map (fun a => ([.v r (half d a.1), .v (r + 1) (half d (if a.2 then a.1 + 2 else a.1))], id))
      else none)
  ∧ (∀ (env : WordEnv) (reg : BitVec 5) (tp : BitVec 2) (off : BitVec 9) (k base len : Nat) (img : EngImage) (s : State),
      let e := s.dev.eng[env.eng]
      let i : Int := (e.rt tp.toNat).cur.toInt + soff off.toNat
      let x : WithMem := { alu0 := 0, alu1 := 0 }
      let done (w : Instr) (charge : Nat) : Prop := s.dev.wordReady env charge →
        ∃ t, exec w s = .next t ∧ t.pending = s.pending ∧ t.dev.eng[env.eng].pc = e.pc + 1
          ∧ t.dev.eng[env.eng].words = e.words + charge ∧ ∀ r, t.dev.rd r = s.dev.rd r
      env.read = .good → (e.rt tp.toNat).desc = some k → e.img = some img → img.descs[k]? = some (.fixed false base len) →
      0 ≤ i →
      ((i + 1) * 4 ≤ len → done (.ldt env reg tp off x) 3)
      ∧ ((i + 1) * 2 ≤ len → done (.ldth env reg tp off x) 3 ∧ (reg.toNat % 2 = 0 → reg ≠ 0 → done (.ldthp env reg tp off x) 5))))
  ∧ (
  memGives .ldio 2 (fun d n r tp off => if tp = 0 ∧ off = 0 then
      some ([.v r (Cells.read resetOf d.snap (Reg.PRT_STATE n))], id) else none)
  ∧ memGives .ldio2 2 (fun d _ r tp off => if tp = 3 ∧ off = 13 then
      some ([.v r (Cells.read resetOf d.snap Reg.TBS_SAMPLE_TICK)], id) else none)
  ∧ (∀ (env : WordEnv) (reg : BitVec 5) (s : State), s.dev.wordReady env 2 → env.read = .good →
      let x : WithMem := { alu0 := 0, alu1 := 0 }
      ∀ i ∈ [Instr.ldio env reg 0 0 x, .ldio2 env reg 3 13 x],
        ∃ t, exec i s = .next t ∧ t.pending = s.pending ∧ t.dev.eng[env.eng].pc = s.dev.eng[env.eng].pc + 1
          ∧ t.dev.eng[env.eng].words = s.dev.eng[env.eng].words + 2 ∧ ∀ r, t.dev.rd r = s.dev.rd r))
  ∧ (
  let stores : (WordEnv → BitVec 5 → BitVec 2 → BitVec 9 → WithMem → Instr) → BitVec 2 → (Dev → Slot → Nat → Prop) →
      (Dev → Slot → Nat → Word → Dev) → Prop := fun op tp pre eff =>
    ∀ env reg off x ps qs (s : State), s.dev.wordReady env 1 → pre s.dev env.eng off.toNat →
      s.dev.eng[env.eng].alu none false x.alu0.toNat = .ok ps → s.dev.eng[env.eng].alu none false x.alu1.toNat = .ok qs →
      collide (ps ++ qs) = false →
      ∃ t, exec (op env reg tp off x) s = .next t ∧
        t.dev = (eff s.dev.begin env.eng off.toNat (s.dev.eng[env.eng].rv reg.toNat)).afterWord env (ps ++ qs) 1 id
  stores .stio 0 (fun _ _ off => off = 3 ∨ off = 15 ∨ 16 ≤ off ∧ off ≤ 27 ∨ 72 ≤ off ∧ off ≤ 83)
      (fun d n off v => d.wr (Reg.PRT_STATE n + 4 * off) v)
  ∧ stores .stio2 3 (fun d _ off => off = 17 ∧ d.solo = false)
      (fun d n _ v => d.modEng n (fun e => { e with surrReq := e.surrReq || bit v 0 }))
  ∧ (∀ a : Sax, stores .stio2 3 (fun d n off => d.slideAx n = some a ∧ 41 ≤ off ∧ off ≤ 55)
      (fun d _ off v => d.modServo a (fun x => { x with pub := x.pub.set (off - 41) v })))
  ∧ stores .stio2 3 (fun _ _ off => 65 ≤ off ∧ off ≤ 122)
      (fun d n off v => d.modRcd (fun r => { r with
        mbx := r.mbx.set n (Cells.write zeroCell (r.mbx.getD n []) (off - 64) v) }))
  ∧ (∀ (env : WordEnv) (reg : BitVec 5) (s : State), s.dev.wordReady env 1 →
      let x : WithMem := { alu0 := 0, alu1 := 0 }
      ∀ i ∈ [Instr.stio env reg 0 16 x, .stio2 env reg 3 65 x],
        ∃ t, exec i s = .next t ∧ t.pending = s.pending ∧ t.dev.eng[env.eng].pc = s.dev.eng[env.eng].pc + 1
          ∧ t.dev.eng[env.eng].words = s.dev.eng[env.eng].words + 1 ∧ ∀ r, r ≠ Reg.PRT_STATE env.eng + 64 → t.dev.rd r = s.dev.rd r))

/-- A 32-bit literal (R236): MOVI writes it to a value register beside the ALU slot, FEED gives it to the ALU slot as
operand B (as a predicate operand it is a free value, log 54), with the slot's own B field and the destination field 0;
other values of those two raise ILLEGAL 2h, sub-code 2h.

The end of a task (R216, R223, R238, R243): with no task left in the row the tick is done and its statistics are
written; otherwise the next task starts at the dispatch entry its selector names, with every register cleared, every
table pointer unbound, and 8 words charged. -/
def Obligations.LiteralsAndTaskEnd : Prop :=
  (
  (∀ env imm dest (s : State), s.dev.wordReady env 1 →
      ∃ t, exec (.movi env 0 imm dest) s = .next t ∧ t.pending = s.pending
        ∧ t.dev = s.dev.begin.afterWord env [.v dest.toNat imm] 1 id)
  ∧ (∀ env imm (s : State), s.dev.wordReady env 1 →
      ∃ t, exec (.feed env 0 imm 0) s = .next t ∧ t.pending = s.pending ∧ t.dev = s.dev.begin.afterWord env [] 1 id)
  ∧ (∀ env alu0 imm dest ps (s : State), s.dev.wordReady env 1 → s.dev.eng[env.eng].alu none false alu0.toNat = .ok ps →
      collide (ps ++ [.v dest.toNat imm]) = false →
      ∃ t, exec (.movi env alu0 imm dest) s = .next t ∧
        t.dev = s.dev.begin.afterWord env (ps ++ [.v dest.toNat imm]) 1 id)
  ∧ (∀ env alu0 imm (ps : Bool → List Put) (s : State), s.dev.wordReady env 1 → alu0.toNat % 32 = 0 →
      (∀ f, s.dev.eng[env.eng].alu (some imm) f alu0.toNat = .ok (ps f) ∧ collide (ps f) = false) →
      ∃ t f, exec (.feed env alu0 imm 0) s = .next t ∧ t.dev = s.dev.begin.afterWord env (ps f) 1 id)
  ∧ (∀ env alu0 imm dest (ps : Bool → List Put) (s : State), s.dev.wordReady env 1 → alu0.toNat % 32 ≠ 0 ∨ dest ≠ 0 →
      (∀ f, s.dev.eng[env.eng].alu (some imm) f alu0.toNat = .ok (ps f) ∧ collide (ps f) = false) →
      ∃ t, exec (.feed env alu0 imm dest) s = .next t ∧
        t.dev = ((s.dev.begin.upTo env.t).modEng env.eng (fun e => { e with stepping := true })).engException env.eng 2 2)
  ∧ (∀ (e : Engine) (imm : Word) (f : Bool) (d a : Nat), d < 32 → a < 32 →
      e.alu (some imm) f (0x02 * 2 ^ 15 + d * 2 ^ 10 + a * 2 ^ 5) = .ok [.v d (e.rv a + imm)]))
  ∧ (
  let ends : (Dev → Slot → Prop) → (Dev → Dev → Slot → Prop) → Prop := fun pre post =>
    ∀ env reg x ps qs task (s : State), s.dev.taskOn env.eng = some task → s.dev.eng[env.eng].pc ≤ 3071 →
      s.dev.eng[env.eng].words + 1 ≤ task.wcet → env.fetch = .good → env.code = .asRow →
      s.dev.eng[env.eng].alu none false x.alu0.toNat = .ok ps → s.dev.eng[env.eng].alu none false x.alu1.toNat = .ok qs →
      collide (ps ++ qs) = false → env.sel = .good → env.entry = .good → pre s.dev env.eng →
      ∃ t, exec (.endWord env reg 0 0 x) s = .next t ∧ t.dev.now = max s.dev.now env.t
        ∧ (∀ m, m ≠ env.eng → t.dev.eng[m] = s.dev.eng[m]) ∧ t.dev.eng[env.eng].data = s.dev.eng[env.eng].data
        ∧ post s.dev.begin t.dev env.eng
  ends (fun d n => d.eng[n].rest = []) (fun d d' n =>
      d'.eng[n].task = none ∧ d'.rd (Reg.ENG_DONE_LAST n) = wn (d'.now - d.time.lastStrobe)
      ∧ d'.rd (Reg.ENG_DONE_MAX n) = wn (max (d.rd (Reg.ENG_DONE_MAX n)).toNat (d'.now - d.time.lastStrobe))
      ∧ d'.rd (Reg.ENG_WORDS_MAX n) = wn (max (d.rd (Reg.ENG_WORDS_MAX n)).toNat (d.eng[n].tickWords + 1))
      ∧ d.changesSilently d' [.eng, .time] [Reg.ENG_DONE_LAST n, Reg.ENG_DONE_MAX n, Reg.ENG_WORDS_MAX n])
  ∧ (∀ (next : TaskDesc) (more : List TaskDesc), ends (fun d n => d.eng[n].rest = next :: more ∧
        (Cells.read zeroCell d.eng[n].data next.selAddr).toNat % 16 ≤ next.nsel) (fun d d' n =>
      let k := (Cells.read zeroCell d.eng[n].data next.selAddr).toNat % 16
      d'.eng[n].task = some next ∧ d'.eng[n].rest = more
      ∧ d'.eng[n].pc = d.tmem16 (next.dispAddr * 8 + 2 * k) % 4096
      ∧ d'.eng[n].words = 8 ∧ d'.eng[n].tickWords = d.eng[n].tickWords + 9
      ∧ d'.eng[n].v = Vector.replicate 32 0 ∧ d'.eng[n].w = Vector.replicate 4 0
      ∧ d'.eng[n].p = Vector.replicate 8 false ∧ (∀ i, d'.eng[n].rt i = {})
      ∧ d.changesSilently d' [.eng, .time] []))
  ∧ (∀ env reg task (s : State), s.dev.taskOn env.eng = some task → s.dev.eng[env.eng].pc ≤ 3071 →
      s.dev.eng[env.eng].words + 1 ≤ task.wcet → env.fetch = .good → env.code = .asRow → s.dev.eng[env.eng].rest = [] →
      ∃ t, exec (.endWord env reg 0 0 { alu0 := 0, alu1 := 0 }) s = .next t ∧ t.pending = s.pending
        ∧ t.dev.eng[env.eng].task = none ∧ t.dev.now = max s.dev.now env.t
        ∧ t.dev.rd (Reg.ENG_DONE_LAST env.eng) = wn (t.dev.now - s.dev.time.lastStrobe)))

/-- What the program of an engine asks of its portal (R249, R288, R308): HS_REQ_STORE requests its own channels and no
other, and raises BOUNDS 3h where it names another; SURR_REQ waits for the next strobe instant, and there surrenders the
portal, in Solo it has no effect.

Engine control (R229, R232, R233): RESTART reloads the image of an engine stopped by an exception where the driver is
in FAULT and fewer than three exceptions fell within 10 minutes, and is refused with a flag otherwise; at the first
position tick at or after its completion the engine runs and the flag RESTARTED is set; STAT_CLR clears the two maxima. -/
def Obligations.EngineControlAndRequests : Prop :=
  (
  (∀ (p : Slot) (hi : Bool) (v : Word), completes (.hsReqStore p hi v)
      (fun d => d.engRun p = true ∧ d.fio.frame = [] ∧ d.fio.badUp = false ∧ (∀ q : Slot, q ≠ p → d.enabled q = true → ∀ c ∈ d.chansOf p, c ∉ d.chansOf q)
        ∧ ∀ i, i < 32 → bit v i = true → 32 * hi.toNat + i ∈ d.chansOf p) fun d d' =>
      (∀ c : Ch, c.val ∈ d.chansOf p → c.val / 32 = hi.toNat → d.enabled p = true ∨ c.val ≠ d.rdF (Reg.PRT_OUTPUT_MAP p) 5 0 →
        d'.fio.hs[c].req = bit v (c.val % 32))
      ∧ (∀ c : Ch, c.val ∉ d.chansOf p ∨ c.val / 32 ≠ hi.toNat → d'.fio.hs[c] = d.fio.hs[c])
      ∧ d.changes d' [.fio, .portal] switchRegs)
  ∧ (∀ (p : Slot) (hi : Bool) (v : Word) (i : Nat), completes (.hsReqStore p hi v)
      (fun d => d.engRun p = true ∧ i < 32 ∧ bit v i = true ∧ 32 * hi.toNat + i ∉ d.chansOf p) fun d d' =>
      d' = d.engException p 3 3)
  ∧ (∀ p : Slot, completes (.surrReq p) (fun d => d.engRun p = true ∧ d.solo = false) fun d d' =>
      d'.eng[p] = { d.eng[p] with surrReq := true } ∧ (∀ q : Slot, q ≠ p → d'.eng[q] = d.eng[q])
      ∧ d.changesSilently d' [.eng] [])
  ∧ (∀ (p : Slot) (d : Dev), d.solo = false → d.enabled p = true → d.drives p = true → d.cvn.surrendered = false →
      let d' := d.portalSurrender p 2
      d'.rd Reg.CVN_SURR_CAUSE = wn (p.val * 256 + 2) ∧ d'.owner p = 3 ∧ d'.rdB Reg.CVN_FLAGS 5 = true)
  ∧ (∀ p : Slot, completes (.surrReq p) (fun d => d.solo = true) fun d d' => d' = d))
  ∧ (
  ∀ p : Slot,
    let young (d : Dev) : List Nat := d.eng[p].excs.filter (fun t => decide (d.now ≤ t + 120000000000))
    let may (d : Dev) : Prop := d.rdF (Reg.ENG_STATUS p) 1 0 = 2 ∧ (d.drives p = true → d.pst p = psFault)
      ∧ d.bundleReadable = true ∧ (young d).length < 3 ∧ d.eng[p].locked = false
    (∀ i, completes (.restart p) (fun d => d.hostUp = true ∧ may d ∧ d.eng[p].img = some i) fun d d' =>
      d'.rdF (Reg.ENG_STATUS p) 1 0 = 3 ∧ d'.eng[p] = { d.eng[p].load i with reloadDone := true }
      ∧ d'.rd (Reg.ENG_RESTARTS p) = wn (min (2 ^ 32 - 1) ((d.rd (Reg.ENG_RESTARTS p)).toNat + 1))
      ∧ (∀ q, q ≠ p → d'.eng[q] = d.eng[q])
      ∧ d.changesSilently d' [.eng] [Reg.ENG_STATUS p, Reg.ENG_RESTARTS p])
    ∧ completes (.restart p) (fun d => d.hostUp = true ∧ ¬may d) (fun d d' =>
      d'.rdB (Reg.ENG_FLAGS p) 2 = true ∧ d.changes d' [] [Reg.ENG_FLAGS p])
    ∧ completes (.restartComplete p) (fun d => d.rdF (Reg.ENG_STATUS p) 1 0 = 3 ∧ d.eng[p].reloadDone = true
        ∧ d.now ≠ d.time.periodStart) (fun d d' =>
      d'.eng[p] = { d.eng[p] with startDue := true } ∧ (∀ q, q ≠ p → d'.eng[q] = d.eng[q]) ∧ d.changesSilently d' [.eng] [])
    ∧ completes (.restartComplete p) (fun d => d.rdF (Reg.ENG_STATUS p) 1 0 = 3 ∧ d.eng[p].reloadDone = true
        ∧ d.now = d.time.periodStart) (fun d d' =>
      d'.rdF (Reg.ENG_STATUS p) 1 0 = 1 ∧ d'.rdB (Reg.ENG_FLAGS p) 1 = true ∧ d'.eng[p].reloadDone = false
      ∧ (∀ q, q ≠ p → d'.eng[q] = d.eng[q]) ∧ (d.enabled p = true → d'.pst p = psFault))
    ∧ completes (.statClr p) (fun d => d.hostUp = true) (fun d d' =>
      d'.rd (Reg.ENG_DONE_MAX p) = 0 ∧ d'.rd (Reg.ENG_WORDS_MAX p) = 0
      ∧ d.changesSilently d' [] [Reg.ENG_DONE_MAX p, Reg.ENG_WORDS_MAX p]))

/-- Digital inputs (R254, R255, R257) at an instant at which the input is read, with its samples, newest first: IN_RAW takes
the newest. Of the samples taken after the last cause of invalidity, under one setting of the group, those that agree with
the newest reach DEB, as a time span, or they do not; then a level that is new, or the first valid one, is accepted: it
shows in IN_LVL and makes the quality valid; a change stamps the onset and sets IN_CHG, a first level does neither. A
foreign voltage makes the quality invalid and reads active. No other input's level or quality changes. -/
def Obligations.DigitalInputs : Prop :=
  (∀ (i : Din) (lvl : Bool) (t : Nat) (samples : List DinSample),
    let every (d : Dev) : Nat := max 1 (d.dinEvery i)
    let counted (d : Dev) : List DinSample := samples.zipIdx.filterMap (fun x =>
      if d.fio.dins[i].causeEnd + x.2 * every d < t then some x.1 else none)
    let shown (d : Dev) : Nat := ((counted d).takeWhile (fun x => x == .level lvl)).length
    let onset (d : Dev) : Nat := t - (shown d - 1) * every d - sinkOn (d.grpCfg i)
    let read (d : Dev) : Prop := d.dinReads i t = true ∧ samples.head? = some (.level lvl)
      ∧ d.fio.grpPast.getD (i.val / 8) [] = []
      ∧ firstRead (d.time.tc0.getD 0) (i.val / 8) (d.grpCfg i) + (samples.length - 1) * every d ≤ t
    let due (d : Dev) : Prop := d.fio.sag = false ∧ shown d ≠ 0 ∧ d.debT i ≤ (shown d - 1) * every d
      ∧ (d.fio.dins[i].inv = true ∨ d.fio.dins[i].accepted = false ∨ d.dinLvl i ≠ lvl)
    completes (.dinAccept t i samples) (fun d => read d ∧ due d) (fun d d' =>
      let change := d.fio.dins[i].accepted = true ∧ d.dinLvl i ≠ lvl
      d'.dinLvl i = lvl ∧ d'.rdB (Reg.FIN_IN_QUAL (i.val / 32)) (i.val % 32) = true
      ∧ d'.rdB (Reg.FIN_IN_RAW (i.val / 32)) (i.val % 32) = lvl
      ∧ d'.fio.dins[i].inv = false ∧ d'.fio.dins[i].accepted = true ∧ d'.fio.dins[i].foreign = false
      ∧ (∀ j : Din, j ≠ i → d'.dinLvl j = d.dinLvl j ∧ d'.fio.dins[j] = d.fio.dins[j]
          ∧ d'.rdB (Reg.FIN_IN_QUAL (j.val / 32)) (j.val % 32) = d.rdB (Reg.FIN_IN_QUAL (j.val / 32)) (j.val % 32))
      ∧ (change → d'.rd (Reg.FIN_STAMP i) = d.stampAt (onset d) ∧ d'.rdB (Reg.FIN_IN_CHG (i.val / 32)) (i.val % 32) = true)
      ∧ (¬change → d'.rd (Reg.FIN_STAMP i) = d.rd (Reg.FIN_STAMP i)
          ∧ d'.rd (Reg.FIN_IN_CHG (i.val / 32)) = d.rd (Reg.FIN_IN_CHG (i.val / 32)))
      ∧ d'.now = max d.now t
      ∧ d.changes d' [.fio, .ilk, .mot, .time]
          [Reg.FIN_IN_LVL (i.val / 32), Reg.FIN_IN_QUAL (i.val / 32), Reg.FIN_IN_RAW (i.val / 32), Reg.FIN_STAMP i,
            Reg.FIN_IN_CHG (i.val / 32), Reg.FIN_IN_FLAGS, Reg.ILK_STATUS, Reg.ILK_FLAGS])
    ∧ completes (.dinAccept t i samples) (fun d => read d ∧ ¬due d) (fun d d' =>
      d'.rdB (Reg.FIN_IN_RAW (i.val / 32)) (i.val % 32) = lvl
      ∧ d'.fio.dins[i] = { d.fio.dins[i] with foreign := false } ∧ (∀ j : Din, j ≠ i → d'.fio.dins[j] = d.fio.dins[j])
      ∧ d.changesSilently d' [.fio, .time] [Reg.FIN_IN_RAW (i.val / 32)])
    ∧ completes (.dinAccept t i samples) (fun d => d.dinReads i t = true ∧ samples.head? = some .foreign) (fun d d' =>
      d'.rdB (Reg.FIN_IN_RAW (i.val / 32)) (i.val % 32) = true ∧ d'.fio.dins[i].foreign = true
      ∧ (d.fio.dins[i].foreign = false → d'.rdB (Reg.FIN_IN_QUAL (i.val / 32)) (i.val % 32) = false)
      ∧ d.changes d' [.fio, .time] [Reg.FIN_IN_RAW (i.val / 32), Reg.FIN_IN_QUAL (i.val / 32), Reg.FIN_IN_FLAGS])
    ∧ completes (.dinAccept t i samples) (fun d => d.dinReads i t = false ∨ samples = [])
      (fun d d' => d.changesSilently d' [.time] []))
  ∧ (∀ (t : Nat) (i : Din), completes (.foreign t i) (fun d => d.fio.dins[i].foreign = true) fun d d' =>
      d.changesSilently d' [.time] [])
  ∧ (∀ (t : Nat) (i : Din), completes (.foreign t i) (fun d => d.fio.dins[i].foreign = false) fun d d' =>
      d'.rdB (Reg.FIN_IN_QUAL (i.val / 32)) (i.val % 32) = false ∧ d'.fio.dins[i].inv = true
      ∧ d'.fio.dins[i].foreign = true ∧ d'.rdB Reg.FIN_IN_FLAGS 2 = true
      ∧ (d.rdB (Reg.FIN_IN_QUAL (i.val / 32)) (i.val % 32) = true → d'.rdB Reg.FIN_IN_FLAGS 0 = true)
      ∧ (∀ j : Din, j ≠ i → d'.fio.dins[j] = d.fio.dins[j])
      ∧ d.changes d' [.fio, .time] [Reg.FIN_IN_QUAL (i.val / 32), Reg.FIN_IN_FLAGS])
  ∧ (∀ (k : Fin 3) (v : Word), completes (.inEvenWrite k v) (fun d => d.hostUp = true) fun d d' =>
      d'.rd (Reg.FIN_IN_EVEN k) = v
      ∧ ((v &&& ~~~(d.rd (Reg.FIN_IN_EVEN k)) &&& d.rd (Reg.FIN_IN_CHG k)) ≠ 0 → d.srcEn (40 + k) = true →
          d'.srcPend (40 + k) = true)
      ∧ d.changes d' [] [Reg.FIN_IN_EVEN k])

/-- Protection of the switch channels (R263, R264): each event moves a channel as the table of states says, its timers and
retries with it, and no other channel moves; a thermal trip at the instant of a LIM_T expiry counts as the trip, and a
junction still hot at RETRY_INT leads to THERMAL. `by_req` is ON where the request in force is on and OFF otherwise. -/
def Obligations.SwitchProtection : Prop :=
  let moved : Ch → Dev → Dev → HsSt → Nat → Prop := fun c d d' st spent =>
    d'.fio.hs[c].st = st ∧ d'.fio.hs[c].spent = spent
    ∧ fld (d'.rd (Reg.FSW_HS_STATUS c)) 2 0 = st.code ∧ bit (d'.rd (Reg.FSW_HS_STATUS c)) 3 = st.out
    ∧ bit (d'.rd (Reg.FSW_HS_OUT (c.val / 32))) (c.val % 32) = st.out
    ∧ (∀ j : Ch, j ≠ c → d'.fio.hs[j] = d.fio.hs[j])
    ∧ d.changes d' [.fio, .time] [Reg.FSW_HS_STATUS c, Reg.FSW_HS_FLAGS c, Reg.FSW_HS_REQ (c.val / 32),
        Reg.FSW_HS_OUT (c.val / 32), Reg.ILK_STATUS]
  let byReq : Dev → Ch → HsSt := fun d c => if d.reqInForce c then .on else .off
  ∀ c : Ch,
    (∀ t, completes (.currentLimit t c) (fun d => d.fio.hs[c].st = .on) fun d d' =>
      moved c d d' .limit d.fio.hs[c].spent ∧ d'.fio.hs[c].limAt = some (max d.now t)
      ∧ d'.rdB (Reg.FSW_HS_FLAGS c) 0 = true)
    ∧ (∀ t, completes (.limitClear t c) (fun d => d.fio.hs[c].st = .limit) fun d d' =>
      moved c d d' .on d.fio.hs[c].spent ∧ d'.fio.hs[c].limAt = none)
    ∧ (∀ t0 trip, completes (.limTExpiry c trip) (fun d => d.fio.hs[c].limAt = some t0) fun d d' =>
      d'.now = max d.now (t0 + fld (d.rdSet (Reg.FSW_HS_CFG c)) 7 0 * 20000)
      ∧ if trip then moved c d d' .thermal d.fio.hs[c].spent ∧ d'.rdB (Reg.FSW_HS_FLAGS c) 3 = true
        else if d.fio.hs[c].spent < fld (d.rdSet (Reg.FSW_HS_CFG c)) 15 12 then
          moved c d d' .retryWait (d.fio.hs[c].spent + 1) ∧ d'.fio.hs[c].retryAt = some d'.now
          ∧ d'.rdB (Reg.FSW_HS_FLAGS c) 1 = true
        else moved c d d' .latchedOff d.fio.hs[c].spent ∧ d'.rdB (Reg.FSW_HS_FLAGS c) 2 = true)
    ∧ (∀ t0 hot, completes (.retryIntExpiry c hot) (fun d => d.fio.hs[c].retryAt = some t0) fun d d' =>
      d'.now = max d.now (t0 + fld (d.rdSet (Reg.FSW_HS_CFG c)) 23 16 * 2000000)
      ∧ if hot then
          moved c d d' .thermal (d.fio.hs[c].spent - 1) ∧ d'.rdB (Reg.FSW_HS_FLAGS c) 3 = true
        else moved c d d' (byReq d c) d.fio.hs[c].spent)
    ∧ (∀ t, completes (.thermalTrip t c)
        (fun d => d.fio.hs[c].st = .on ∨ d.fio.hs[c].st = .limit ∨ d.fio.hs[c].st = .retryWait) fun d d' =>
      moved c d d' .thermal (if d.fio.hs[c].st = .retryWait then d.fio.hs[c].spent - 1 else d.fio.hs[c].spent)
      ∧ d'.rdB (Reg.FSW_HS_FLAGS c) 3 = true)
    ∧ (∀ t, completes (.thermalCool t c) (fun d => d.fio.hs[c].st = .thermal) fun d d' =>
      moved c d d' (if d.fio.sag then .sagOff else byReq d c) d.fio.hs[c].spent)
    ∧ (∀ t0, completes (.retryReset c) (fun d => d.fio.hs[c].onAt = some t0) fun d d' =>
      moved c d d' d.fio.hs[c].st 0 ∧ d'.now = max d.now (t0 + 16 * (fld (d.rdSet (Reg.FSW_HS_CFG c)) 23 16 * 2000000)))
    ∧ completes (.hsClr c) (fun d => d.hostUp = true ∧ d.fio.hs[c].st = .latchedOff) (fun d d' =>
      moved c d d' (if d.fio.sag then .sagOff else byReq d c) 0)
    ∧ completes (.hsClr c) (fun d => d.hostUp = true ∧ d.fio.hs[c].st ≠ .latchedOff) (fun d d' =>
      moved c d d' d.fio.hs[c].st 0)

/-- The request in force (R72, R262): the posture value in posture, otherwise the request bit of a channel that no enabled
portal names or that the driver of a naming portal holds; on a lock-class channel only while the permission of its
side is true, the map is locked and the controller is out of posture.

HS_HREQ (R262): the host's bits reach the channels that no enabled portal names and that are not lock-class, unless a
higher rank wrote them in the present spine frame, at once or, while the last upstream frame was bad, with the next good
one (R24); a 1 for any other channel is ignored and sets HREQ_REJ. -/
def Obligations.RequestsInForce : Prop :=
  (
  ∀ (d : Dev) (c : Ch),
    (d.lockClass c = true → d.reqInForce c = true →
      d.rdB Reg.ILK_STATUS (if d.lockSide c = 2 then 3 else 2) = true ∧ d.rdB Reg.ILK_STATUS 31 = true
        ∧ d.fio.posture = false)
    ∧ (d.fio.posture = true → d.reqInForce c = true →
        d.lockClass c = false ∧ (fld (d.rdSet (Reg.FSW_HS_CFG c)) 31 30 = 1
          ∨ fld (d.rdSet (Reg.FSW_HS_CFG c)) 31 30 = 2 ∧ d.fio.hs[c].held = true))
    ∧ (d.fio.posture = false → d.reqInForce c = true →
        d.fio.hs[c].req = true ∧ (d.mappers c = [] ∨ ∃ p ∈ d.mappers c, d.owner p = 0 ∨ d.owner p = 2))
    ∧ (d.fio.posture = false → d.lockClass c = false → d.fio.hs[c].req = true → d.mappers c = [] →
        d.reqInForce c = true))
  ∧ (
  ∀ (k : Fin 2) (v : Word), completes (.hsHreq k v) (fun d => d.hostUp = true) fun d d' =>
    let open_ (c : Ch) : Prop := d.mappers c = [] ∧ d.lockClass c = false
    (∀ c : Ch, c.val / 32 = k.val → open_ c →
      d'.rdB (Reg.FSW_HS_HREQ k) (c.val % 32) = bit v (c.val % 32)
      ∧ ((∀ q ∈ d.fio.frame, q.chan = c.val → q.frame = d.frameNo → q.rank = 0) →
          (d.fio.badUp = false → d'.fio.hs[c].req = bit v (c.val % 32))
          ∧ (d.fio.badUp = true → d'.fio.hs[c] = d.fio.hs[c] ∧ (c, bit v (c.val % 32)) ∈ d'.fio.reqDue)))
    ∧ (∀ c : Ch, c.val / 32 ≠ k.val ∨ ¬open_ c → d'.fio.hs[c] = d.fio.hs[c])
    ∧ (∀ c : Ch, c.val / 32 = k.val → ¬open_ c → bit v (c.val % 32) = true → d'.rdB Reg.FSW_SW_FLAGS 2 = true)
    ∧ d.changes d' [.fio] (Reg.FSW_HS_HREQ k :: Reg.FSW_SW_FLAGS :: switchRegs))

/-- Channel diagnosis (R265, R266): three off-state windows that agree report OPEN_LOAD; an external voltage that appears
on a channel that is off is PARTNER_DRIVEN with SHARED = 1, BACKFEED with the lowest own channel turned on within 100
µs before, SHORT_VFLD otherwise, and the reading ends with the voltage; OLON_EN reports OPEN_LOAD_ON. -/
def Obligations.SwitchDiagnosis : Prop :=
  ∀ c : Ch,
    let only : Dev → Dev → Prop := fun d d' =>
      (∀ j : Ch, j ≠ c → d'.fio.hs[j] = d.fio.hs[j]) ∧ d'.fio.hs[c].st = d.fio.hs[c].st
        ∧ d'.fio.hs[c].req = d.fio.hs[c].req
        ∧ d.changes d' [.fio, .time] [Reg.FSW_HS_STATUS c, Reg.FSW_HS_FLAGS c, Reg.FSW_HS_REQ (c.val / 32),
            Reg.FSW_HS_OUT (c.val / 32), Reg.ILK_STATUS]
    let testable : Dev → Prop := fun d => d.fio.hs[c].st = .off ∧ bit (d.rdSet (Reg.FSW_HS_CFG c)) 28 = true
      ∧ d.fio.sag = false ∧ (bit (d.rdSet (Reg.FSW_HS_CFG c)) 29 = true → d.fio.hs[c].ext = false)
    (∀ t, completes (.offStateTest t c false true)
        (fun d => testable d ∧ d.fio.hs[c].lastDiag = 1 ∧ 2 ≤ d.fio.hs[c].diagCnt) fun d d' =>
      d'.fio.hs[c].diag = 1 ∧ (d.fio.hs[c].diag ≠ 1 → d'.rdB (Reg.FSW_HS_FLAGS c) 4 = true) ∧ only d d')
    ∧ (∀ t ext high, completes (.offStateTest t c ext high)
        (fun d => testable d ∧ d.fio.hs[c].lastDiag ≠ (if ext then 3 else if high then 1 else 0)) fun d d' =>
      d'.fio.hs[c].diag = d.fio.hs[c].diag ∧ d'.fio.hs[c].diagCnt = 1
      ∧ d'.fio.hs[c].lastDiag = (if ext then 3 else if high then 1 else 0) ∧ only d d')
    ∧ (∀ t, completes (.externalVoltage t c true)
        (fun d => d.fio.hs[c].st.out = true ∨ d.fio.sag = true ∨ d.fio.hs[c].ext = true)
        (fun d d' => d.changesSilently d' [.time] []))
    ∧ (∀ t, completes (.externalVoltage t c true)
        (fun d => d.fio.hs[c].st.out = false ∧ d.fio.sag = false ∧ d.fio.hs[c].ext = false ∧ d.fio.hs[c].diag < 3) fun d d' =>
      let fresh (j : Ch) : Prop := j ≠ c ∧ ∃ u, d.fio.hs[j].turnOn = some u ∧ d'.now ≤ u + 20000
      d'.fio.hs[c].ext = true ∧ only d d'
      ∧ (bit (d.rdSet (Reg.FSW_HS_CFG c)) 29 = true → d'.fio.hs[c].diag = 5 ∧ d'.rdB (Reg.FSW_HS_FLAGS c) 8 = true)
      ∧ (bit (d.rdSet (Reg.FSW_HS_CFG c)) 29 = false → (∀ j, ¬fresh j) →
          d'.fio.hs[c].diag = 3 ∧ d'.rdB (Reg.FSW_HS_FLAGS c) 6 = true)
      ∧ (bit (d.rdSet (Reg.FSW_HS_CFG c)) 29 = false → ∀ j, fresh j → (∀ i, fresh i → j ≤ i) →
          d'.fio.hs[c].diag = 4 ∧ d'.rdF (Reg.FSW_HS_STATUS c) 13 8 = j.val ∧ d'.rdB (Reg.FSW_HS_FLAGS c) 7 = true))
    ∧ (∀ t, completes (.externalVoltage t c false) (fun d => d.fio.hs[c].st.out = false) fun d d' =>
      d'.fio.hs[c].ext = false ∧ d'.fio.hs[c].diag = (if 3 ≤ d.fio.hs[c].diag then 0 else d.fio.hs[c].diag) ∧ only d d')
    ∧ (∀ t low, completes (.openLoadOn t c low)
        (fun d => d.fio.hs[c].st = .on ∧ bit (d.rdSet (Reg.FSW_HS_CFG c)) 27 = true) fun d d' =>
      d'.fio.hs[c].diag = (if low then 2 else if d.fio.hs[c].diag = 2 then 0 else d.fio.hs[c].diag)
      ∧ (low = true → d.fio.hs[c].diag ≠ 2 → d'.rdB (Reg.FSW_HS_FLAGS c) 5 = true) ∧ only d d')

/-- The sag state (R268): it turns every channel off but those in LATCHED_OFF and THERMAL, makes every input and train-line
quality invalid and every edge band INVALID; after its end the groups restart one after another, each channel by its
request in force or, where it was in RETRY_WAIT, with a full RETRY_INT.

The sense mirror (R269, R270): SNS_SEL selects in its own mode; the scan takes the next channel of its masks in
ascending order and wraps; a conversion gives the voltage in mV and the current in mA to the integer beside the exact
value (which of the two is free, log 42), and a full-scale reading is FFFFh with OVR. -/
def Obligations.SupplySagAndSenseMirror : Prop :=
  (
  let fieldRegs : List Nat := switchRegs ++ (List.range 48).map Reg.FSW_HS_FLAGS
    ++ [Reg.FSW_SW_STATUS, Reg.FSW_SW_FLAGS, Reg.FIN_IN_QUAL 0, Reg.FIN_IN_QUAL 1, Reg.FIN_IN_QUAL 2, Reg.FIN_IN_FLAGS,
      Reg.ILK_TL_RAW, Reg.ILK_FLAGS, Reg.FED_EDG_BAND 0, Reg.FED_EDG_BAND 1, Reg.FED_EDG_BAND 2, Reg.FED_EDG_FLAGS]
  (∀ t, completes (.sagEnter t) (fun d => d.fio.sag = false) fun d d' =>
      d'.fio.sag = true ∧ d'.rdB Reg.FSW_SW_STATUS 0 = true ∧ d'.rdB Reg.FSW_SW_FLAGS 0 = true
      ∧ (∀ c : Ch, d'.fio.hs[c].st = (match d.fio.hs[c].st with
          | .latchedOff => .latchedOff | .thermal => .thermal | _ => .sagOff))
      ∧ (∀ i : Din, d'.rdB (Reg.FIN_IN_QUAL (i.val / 32)) (i.val % 32) = false)
      ∧ (∀ k, d'.tlSeen k = false) ∧ (∀ k, d'.pair k = .absent) ∧ (∀ e : Edge, d'.edgeBand e = 7)
      ∧ d.changes d' [.fio, .ilk, .time] fieldRegs)
  ∧ (∀ t, completes (.sagExit t) (fun d => d.fio.sag = true) fun d d' =>
      d'.fio.sag = false ∧ d'.fio.sagEnd = max d.now t ∧ d'.rdB Reg.FSW_SW_STATUS 0 = false
      ∧ d'.rdF Reg.FSW_SW_STATUS 3 1 = 0 ∧ d'.rdB Reg.FSW_SW_FLAGS 1 = true
      ∧ (∀ c : Ch, d'.fio.hs[c] = d.fio.hs[c]) ∧ (∀ i : Din, d'.fio.dins[i].causeEnd = max d.now t)
      ∧ d.changes d' [.fio, .time] fieldRegs)
  ∧ completes .groupRestart (fun d => d.rdF Reg.FSW_SW_STATUS 3 1 < 6 ∧ d.fio.sag = false) (fun d d' =>
      let g := d.rdF Reg.FSW_SW_STATUS 3 1
      d'.rdF Reg.FSW_SW_STATUS 3 1 = (if g = 5 then 7 else g + 1) ∧ d'.now = max d.now (d.fio.sagEnd + 200000 * g)
      ∧ (∀ c : Ch, c.val / 8 = g → d.fio.hs[c].st = .sagOff →
          d'.fio.hs[c].st = if d.fio.hs[c].sagRetry then .retryWait else if d.reqInForce c then .on else .off)
      ∧ (∀ c : Ch, c.val / 8 ≠ g ∨ d.fio.hs[c].st ≠ .sagOff → d'.fio.hs[c] = d.fio.hs[c])
      ∧ d.changes d' [.fio, .time] fieldRegs))
  ∧ (
  (∀ v : Fin 64, completes (.snsSelChange v) (fun _ => True) fun d d' =>
      d'.rdF Reg.FSN_SNS_STATUS 5 0 = v.val
      ∧ d'.rdF Reg.FSN_SNS_STATUS 13 8
          = (if bit (d.rdSet Reg.FSN_SNS_CFG) 31 then d.rdF Reg.FSN_SNS_STATUS 13 8 else v.val)
      ∧ d.changesSilently d' [.fio] [Reg.FSN_SNS_STATUS])
  ∧ completes .scanStep
      (fun d => bit (d.rdSet Reg.FSN_SNS_CFG) 31 = true ∧ bit (d.rdSet Reg.FSN_SNS_CFG) 30 = true) (fun d d' =>
      let on (c : Nat) : Prop := c < 48 ∧ bit (d.rdSet (Reg.FSN_SCAN_MASK (c / 32))) (c % 32) = true
      let was := d.rdF Reg.FSN_SNS_STATUS 13 8
      let now := d'.rdF Reg.FSN_SNS_STATUS 13 8
      ((∃ c, on c ∧ was < c) → on now ∧ was < now ∧ ∀ c, on c → was < c → now ≤ c)
      ∧ ((∃ c, on c) → (∀ c, on c → c ≤ was) → on now ∧ ∀ c, on c → now ≤ c)
      ∧ ((∀ c, ¬on c) → now = was)
      ∧ d.changesSilently d' [] [Reg.FSN_SNS_STATUS])
  ∧ (∀ code, code < 4096 → completes (.adcConversion code false) (fun d => d.selNow < 48) fun d d' =>
      let c := d.selNow
      let r : Int := max 1 (fld (d.rdSet Reg.FSN_SNS_CFG) 23 8)
      let k : Int := if c < 40 then 2000 else 10000
      d'.rdF Reg.FSN_SNS_STATUS 13 8 = c
      ∧ |4096 * ((d'.rd Reg.FSN_SNS_VOLT).toNat : Int) - 2500 * code| < 4096
      ∧ d'.rdB (Reg.FSN_SNS_I c) 31 = true
      ∧ (∃ ma : Nat, |4096 * r * ma - code * 2500 * k| < 4096 * r ∧ d'.rdF (Reg.FSN_SNS_I c) 15 0 = min ma 65535)
      ∧ d.changesSilently d' [] [Reg.FSN_SNS_STATUS, Reg.FSN_SNS_VOLT, Reg.FSN_SNS_I c])
  ∧ (∀ code, completes (.adcConversion code true) (fun d => d.selNow < 48) fun d d' =>
      d'.rd (Reg.FSN_SNS_I d.selNow) = 0x8000FFFF#32 ∧ d'.rdB Reg.FSN_SNS_FLAGS 0 = true
      ∧ d.changes d' [] [Reg.FSN_SNS_STATUS, Reg.FSN_SNS_VOLT, Reg.FSN_SNS_I d.selNow, Reg.FSN_SNS_FLAGS]))

/-- The strobe instant (R27, R29, R31, R34, R380): SAMPLE_TICK advances, STATUS shows k and the kinds of the tick, and the next
valley lies one PWM period on, while the carrier runs and whatever the state of power but DORMANT; the enables and the
surrender that wait for a strobe take effect at it. On a follower the tick is the one that the leader's SYNC frame named,
where one is due (`syncStrobe`, stated in SyncAndLanes). In STABLE the trace unit stands, and between position ticks the engines
stand with their registers. While no carrier runs there is no strobe. SHADOW_CLOSE comes 1 µs before the valley. -/
def Obligations.StrobeInstant : Prop :=
  let carrier (d : Dev) : Prop := d.time.tc0.isSome = true ∧ d.time.xtalOk = true ∧ d.pwr.st ≠ .dormant
  let ticked (d d' : Dev) : Prop :=
    let k := d.time.nextK % (d.spdDiv * d.posDiv)
    d'.rd Reg.TBS_SAMPLE_TICK = d.rd Reg.TBS_SAMPLE_TICK + 1
    ∧ (d.rd Reg.TBS_SAMPLE_TICK = 0xFFFFFFFF#32 → d'.rdB Reg.TBS_FLAGS 3 = true)
    ∧ d'.rdF Reg.TBS_STATUS 13 8 = k
    ∧ d'.rdB Reg.TBS_STATUS 16 = decide (k % d.spdDiv = 0) ∧ d'.rdB Reg.TBS_STATUS 17 = decide (k = 0)
    ∧ d'.rdB Reg.TBS_STATUS 18 = decide (k % d.spdDiv = 1) ∧ d'.rdB Reg.TBS_STATUS 19 = decide (k = 2)
    ∧ d'.now = max d.now d.time.nextValley ∧ d'.time.lastStrobe = d'.now
    ∧ d'.time.nextValley = d'.now + d'.rdF Reg.TBS_TICK_CFG 15 0 ∧ d'.time.nextK = k + 1
    ∧ (k ≠ 0 → d'.rd Reg.TBS_TICK_CFG = d.rd Reg.TBS_TICK_CFG)
    ∧ (k = 0 → d'.time.posTicks = d.time.posTicks + 1 ∧ d'.time.periodStart = d'.now)
    ∧ (k ≠ 0 → d'.time.posTicks = d.time.posTicks ∧ d'.time.periodStart = d.time.periodStart)
  (∀ i : TickIn,
    completes (.tickStrobe i) (fun d => ¬carrier d) (fun d d' => d' = d)
    ∧ completes (.tickStrobe i) (fun d => carrier d ∧ d.boot.st = .reset) (fun d d' =>
        ticked d.syncStrobe d' ∧ d.syncStrobe.changes d' [.time] [Reg.TBS_SAMPLE_TICK, Reg.TBS_STATUS, Reg.TBS_FLAGS])
    ∧ completes (.tickStrobe i) (fun d => carrier d ∧ d.boot.st ≠ .reset ∧ d.pwr.st ≠ .stable) (fun d d' =>
        ticked d.syncStrobe d' ∧ (∀ n : Sax, d'.servo[n].enReqs = []) ∧ (∀ n : Stx, d'.stepd[n].enReqs = []) ∧ d'.cvn.surrGo = false
        ∧ (d.fio.image = none → Cells.read resetOf d'.snap Reg.TBS_SAMPLE_TICK = d'.rd Reg.TBS_SAMPLE_TICK))
    ∧ completes (.tickStrobe i) (fun d => carrier d ∧ d.boot.st ≠ .reset ∧ d.pwr.st = .stable) (fun d d' =>
        ticked d.syncStrobe d' ∧ d'.fio.reqSnap = d'.fio.hs.toList.map (·.req) ∧ d'.trace = d.trace
        ∧ (d.fio.image = none → Cells.read resetOf d'.snap Reg.TBS_SAMPLE_TICK = d'.rd Reg.TBS_SAMPLE_TICK)
        ∧ (d.syncStrobe.time.nextK % (d.syncStrobe.spdDiv * d.syncStrobe.posDiv) ≠ 0 → d'.eng = d.eng
          ∧ (∀ n : Stx, d'.stepd[n] = { d.stepd[n] with issuedSnap := d.stepd[n].issued })
          ∧ d.syncStrobe.onlyParts d' ([.time, .enc, .fio, .snap, .mot, .stepd, .cvn] ++ noticeParts))))
  ∧ completes .shadowClose (fun _ => True) (fun d d' =>
      d'.time.shadowClosed = true ∧ d'.now = max d.now (d.time.nextValley - 200) ∧ d.changesSilently d' [.time] [])

/-- The PLL and the crystal (R27, R32, R375): the time counter, the carrier and the tick generator start with PLL lock
once RST_N is high, with k = 0 at that valley; a slip is flagged; with the crystal lost the time counter stands,
TIMEBASE_OK, LOOP_OK and HOLD fall while the kill output does not operate, posture is entered and a reset of code 04h is
due.

The spine (R24, R25, R26, R287, R394): a good frame clears the run of bad ones; at the field die it brings the requests
that waited for it, and ends posture once nothing stands against it (that silence in service ends so is the model's
choice, log 111); at the control die one that carries the posture bit silences the axes driven. A bad frame counts; two in
a row trip the link: at the field die with posture and a reset of code 05h, at the control die with the axes silenced and
that reset. 20 µs of silence means posture; the loopback frame, the background test and an engine's self-check keep
their bits of the health word. -/
def Obligations.TimebaseAndSpine : Prop :=
  (
  let started (d d' : Dev) : Prop := d'.time.tc0 = some d'.now ∧ d'.timeCounter = 0 ∧ d'.rd Reg.TBS_SAMPLE_TICK = 1
    ∧ d'.time.nextK = 1 ∧ d'.time.nextValley = d'.now + d.rdF Reg.TBS_TICK_CFG 15 0 ∧ d'.rdB Reg.ILK_STATUS 30 = true
  let regs : List Nat := [Reg.TBS_SAMPLE_TICK, Reg.ILK_STATUS, Reg.ILK_FLAGS]
  ∀ t : Nat,
    completes (.pllLocks t) (fun d => d.time.rstN = true ∧ d.time.tc0 = none ∧ d.time.xtalOk = true) (fun d d' =>
      d'.time.pllLock = true ∧ started d d' ∧ d'.now = max d.now t ∧ d.changes d' [.time, .ilk] regs)
    ∧ completes (.pllLocks t) (fun d => d.time.rstN = false ∨ d.time.tc0.isSome = true) (fun d d' =>
        d'.time.pllLock = true ∧ d'.time.tc0 = d.time.tc0 ∧ d.changesSilently d' [.time] [])
    ∧ completes (.pllSlip t) (fun _ => True) (fun d d' =>
        d'.time.pllLock = false ∧ d'.rdB Reg.TBS_FLAGS 0 = true ∧ d.changes d' [.time] [Reg.TBS_FLAGS])
    ∧ completes (.crystalLoss t) (fun d => d.time.xtalOk = true ∧ d.boot.st ≠ .reset) (fun d d' =>
        d'.time.xtalOk = false ∧ d'.time.tc0 = none ∧ d'.time.frozenTc = (d.upTo t).timeCounter
        ∧ d'.fio.posture = true ∧ d'.rdB Reg.ILK_STATUS 30 = false ∧ d'.rdB Reg.ILK_STATUS 26 = false
        ∧ d'.rdB Reg.ILK_STATUS 27 = false ∧ (d'.ilk.kill = true → d.ilk.kill = true)
        ∧ d'.pwr.xtalLost = true ∧ d'.boot.resetDue = some (4, max d.now t)
        ∧ d.onlyParts d' ([.time, .mot, .servo, .stepd, .portal, .fio, .ilk, .cvn, .boot] ++ noticeParts))
    ∧ completes (.crystalLoss t) (fun d => d.time.xtalOk = false) (fun d d' => d.changesSilently d' [.time] [])
    ∧ (∀ role, completes (.rstNRelease t role)
        (fun d => d.time.rstN = false ∧ d.boot.st = .reset ∧ d.boot.cause ≤ 2) (fun d d' =>
          d'.time.rstN = true ∧ d'.cvn.role = role.val ∧ d'.boot.since = d'.now ∧ d'.now = max d.now t
          ∧ (d.time.pllLock = true → started d d') ∧ (d.time.pllLock = false → d'.time.tc0 = d.time.tc0)
          ∧ d.changes d' [.time, .boot, .cvn, .ilk] regs)))
  ∧ (
  (∀ t : Nat,
    completes (.spineFrame true true t) (fun _ => True) (fun d d' =>
      d'.fio.badUp = false ∧ d'.now = max d.now t
      ∧ d'.fio.posture = (d.fio.posture && !(decide (d.boot.st = .running) && !d.fio.tripUp && !d.fio.tripDn
          && !d.ilk.mismatch && !d.sec.extest && !d.sec.needReset && d.time.xtalOk))
      ∧ d'.fio.reqDue = [] ∧ d'.fio.silent = false
      ∧ (∀ c : Ch, (∀ q ∈ d.fio.reqDue, q.1 ≠ c) → d'.fio.hs[c].req = d.fio.hs[c].req)
      ∧ (∀ (c : Ch) (v : Bool), (c, v) ∈ d.fio.reqDue → (∀ q ∈ d.fio.reqDue, q.1 = c → q.2 = v) → d'.fio.hs[c].req = v)
      ∧ d.changesSilently d' [.fio, .time] (Reg.SYS_STATUS :: switchRegs))
    ∧ completes (.spineFrame false true t) (fun d => d.fio.posture = false) (fun d d' =>
        d'.fio.badDn = false ∧ d'.fio.image = none ∧ d.changesSilently d' [.fio, .time] [])
    ∧ completes (.spineFrame false true t) (fun d => d.fio.posture = true ∧ d.canRecord = true) (fun d d' =>
        d'.fio.badDn = false ∧ d'.fio.image = none ∧ d'.fio.posture = true
        ∧ (∀ a : Axis, d.drivesAx a = true → d.axEn a = true → d'.mot[a].silenced = true))
    ∧ (∀ up : Bool,
        completes (.spineFrame up false t)
          (fun d => (if up then d.fio.badUp = false ∧ d.fio.failsUp.length < 7 else d.fio.badDn = false ∧ d.fio.failsDn.length < 7))
          (fun d d' =>
            (up = true → d'.fio.badUp = true ∧ d'.fio.tripUp = d.fio.tripUp)
            ∧ (up = false → d'.fio.badDn = true ∧ d'.fio.tripDn = d.fio.tripDn ∧ d'.fio.image.isSome = true)
            ∧ d'.rd Reg.SYS_SPINE_ERR = wn (min (2 ^ 32 - 1) ((d.rd Reg.SYS_SPINE_ERR).toNat + 1))
            ∧ d.changesSilently d' [.fio, .time] [Reg.SYS_SPINE_ERR]))
    ∧ completes (.spineFrame true false t) (fun d => d.fio.badUp = true ∧ d.fio.tripUp = false ∧ d.boot.st ≠ .reset)
        (fun d d' => d'.fio.tripUp = true ∧ d'.fio.posture = true ∧ d'.boot.resetDue = some (5, max d.now t)
          ∧ d.onlyParts d' ([.fio, .time, .boot, .jnl, .cvn] ++ noticeParts))
    ∧ completes (.spineFrame false false t)
        (fun d => d.fio.badDn = true ∧ d.fio.tripDn = false ∧ d.canRecord = true ∧ d.boot.st ≠ .reset)
        (fun d d' => d'.fio.tripDn = true ∧ d'.boot.resetDue = some (5, max d.now t) ∧ d'.fio.posture = d.fio.posture
          ∧ (∀ a : Axis, d.drivesAx a = true → d'.mot[a].silenced = true))
    ∧ completes (.upstreamSilence t) (fun _ => True) (fun d d' =>
        d'.fio.posture = true ∧ d'.fio.silent = true ∧ d'.now = max d.now t
        ∧ (d.fio.posture = false → d'.rdB Reg.SYS_STATUS 16 = true)
        ∧ d.changesSilently d' [.fio, .time] (Reg.SYS_STATUS :: switchRegs)))
  ∧ (∀ ok : Bool,
      completes (.spineLoopback ok) (fun _ => True) (fun d d' =>
        d'.cvn.spineFails = (if ok then 0 else d.cvn.spineFails + 1)
        ∧ d'.cvn.spineOk = (ok || (d.cvn.spineOk && decide (d.cvn.spineFails = 0)))
        ∧ d.changesSilently d' [.cvn] [])
      ∧ completes (.backgroundSelfTest false ok) (fun _ => True) (fun d d' =>
        d'.cvn.bistOk = (d.cvn.bistOk && ok) ∧ d'.cvn.bistPos = d.cvn.bistPos + 1 ∧ d.changesSilently d' [.cvn] [])
      ∧ completes (.backgroundSelfTest true ok) (fun _ => True) (fun d d' =>
        d'.cvn.selfOk = (d.cvn.selfOk && ok) ∧ d'.cvn.bistPos = d.cvn.bistPos ∧ d.changesSilently d' [.cvn] [])))

/-- The resets (R392): RST_N and a loss of VFLD reset both dies, leaving NAND and one-time-programmable memory; a reset of
the control die alone is made where it is due and ready, leaves the timebase, the interlock and the field registers,
and puts the field die in posture; a control die whose release condition holds begins start-up.

Start-up steps (R396, R397, R399, R401): a step that ends begins the next; a life-cycle state in which engines do not
run stops with RESULT 5 and an unreadable region map with 6; while a PFI stands no step starts; 5 s after DONE the
hold of a portal in NOT_STARTED ends. -/
def Obligations.ResetsAndStartup : Prop :=
  (
  let both (cause : Nat) (d d' : Dev) : Prop :=
    d'.rd Reg.SYS_RESET_CAUSE = wn cause ∧ d'.boot.st = .reset ∧ d'.boot.cause = cause
    ∧ d'.time.rstN = false ∧ d'.time.tc0 = none ∧ d'.timeCounter = 0
    ∧ (∀ a, a ≠ Reg.SYS_RESET_CAUSE → (∀ i, i < 4 → a ≠ Reg.REC_OVW i) → d'.rd a = resetOf a)
    ∧ (∀ i, i < 4 → d'.rd (Reg.REC_OVW i) = d.rd (Reg.REC_OVW i))
    ∧ d'.mot = State.reset.dev.mot ∧ d'.enc = State.reset.dev.enc ∧ d'.ilk = { State.reset.dev.ilk with permOff := [some d'.now, some d'.now] }
    ∧ d'.fio = State.reset.dev.fio ∧ d'.portal = State.reset.dev.portal ∧ d'.servo = State.reset.dev.servo
    ∧ d'.stepd = State.reset.dev.stepd ∧ d'.eng = State.reset.dev.eng ∧ d'.tmem = [] ∧ d'.trace = State.reset.dev.trace
    ∧ d'.rcd.store = d.rcd.store ∧ d'.jnl.half0 = d.jnl.half0 ∧ d'.jnl.half1 = d.jnl.half1 ∧ d'.sec.otp = d.sec.otp
    ∧ d'.sec.session = none
  ∀ t : Nat,
    completes (.rstNAssert t) (fun _ => True) (both 1)
    ∧ completes (.vfldLoss t) (fun _ => True) (both 2)
    ∧ (∀ c t0 : Nat, completes (.controlDieReset t)
        (fun d => d.boot.resetDue = some (c, t0) ∧ (c = 3 ∨ c = 4 ∨ c = 5 ∧ t0 + 4000000 ≤ max d.now t)) (fun d d' =>
          d'.rdF Reg.SYS_RESET_CAUSE 7 0 = c ∧ d'.boot.st = .reset ∧ d'.fio.posture = true
          ∧ d'.time.tc0 = d.time.tc0 ∧ d'.rd Reg.TBS_SAMPLE_TICK = d.rd Reg.TBS_SAMPLE_TICK ∧ d'.ilk = d.ilk
          ∧ (∀ a, keptReg a = false → a ∉ [Reg.SYS_RESET_CAUSE, Reg.SYS_STATUS, Reg.PWR_FLAGS, Reg.PWR_SUPPLY] →
              (∀ i, i < 4 → a ≠ Reg.REC_OVW i) → d'.rd a = resetOf a)
          ∧ (∀ a, keptReg a = true → a ∉ Reg.SYS_STATUS :: switchRegs → d'.rd a = if rwReg a then resetOf a else d.rd a)
          ∧ d'.eng = State.reset.dev.eng ∧ d'.mot = State.reset.dev.mot ∧ d'.tmem = []
          ∧ d'.rcd.store = d.rcd.store ∧ d'.sec.otp = d.sec.otp ∧ d'.sec.session = none))
    ∧ completes (.controlDieReset t) (fun d => d.boot.resetDue = none) (fun d d' => d.changesSilently d' [.time] [])
    ∧ completes (.controlDieRelease t)
        (fun d => d.boot.st = .reset ∧ d.boot.supHold = false ∧ d.suppliesOk = true ∧ d.time.xtalOk = true
          ∧ (d.boot.cause ≤ 2 → d.time.rstN = true ∧ d.time.pllLock = true ∧ d.boot.since + 40000 ≤ max d.now t)
          ∧ (d.boot.cause = 3 → d.boot.since + 200000 ≤ max d.now t)
          ∧ (d.boot.cause = 4 → d.boot.since + 2000000 ≤ max d.now t)
          ∧ (5 ≤ d.boot.cause → d.boot.since + 20000 ≤ max d.now t)) (fun d d' =>
          d'.boot.st = .wipe ∧ d'.rdF Reg.SYS_STATUS 3 0 = 1 ∧ d'.rdF Reg.CVN_STATUS 10 8 = d.cvn.role % 8
          ∧ d'.rcd.released = d'.now ∧ d'.now = max d.now t
          ∧ d.changesSilently d' [.time, .rcd, .boot] [Reg.PWR_SUPPLY, Reg.CVN_STATUS, Reg.SYS_STATUS])
    ∧ completes .resetGo (fun d => d.hostUp = true ∧ d.solo = true
          ∧ (∀ p : Slot, d.enabled p = true → d.drives p = true → d.rdF (Reg.PRT_STATE p) 3 0 ∈ [0, 1, 9, 10]))
        (fun d d' => d'.boot.resetDue = some (6, d.now) ∧ d.onlyParts d' ([.boot, .jnl, .cvn] ++ noticeParts))
    ∧ completes .resetGo (fun d => d.hostUp = true ∧ d.solo = true ∧ (∃ p : Slot, d.engRun p = true)
          ∧ (∃ p : Slot, d.enabled p = true ∧ d.drives p = true ∧ d.rdF (Reg.PRT_STATE p) 3 0 ∉ [0, 1, 9, 10]))
        (fun d d' => d'.rdB Reg.SYS_FLAGS 0 = true ∧ d.changesSilently d' [.setNow] [Reg.SYS_FLAGS]))
  ∧ (
  (∀ (t : Nat) (ok : Bool),
    completes (.startupStepComplete t ok) (fun d => d.boot.pfStop = true ∨ d.boot.st ∈ [.reset, .engines, .done, .running, .stopped])
      (fun d d' => d'.now = max d.now t ∧ d.changesSilently d' [.time] [])
    ∧ completes (.startupStepComplete t ok) (fun d => d.boot.pfStop = false ∧ d.boot.st = .wipe) (fun d d' =>
        d'.boot.st = .keys ∧ d'.rdF Reg.SYS_STATUS 3 0 = 2 ∧ d.changesSilently d' [.time, .boot] [Reg.SYS_STATUS])
    ∧ completes (.startupStepComplete t ok)
        (fun d => d.boot.pfStop = false ∧ d.boot.st = .keys ∧ d.sec.otp.wipePending = false) (fun d d' =>
        let runs := d.lcState = 1 ∨ d.lcState = 2
        (runs → d'.boot.st = .nand ∧ d'.rdF Reg.SYS_STATUS 3 0 = 3)
        ∧ (¬runs → d'.boot.st = .stopped ∧ d'.rdF Reg.SYS_STATUS 11 8 = 5)
        ∧ d'.rd Reg.SEC_SVN_COUNT = wn d.sec.otp.svn ∧ d'.rdF Reg.LCS_STATE 3 0 = d.lcState % 16
        ∧ d.changesSilently d' [.time, .boot] [Reg.SYS_STATUS, Reg.SEC_STATUS, Reg.SEC_SVN_COUNT, Reg.SEC_SLOT_A,
            Reg.SEC_SLOT_B, Reg.SEC_KEYSLOTS, Reg.LCS_STATE, Reg.LCS_SGEN])
    ∧ completes (.startupStepComplete t ok) (fun d => d.boot.pfStop = false ∧ d.boot.st = .nand) (fun d d' =>
        (ok = true → d'.boot.st = .verify ∧ d'.rdB Reg.REC_STATUS 2 = true)
        ∧ (ok = false → d'.boot.st = .stopped ∧ d'.rdF Reg.SYS_STATUS 11 8 = 6)
        ∧ d.changesSilently d' [.time, .boot] [Reg.SYS_STATUS, Reg.REC_STATUS, Reg.JNL_NAND_STATUS, Reg.JNL_ERASE_MAX]))
  ∧ completes .notStartedHoldEnd (fun _ => True) (fun d d' =>
      (∀ p : Slot, d.drives p = true → d'.portal[p].holdNs = false)
      ∧ (∀ p : Slot, d.drives p = false → d'.portal[p] = d.portal[p])
      ∧ d'.now = max d.now (d.boot.doneAt + 1000000000) ∧ d.changesSilently d' [.time, .portal] []))

/-- A commit (R17, R402, R403, R404): GO makes it pending, and while it is pending GO does nothing; at its resolution a set
whose checks fail changes no value in force and reports the reason and the address, and an empty set is accepted. -/
def Obligations.Commits : Prop :=
  completes .commitCmd (fun d => d.takesFrames = true ∧ d.rdB Reg.SYS_COMMIT_STATUS 31 = false) (fun d d' =>
    d'.rdB Reg.SYS_COMMIT_STATUS 31 = true ∧ d'.time.goAt = d.now ∧ d.changesSilently d' [.time] [Reg.SYS_COMMIT_STATUS])
  ∧ completes .commitCmd (fun d => d.rdB Reg.SYS_COMMIT_STATUS 31 = true) (fun d d' => d' = d)
  ∧ completes .commitResolution (fun d => d.rdB Reg.SYS_COMMIT_STATUS 31 = false) (fun d d' => d' = d)
  ∧ (∀ a r : Nat, 0 < r → r < 256 → completes .commitResolution
      (fun d => d.rdB Reg.SYS_COMMIT_STATUS 31 = true ∧ d.commitCheck = some (a, r)) (fun d d' =>
        d'.rdB Reg.SYS_COMMIT_STATUS 31 = false ∧ d'.rdB Reg.SYS_COMMIT_STATUS 29 = true
        ∧ d'.rdF Reg.SYS_COMMIT_CNT 15 0 = min 65535 (d.rdF Reg.SYS_COMMIT_CNT 15 0 + 1)
        ∧ d'.rdF Reg.SYS_COMMIT_CNT 31 16 = d.rdF Reg.SYS_COMMIT_CNT 31 16
        ∧ d'.rd Reg.SYS_COMMIT_ADDR = wn a
        ∧ d.changesSilently d' [] [Reg.SYS_COMMIT_STATUS, Reg.SYS_COMMIT_ADDR, Reg.SYS_COMMIT_CNT]))
  ∧ completes .commitResolution
      (fun d => d.rdB Reg.SYS_COMMIT_STATUS 31 = true ∧ d.commitCheck = none ∧ d.stagedSet = []) (fun d d' =>
        d'.rdB Reg.SYS_COMMIT_STATUS 31 = false ∧ d'.rdB Reg.SYS_COMMIT_STATUS 30 = true ∧ d'.rdB Reg.SYS_COMMIT_STATUS 28 = true
        ∧ d'.rdF Reg.SYS_COMMIT_CNT 31 16 = min 65535 (d.rdF Reg.SYS_COMMIT_CNT 31 16 + 1)
        ∧ d.changesSilently d' [] [Reg.SYS_COMMIT_STATUS, Reg.SYS_COMMIT_CNT])
  ∧ completes .commitResolution
      (fun d => d.rdB Reg.SYS_COMMIT_STATUS 31 = true ∧ d.commitCheck = none ∧ d.stagedSet ≠ []
        ∧ d.stagedSet.length ≤ 253 ∧ d.rdB Reg.REC_STATUS 1 = true) (fun d d' =>
        d'.rdB Reg.SYS_COMMIT_STATUS 31 = false ∧ d'.rdB Reg.SYS_COMMIT_STATUS 30 = true
        ∧ d'.rdB Reg.SYS_COMMIT_STATUS 28 = false
        ∧ d'.rdF Reg.SYS_COMMIT_CNT 31 16 = min 65535 (d.rdF Reg.SYS_COMMIT_CNT 31 16 + 1)
        ∧ (∃ e, d'.jnl.pending.getLast? = some e ∧ e.body = .commit d.stagedSet))

/-- SYNC and the lanes (R278, R279, R314, R383): a follower counts pulses within ±5 ns, reports lock after 64 of them, and
adopts the leader's tick configuration, tick index and period count at the strobe that its frame names, the first time at
the strobe next to the pulse after it (log 151); a phase error beyond ±20 ns or four
missing pulses lose the lock, which makes every held mirage ineligible and ends the measurement of edges; a member that has
heard pulses becomes leader only if it was locked and after 8 position periods without pulses, and a change of leader is flagged; a port is UP
while a receive lane of it is; a frame whose CRC fails is counted. -/
def Obligations.SyncAndLanes : Prop :=
  let follower (d : Dev) : Prop := d.solo = false ∧ d.rdB Reg.CVN_STATUS 17 = false
  let lost (d : Dev) : Prop := d.pwr.st ≠ .dormant ∧ (20 < |d.syncPhase| ∨ 4 ≤ d.cvn.missCnt)
  let edges : List Nat := Reg.FED_EDG_STATUS :: Reg.FED_EDG_FLAGS :: (List.range 4).map Reg.FED_EDG_BAND
  let adopts (d d' : Dev) (cfg : Word) (idx ps : Nat) : Prop :=
    d'.rdF Reg.TBS_TICK_CFG 15 0 = fld cfg 15 0 ∧ d'.rdF Reg.TBS_TICK_CFG 19 16 = fld cfg 19 16 ∧ d'.time.nextK = idx
    ∧ d'.time.posTicks % 65536 = ps ∧ d'.cvn.syncDue = none ∧ d'.cvn.syncSet = true
  (∀ (t : Nat) (e : Int),
    let counted (d d' : Dev) : Prop := d'.cvn.lockCnt = (if |e| ≤ 5 then d.cvn.lockCnt + 1 else 0) ∧ d'.cvn.silent = 0
      ∧ d'.cvn.missCnt = 0 ∧ d'.cvn.pulses = true
    completes (.syncPulse t e) (fun d => follower d ∧ (d.cvn.syncDue = none ∨ d.cvn.syncSet = true)) (fun d d' =>
      counted d d' ∧ d.changesSilently d' [.cvn, .time] [Reg.CVN_LINK])
    ∧ (∀ cfg idx ps, ps < 65536 → completes (.syncPulse t e)
        (fun d => follower d ∧ d.cvn.syncDue = some (cfg, idx, ps) ∧ d.cvn.syncSet = false) fun d d' =>
          counted d d'
          ∧ (2 * (d'.now - d.time.lastStrobe) < d.rdF Reg.TBS_TICK_CFG 15 0 → adopts d d' cfg (idx + 1) ps)
          ∧ (d.rdF Reg.TBS_TICK_CFG 15 0 ≤ 2 * (d'.now - d.time.lastStrobe) →
              d'.cvn.syncArm = true ∧ d'.cvn.syncDue = some (cfg, idx, ps) ∧ d'.time.nextK = d.time.nextK)
          ∧ d.changesSilently d' [.cvn, .time, .staged] [Reg.CVN_LINK, Reg.TBS_TICK_CFG])
    ∧ completes (.syncPulse t e) (fun d => ¬follower d) (fun d d' => d.changesSilently d' [.time] []))
  ∧ (∀ cfg idx pseq joint,
    completes (.syncFrame cfg idx pseq joint) follower (fun d d' =>
      d'.cvn.syncDue = some (cfg, idx.toNat, pseq.toNat) ∧ d'.cvn.syncArm = false
      ∧ d'.pwr.joint = (if joint = 0 then none else if joint = 1 then some .hold else if joint = 2 then some .stable else some .dormant)
      ∧ d.changesSilently d' [.cvn, .pwr] [])
    ∧ completes (.syncFrame cfg idx pseq joint) (fun d => d.solo = true) (fun d d' => d' = d))
  ∧ (∀ (d : Dev) cfg idx ps, d.cvn.syncDue = some (cfg, idx, ps + 1) → ps < 65535 →
      (d.cvn.syncArm = true ∨ d.cvn.syncSet = true ∧ d.time.nextK = 0) → adopts d d.syncStrobe cfg idx ps)
  ∧ completes .syncLock (fun d => follower d ∧ 64 ≤ d.cvn.lockCnt) (fun d d' =>
      d'.rdB Reg.CVN_STATUS 16 = true ∧ d'.cvn.wasLocked = true ∧ d'.rdB Reg.FED_EDG_STATUS 2 = false
      ∧ d.changes d' [.cvn, .fio] (Reg.CVN_STATUS :: edges))
  ∧ completes .syncLock (fun d => d.cvn.lockCnt < 64) (fun d d' => d' = d)
  ∧ (∀ t, completes (.syncLost t) (fun d => d.rdB Reg.CVN_STATUS 16 = true ∧ lost d) fun d d' =>
      d'.rdB Reg.CVN_STATUS 16 = false ∧ d'.rdB Reg.CVN_FLAGS 2 = true ∧ d'.cvn.lockCnt = 0
      ∧ (∀ p : Slot, d'.cvn.mirages[p].unlocked = true) ∧ d'.rd Reg.CVN_MIRAGES = 0
      ∧ (∀ e : Edge, d'.edgeMeasured e = false → d'.edgeBand e = 7)
      ∧ d.changes d' [.cvn, .time, .fio] ([Reg.CVN_STATUS, Reg.CVN_FLAGS, Reg.CVN_MIRAGES] ++ edges))
  ∧ (∀ t, completes (.syncLost t) (fun d => d.rdB Reg.CVN_STATUS 16 = false ∨ ¬lost d) fun d d' =>
      d.changesSilently d' [.time] [])
  ∧ (∀ t me, completes (.leaderChoice t me) (fun d => d.solo = false ∧ d.pwr.st ≠ .dormant
        ∧ (me = true → d.rdB Reg.CVN_STATUS 17 = true ∨ (d.upTo t).mayLead = true)) fun d d' =>
      d'.rdB Reg.CVN_STATUS 17 = me ∧ (me = true → d'.rdB Reg.CVN_STATUS 16 = false)
      ∧ (d.rdB Reg.CVN_STATUS 17 ≠ me → d'.rdB Reg.CVN_FLAGS 14 = true)
      ∧ d.changes d' [.cvn, .time, .fio] ([Reg.CVN_STATUS, Reg.CVN_FLAGS] ++ edges))
  ∧ (∀ t, completes (.leaderChoice t true) (fun d => d.rdB Reg.CVN_STATUS 17 = false ∧ d.cvn.pulses = true
        ∧ (d.cvn.wasLocked = false ∨ d.cvn.silent < 8)) fun d d' =>
      d.changesSilently d' [.time] [])
  ∧ (∀ (t : Nat) (west : Bool) (lane : Fin 2),
      let bitNo : Nat := (if west then 2 else 0) + lane.val
      let other : Nat := (if west then 2 else 0) + (1 - lane.val)
      let port : Nat := if west then 13 else 12
      completes (.laneUp t west lane) (fun d => d.solo = false) (fun d d' =>
        d'.rdB Reg.CVN_LINK bitNo = true
        ∧ (d.rdB Reg.CVN_LINK bitNo = false → d.rdB Reg.CVN_LINK other = false →
            d'.rdB Reg.CVN_STATUS port = true ∧ d'.rdB Reg.CVN_FLAGS 0 = true)
        ∧ d.changes d' [.cvn, .time] [Reg.CVN_LINK, Reg.CVN_STATUS, Reg.CVN_FLAGS])
      ∧ completes (.laneDown t west (lane, [])) (fun d => d.solo = false) (fun d d' =>
        d'.rdB Reg.CVN_LINK bitNo = false
        ∧ (d.rdB Reg.CVN_LINK bitNo = true → d.rdB Reg.CVN_LINK other = false →
            d'.rdB Reg.CVN_STATUS port = false ∧ d'.rdB Reg.CVN_FLAGS 1 = true)
        ∧ (d.rdB Reg.CVN_LINK other = true → d'.rd Reg.CVN_STATUS = d.rd Reg.CVN_STATUS)
        ∧ d.changes d' [.cvn, .time] [Reg.CVN_LINK, Reg.CVN_STATUS, Reg.CVN_FLAGS])
      ∧ (∀ fails : List Nat, fails ≠ [] → fails.length ≤ 3 → completes (.laneDown t west (lane, fails))
          (fun d => d.solo = false ∧ d.cvn.crcAt = [[], [], [], []]) fun d d' =>
        let cnt := if west then Reg.CVN_CRC_ERR_B else Reg.CVN_CRC_ERR_A
        d'.rd cnt = wn (min (2 ^ 32 - 1) ((d.rd cnt).toNat + fails.length)) ∧ d.changesSilently d' [.cvn, .time] [cnt]))

/-- The copied state (R230, R281, R282, R283, R286, R314, R379, R384): a block that arrives whole within 200 µs is kept for the
next install and a late one discarded; an install gives the holder the driver's portal and generator state and makes the
mirage fresh, and a halted engine drops it; a forwarded write waits for its tick, or is late; a mirage 32 ms without
install is stale; HEALTH shows the partner, or the neighbour it came from. -/
def Obligations.CopiedState : Prop :=
  (∀ (p : Slot) (b : StateBlock) (t : Nat), completes (.stateFrame p b t)
    (fun d => d.duo = true ∧ d.drives p = false ∧ d.now ≤ t + 40000) fun d d' =>
      d'.cvn.mirages[p].block = some (b, t) ∧ d'.cvn.mirages[p].seen = true ∧ d'.cvn.mirages[p].atRest = b.atRest
      ∧ (∀ q : Slot, q ≠ p → d'.cvn.mirages[q] = d.cvn.mirages[q]) ∧ d.changesSilently d' [.cvn, .boot] [])
  ∧ (∀ (p : Slot) (b : StateBlock) (t : Nat), completes (.stateFrame p b t)
      (fun d => d.solo = true ∨ d.drives p = false ∧ t + 40000 < d.now) fun d d' => d' = d)
  ∧ (∀ p : Slot, completes (.stateDiscard p) (fun _ => True) fun d d' =>
      d'.cvn.mirages[p].block = none ∧ (∀ q : Slot, q ≠ p → d'.cvn.mirages[q] = d.cvn.mirages[q])
      ∧ d.changesSilently d' [.cvn] [])
  ∧ (∀ p : Slot, completes (.stateInstall p) (fun d => d.cvn.mirages[p].block = none ∨ d.solo = true ∨ d.drives p = true)
      fun d d' => d' = d)
  ∧ (∀ (p : Slot) (b : StateBlock) (t : Nat), completes (.stateInstall p)
      (fun d => d.cvn.mirages[p].block = some (b, t) ∧ d.duo = true ∧ d.drives p = false ∧ b.regs = [] ∧ b.mots = []
        ∧ b.servos = [] ∧ b.steps = [] ∧ b.counts = [] ∧ b.reqs = [] ∧ b.words = [] ∧ d.cvn.mirages[p].fwd = []
        ∧ d.axesOf p = [] ∧ d.rdF (Reg.ENG_STATUS p) 1 0 < 2) fun d d' =>
      d'.cvn.mirages[p].installed = some d.now ∧ d'.cvn.mirages[p].block = none ∧ d'.cvn.mirages[p].lateFwd = false
      ∧ d'.cvn.mirages[p].stale = false ∧ d'.cvn.mirages[p].unlocked = (!d.syncOk)
      ∧ d'.portal[p] = { b.portal with cmd := d.portal[p].cmd, cmdGate := d.portal[p].cmdGate }
      ∧ d'.rdF (Reg.PRT_STATE p) 17 16 = 1
      ∧ (∀ q : Slot, q ≠ p → d'.portal[q] = d.portal[q])
      ∧ d.changesSilently d' [.cvn, .portal, .eng, .fio] ([Reg.PRT_STATE p, Reg.CVN_DRIVE, Reg.CVN_MIRAGES] ++ switchRegs))
  ∧ (∀ (p : Slot) (b : StateBlock) (t : Nat), completes (.stateInstall p)
      (fun d => d.cvn.mirages[p].block = some (b, t) ∧ d.solo = false ∧ d.drives p = false ∧ 2 ≤ d.rdF (Reg.ENG_STATUS p) 1 0)
      fun d d' => d'.cvn.mirages[p] = { d.cvn.mirages[p] with block := none }
        ∧ (∀ q : Slot, q ≠ p → d'.cvn.mirages[q] = d.cvn.mirages[q]) ∧ d.changesSilently d' [.cvn] [])
  ∧ (∀ (p : Slot) (a : Axis) (c : McmdWrite) (k : Nat), 0 < k → k < 32768 → ∀ now < 65536,
      completes (.fwd p a c ((now + k) % 65536))
        (fun d => d.solo = false ∧ d.drives p = false ∧ d.time.posTicks % 65536 = now) fun d d' =>
      d'.cvn.mirages[p].fwd = d.cvn.mirages[p].fwd ++ [⟨a, c, (now + k) % 65536⟩] ∧ d.changesSilently d' [.cvn] [])
  ∧ (∀ (p : Slot) (a : Axis) (c : McmdWrite) (k : Nat), k < 32768 → ∀ now < 65536,
      completes (.fwd p a c ((now + 65536 - k) % 65536))
        (fun d => d.solo = false ∧ d.drives p = false ∧ d.time.posTicks % 65536 = now) fun d d' =>
      d'.cvn.mirages[p].lateFwd = true ∧ d'.cvn.mirages[p].fwd = d.cvn.mirages[p].fwd ∧ d'.rdB Reg.CVN_FLAGS 13 = true
      ∧ d'.mirageOk p = false ∧ d.changes d' [.cvn] [Reg.CVN_FLAGS, Reg.CVN_MIRAGES])
  ∧ (∀ (p : Slot) (t : Nat), completes (.mirageStale p) (fun d => d.solo = false ∧ d.drives p = false
        ∧ d.cvn.mirages[p].stale = false ∧ d.cvn.mirages[p].installed = some t) fun d d' =>
      d'.cvn.mirages[p].stale = true ∧ d'.rdB Reg.CVN_FLAGS 12 = true ∧ d'.rdB Reg.CVN_MIRAGES p = false
      ∧ d'.now = max d.now (t + 6400000) ∧ d.changes d' [.cvn, .time] [Reg.CVN_FLAGS, Reg.CVN_MIRAGES])
  ∧ (∀ (t : Nat) (h : HealthMsg), completes (.healthFrame t h) (fun d => d.duo = true) fun d d' =>
      d'.rd Reg.CVN_HEALTH_W = h.word ∧ d'.rd Reg.CVN_HEALTH_E = h.word
      ∧ d'.cvn.healthAt.getD 0 none = (if d.cvn.healthAt.length = 0 then none else some d'.now)
      ∧ d'.rd Reg.EVC_PEER_SUM_W = h.summary &&& 0x37FFFF#32
      ∧ (bit (d.rd Reg.CVN_HEALTH_W) 0 = true → bit h.word 0 = false → d'.rdB Reg.CVN_FLAGS 4 = true)
      ∧ d'.now = max d.now t
      ∧ d.changes d' [.cvn, .time, .boot] [Reg.CVN_HEALTH_W, Reg.CVN_HEALTH_E, Reg.EVC_PEER_SUM_W, Reg.EVC_PEER_SUM_E,
          Reg.CVN_FLAGS])
  ∧ (∀ (t : Nat) (h : HealthMsg), completes (.healthFrame t h) (fun d => d.ring = true) fun d d' =>
      d'.rd (if h.west then Reg.CVN_HEALTH_W else Reg.CVN_HEALTH_E) = h.word
      ∧ d'.rd (if h.west then Reg.EVC_PEER_SUM_W else Reg.EVC_PEER_SUM_E) = h.summary &&& 0x37FFFF#32
      ∧ d.changes d' [.cvn, .time, .boot] [if h.west then Reg.CVN_HEALTH_W else Reg.CVN_HEALTH_E,
          if h.west then Reg.EVC_PEER_SUM_W else Reg.EVC_PEER_SUM_E, Reg.CVN_FLAGS])
  ∧ (∀ (t : Nat) (h : HealthMsg), completes (.healthFrame t h) (fun d => d.solo = true) fun d d' =>
      d.changesSilently d' [.time] [])
  ∧ (∀ (t : Nat) (west : Bool), completes (.partnerIneligible t west)
        (fun d => d.solo = true ∨ d.pwr.st = .stable ∨ d.pwr.st = .dormant) fun d d' => d.changesSilently d' [.time] [])
  ∧ (∀ (t : Nat) (west : Bool), completes (.partnerIneligible t west)
        (fun d => d.solo = false ∧ d.pwr.st ≠ .stable ∧ d.pwr.st ≠ .dormant) fun d d' =>
      d'.rdB Reg.CVN_FLAGS 4 = true
      ∧ (d.duo = true ∨ west = true → d'.rdB Reg.EVC_PEER_SUM_W 18 = false)
      ∧ (d.duo = true ∨ west = false → d'.rdB Reg.EVC_PEER_SUM_E 18 = false)
      ∧ d.changes d' [.time] [Reg.CVN_FLAGS, Reg.EVC_PEER_SUM_W, Reg.EVC_PEER_SUM_E])

/-- Roles and surrender (R277, R284, R285, R288, R289, R290, R295): the Duo member that leads and is healthy takes every enabled
portal that no copy has shown to be driven; 5 s without a copy, with SURR_N low, the other member does; in Ring a healthy
member in sync claims its home portals after a power-on; a member that surrenders names its cause and drives nothing, the
host's SURRENDER.GO waiting for the strobe; SURR_N low that is not its own starts the takeovers, a portal without an
eligible mirage being driven by no member; a SURRENDER frame frees the lease of its epoch. -/
def Obligations.RolesAndSurrender : Prop :=
  let started (d : Dev) : Prop := d.boot.st = .running ∨ d.boot.st = .done
  let takes (d d' : Dev) : Prop :=
    (∀ p : Slot, d.enabled p = true → d.cvn.mirages[p].seen = false → d'.rdF (Reg.PRT_STATE p) 17 16 = 0)
    ∧ (∀ p : Slot, d.enabled p = false ∨ d.cvn.mirages[p].seen = true → d'.rd (Reg.PRT_STATE p) = d.rd (Reg.PRT_STATE p))
    ∧ d.onlyParts d' [.portal, .stepd, .cvn, .time, .fio]
  completes .roleTake (fun d => d.duo = true ∧ started d ∧ d.startHealthy = true ∧ d.cvn.surrendered = false
      ∧ d.cvn.ready = false ∧ d.cvn.role % 2 = 0 ∧ d.rdB Reg.CVN_STATUS 17 = true) takes
  ∧ completes .roleTake (fun d => d.duo = true ∧ d.cvn.ready = true) (fun d d' => d' = d)
  ∧ completes .roleTake (fun d => d.ring = true ∧ d.syncOk = true ∧ started d ∧ d.startHealthy = true
      ∧ d.cvn.surrendered = false ∧ d.rd Reg.SYS_RESET_CAUSE = 1) (fun d d' =>
      (∀ p : Slot, p.val < 6 → d.enabled p = true → d.drives p = false → d.rd (Reg.CVN_LEASE_EPOCH p) = 0 →
        d'.drives p = true ∧ d'.rd (Reg.CVN_LEASE_EPOCH p) = 1 ∧ d'.rdF (Reg.CVN_LEASE_STATE p) 2 0 = 1
        ∧ d'.rdB Reg.CVN_FLAGS 9 = true)
      ∧ (∀ p : Slot, 6 ≤ p.val ∨ d.enabled p = false ∨ d.drives p = true → d'.rd (Reg.PRT_STATE p) = d.rd (Reg.PRT_STATE p)
        ∧ d'.rd (Reg.CVN_LEASE_EPOCH p) = d.rd (Reg.CVN_LEASE_EPOCH p)))
  ∧ completes .roleTake (fun d => d.solo = true ∨ d.startHealthy = false ∨ d.cvn.surrendered = true) (fun d d' => d' = d)
  ∧ completes .stateWaitTimeout (fun d => d.duo = true ∧ d.cvn.role % 2 = 1 ∧ started d ∧ d.cvn.surrIn = false
      ∧ d.cvn.ready = false ∧ d.cvn.surrendered = false ∧ (∀ p : Slot, d.cvn.mirages[p].seen = false)
      ∧ (d.upTo (max d.cvn.startAt d.cvn.surrLow + 1000000000)).startHealthy = true) takes
  ∧ (∀ (t : Nat) (code : BitVec 8),
      completes (.memberSurrender t code) (fun d => d.solo = true ∨ d.cvn.surrendered = true)
        (fun d d' => d.changesSilently d' [.time] [])
      ∧ completes (.memberSurrender t code) (fun d => d.solo = false ∧ d.cvn.surrendered = false) (fun d d' =>
        d'.cvn.surrendered = true ∧ d'.rd Reg.CVN_SURR_CAUSE = wn (2 ^ 15 + code.toNat)
        ∧ d'.rdB Reg.CVN_STATUS 0 = true ∧ d'.rdB Reg.CVN_STATUS 18 = true ∧ d'.rdB Reg.CVN_FLAGS 5 = true
        ∧ (∀ p : Slot, d.enabled p = true → d.drives p = true → d'.rdF (Reg.PRT_STATE p) 17 16 = 3)))
  ∧ (∀ gate, completes (.surrenderGo gate) (fun d => d.hostUp = true ∧ (gate = false ∨ d.hasRight 5 = false ∨ d.solo = true))
      fun d d' => d' = d)
  ∧ completes (.surrenderGo true) (fun d => d.hostUp = true ∧ d.hasRight 5 = true ∧ d.solo = false)
      (fun d d' => d'.cvn = { d.cvn with surrGo := true } ∧ d.changesSilently d' [.cvn] [])
  ∧ (∀ t : Nat, completes (.surrNLow t true) (fun _ => True) fun d d' =>
      d'.cvn.surrIn = true ∧ d'.rdB Reg.CVN_STATUS 19 = true ∧ d.changesSilently d' [.cvn, .time] [Reg.CVN_STATUS])
  ∧ (∀ t : Nat, completes (.surrNLow t false)
      (fun d => d.duo = true ∧ d.cvn.surrIn = true ∧ d.cvn.surrendered = false ∧ d.fio.posture = false ∧ d.cvn.ready = true
        ∧ d.cvn.hand = [])
      fun d d' =>
        d'.cvn.surrIn = false ∧ d'.rdB Reg.CVN_STATUS 19 = false
        ∧ (∀ p : Slot, d.enabled p = true → d.drives p = false → d'.canTake p = true →
            ∃ h, d'.handOf p true = some h ∧ (h.gapped = d.rdB Reg.CVN_CFG 2) ∧ h.clocks = true ∧ d'.now < h.valley)
        ∧ (∀ p : Slot, d.enabled p = true → d.drives p = false → d'.canTake p = false → d'.owner p = 3)
        ∧ d.changes d' [.cvn, .time, .fio] (Reg.CVN_STATUS :: Reg.CVN_DRIVE :: (List.range 12).map Reg.PRT_STATE ++ switchRegs))
  ∧ (∀ (t : Nat) (p : Slot) (member : Bool) (e : Word),
      completes (.surrender t p member e)
        (fun d => d.ring = true ∧ d.enabled p = true ∧ d.drives p = false ∧ d.rd (Reg.CVN_LEASE_EPOCH p) = e
          ∧ d.handOf p true = none) (fun d d' =>
        d'.rdF (Reg.CVN_LEASE_STATE p) 2 0 = 4 ∧ d'.cvn.leases[p].free = true
        ∧ (d'.canTake p = true → ∃ h, d'.handOf p true = some h ∧ h.clocks = true)
        ∧ (d'.canTake p = false → d'.owner p = 3)
        ∧ d.changes d' [.cvn, .time, .fio] ([Reg.CVN_LEASE_STATE p, Reg.PRT_STATE p, Reg.CVN_DRIVE] ++ switchRegs))
      ∧ completes (.surrender t p false e)
        (fun d => d.solo = true ∨ d.drives p = true ∨ d.duo = false ∧ d.rd (Reg.CVN_LEASE_EPOCH p) ≠ e)
        (fun d d' => d.changesSilently d' [.time] [])
      ∧ completes (.surrender t p false e)
        (fun d => d.duo = true ∧ d.enabled p = true ∧ d.drives p = false ∧ ∃ h, d.handOf p true = some h ∧ h.clocks = true)
        (fun d d' => d'.handOf p true = d.handOf p true ∧ d'.owner p = d.owner p)
      ∧ completes (.surrender t p member e)
        (fun d => d.duo = true ∧ d.enabled p = true ∧ d.drives p = false ∧ d.handOf p true = none) (fun d d' =>
        (d'.canTake p = true → ∃ h, d'.handOf p true = some h ∧ h.clocks = true ∧ d'.now < h.valley)
        ∧ (d'.canTake p = false → d'.owner p = 3)))

/-- Takeover and transfer (R290, R291, R292, R346): at the awaited valley a member with an eligible mirage drives the
portal, in Ring with a claim, unless a shared gate node reads high in the gap, which is BRIDGE_FAULT on a portal that then
no member drives (log 129); CVN.XFER needs its right; an XFER without an eligible mirage is refused; a refusal ends the
transfer; at the valley the old driver releases, and the new one drives with the duties of the old, or one period later
after the readback. -/
def Obligations.Transfers : Prop :=
  let refused (p : Slot) (d d' : Dev) : Prop :=
    d'.rdF (Reg.PRT_STATE p) 3 0 = 10 ∧ d'.rdF (Reg.PRT_STATE p) 15 8 = 9 ∧ d'.owner p = 3 ∧ d'.portal[p].cycOn = false
    ∧ d'.rdB Reg.CVN_FLAGS 6 = true ∧ (∀ q : Slot, q ≠ p → d'.portal[q] = d.portal[q])
  let awake (d : Dev) : Prop := d.pwr.st ≠ .stable ∧ d.pwr.st ≠ .dormant
  let handed : List Part := [.cvn, .time, .portal, .stepd, .fio] ++ noticeParts
  (∀ (p : Slot) (high : Bool) (h : HandOver),
    completes (.takeover p high) (fun d => d.handOf p true = none ∨ d.handOf p true = some h ∧ h.clocks = false) (fun d d' => d' = d)
    ∧ completes (.takeover p high)
        (fun d => d.handOf p true = some h ∧ h.clocks = true ∧ d.solo = false ∧ ((d.upTo h.valley).dropHand p).canTake p = true
          ∧ (h.gapped && high) = false) (fun d d' =>
        d'.drives p = true ∧ d'.handOf p true = none ∧ d'.rdB Reg.CVN_FLAGS (if d.ring then 9 else 6) = true
        ∧ (d.ring = true → d'.rd (Reg.CVN_LEASE_EPOCH p) = d.rd (Reg.CVN_LEASE_EPOCH p) + 1)
        ∧ d'.rd Reg.CVN_TAKEOVERS = wn (min (2 ^ 32 - 1) ((d.rd Reg.CVN_TAKEOVERS).toNat + 1))
        ∧ d'.now = max d.now h.valley
        ∧ d.onlyParts d' handed)
    ∧ completes (.takeover p high)
        (fun d => d.handOf p true = some h ∧ h.clocks = true ∧ ((d.upTo h.valley).dropHand p).canTake p = true
          ∧ (h.gapped && high) = true) (refused p)
    ∧ completes (.takeover p high)
        (fun d => d.handOf p true = some h ∧ h.clocks = true ∧ ((d.upTo h.valley).dropHand p).canTake p = false)
        (fun d d' => d'.handOf p true = none ∧ d'.owner p = 3 ∧ d.onlyParts d' [.cvn, .time, .fio, .stepd]))
  ∧ (∀ (mask : Word) (gate : Bool), completes (.cvnXfer mask gate)
      (fun d => d.hostUp = true ∧ (d.solo = true ∨ gate = false ∨ d.hasRight 4 = false)) fun d d' => d' = d)
  ∧ (∀ mask : Word, completes (.cvnXfer mask true)
      (fun d => d.hostUp = true ∧ d.solo = false ∧ d.hasRight 4 = true ∧ awake d) fun d d' =>
      (∀ p : Slot, bit mask p = true → d.enabled p = true → d.drives p = true → d.otherReady p = true →
        ∃ h, d'.handOf p false = some h ∧ d.now + 4000 ≤ h.valley ∧ d'.sent 3 8 p = true)
      ∧ d.changesSilently d' [.cvn] [])
  ∧ (∀ (t : Nat) (p : Slot) (v : Nat) (e : Word) (duties : List (List Nat)),
      completes (.xfer t p v e duties) (fun d => d.solo = false ∧ d.drives p = false ∧ awake d
          ∧ ((d.upTo t).canTake p = false ∨ d.duo = false ∧ d.rd (Reg.CVN_LEASE_EPOCH p) ≠ e)) (fun d d' =>
        d'.sent 3 6 p = true ∧ d'.cvn.hand = d.cvn.hand ∧ d.changesSilently d' [.cvn, .time] [])
      ∧ completes (.xfer t p v e duties) (fun d => d.solo = false ∧ d.drives p = false ∧ (d.upTo t).canTake p = true
          ∧ (d.duo = true ∨ d.rd (Reg.CVN_LEASE_EPOCH p) = e)) (fun d d' =>
        (∃ h, d'.handOf p true = some h ∧ h.valley = v ∧ h.duties = duties ∧ h.clocks = false
          ∧ (h.gapped = (d.rdB Reg.CVN_CFG 2 || d.ring)))
        ∧ d.changesSilently d' [.cvn, .time] [])
      ∧ completes (.refuse t p) (fun d => (d.handOf p false).isSome = true) (fun d d' =>
        d'.handOf p false = none ∧ d'.rdB Reg.CVN_FLAGS 7 = true ∧ d.changes d' [.cvn, .time] [Reg.CVN_FLAGS])
      ∧ completes (.refuse t p) (fun d => d.ring = true ∧ d.handOf p false = none) (fun d d' =>
        d'.rdB Reg.CVN_FLAGS 11 = true ∧ d.changes d' [.time] [Reg.CVN_FLAGS])
      ∧ completes (.refuse t p) (fun d => d.ring = false ∧ d.handOf p false = none) (fun d d' => d.changesSilently d' [.time] []))
  ∧ (∀ (p : Slot) (high : Bool) (h : HandOver),
      let awaits (d : Dev) : Prop := d.handOf p false = none ∧ d.handOf p true = some h ∧ h.clocks = false ∧ d.solo = false
      let receives (d : Dev) : Prop := awaits d ∧ ((d.upTo h.valley).dropHand p).canTake p = true
      completes (.transferValley p high) (fun d => d.handOf p false = some h ∧ d.duo = true ∧ d.drives p = true) (fun d d' =>
        d'.rdF (Reg.PRT_STATE p) 17 16 = 1 ∧ d'.rdB Reg.CVN_FLAGS 7 = true ∧ d'.handOf p false = none
        ∧ d'.now = max d.now (if h.gapped then h.valley else h.valley + d.rdF Reg.TBS_TICK_CFG 15 0)
        ∧ d.onlyParts d' ([.cvn, .time, .fio, .stepd] ++ noticeParts))
      ∧ completes (.transferValley p high) (fun d => receives d ∧ h.gapped = false) (fun d d' =>
        d'.drives p = true ∧ d'.rdB Reg.CVN_FLAGS 7 = true ∧ d'.handOf p true = none ∧ d'.now = max d.now h.valley
        ∧ ((d.servosOf p).Nodup → ∀ x ∈ (d.servosOf p).zip h.duties, d'.servo[x.1].act = x.2)
        ∧ d.onlyParts d' (.servo :: handed))
      ∧ completes (.transferValley p false) (fun d => receives d ∧ h.gapped = true) (fun d d' =>
        d'.drives p = true ∧ d'.rdB Reg.CVN_FLAGS 7 = true ∧ d'.handOf p true = none
        ∧ d'.now = max d.now (h.valley + d.rdF Reg.TBS_TICK_CFG 15 0) ∧ d.onlyParts d' handed)
      ∧ completes (.transferValley p true) (fun d => receives d ∧ h.gapped = true) (fun d d' =>
        refused p d d' ∧ d'.rdB Reg.CVN_FLAGS 7 = true)
      ∧ completes (.transferValley p high) (fun d => awaits d ∧ ((d.upTo h.valley).dropHand p).canTake p = false) (fun d d' =>
        d'.handOf p true = none ∧ (awake d → d'.sent 3 6 p = true) ∧ d'.rdB Reg.CVN_FLAGS 7 = true ∧ d'.owner p = d.owner p
        ∧ d'.now = max d.now h.valley ∧ d.changes d' [.cvn, .time] [Reg.CVN_FLAGS])
      ∧ completes (.transferValley p high)
        (fun d => d.handOf p false = none ∧ (d.handOf p true = none ∨ d.handOf p true = some h ∧ h.clocks = true)) (fun d d' => d' = d))

/-- Leases in Ring (R294, R295, R296, R297): the holder renews 4 ms after its last RENEW, its lease runs 20 ms from the
send time of the RENEW that was answered, and with the lease it gives up the portal; the other candidate claims 22 ms
after the last RENEW it received, or once the epoch was freed, and one PWM period after a RELEASE; claims carry the known
epoch plus 1. -/
def Obligations.Leases : Prop :=
  ∀ p : Slot,
    let state (d : Dev) : Nat := d.rdF (Reg.CVN_LEASE_STATE p) 2 0
    let epoch (d : Dev) : Word := d.rd (Reg.CVN_LEASE_EPOCH p)
    let awake (d : Dev) : Prop := d.pwr.st ≠ .stable ∧ d.pwr.st ≠ .dormant
    completes (.leaseRenewal p) (fun d => d.ring = true ∧ state d = 1 ∧ awake d) (fun d d' =>
      d'.cvn.leases[p].sent = some d'.now ∧ d'.sent 3 2 p = true
      ∧ (∀ t, d.cvn.leases[p].sent = some t → t + 800000 ≤ d'.now)
      ∧ d'.cvn.leases[p].answered = d.cvn.leases[p].answered ∧ d.changesSilently d' [.cvn, .time] [])
    ∧ (∀ (t : Nat) (e : Word), completes (.renew t p e)
        (fun d => d.ring = true ∧ d.drives p = false ∧ epoch d ≤ e ∧ awake d) (fun d d' =>
          epoch d' = e ∧ state d' = 2 ∧ d'.cvn.leases[p].rcvd = some (max d.now t) ∧ d'.cvn.leases[p].free = false
          ∧ d'.sent 3 3 p = true
          ∧ d.changesSilently d' [.cvn, .time] [Reg.CVN_LEASE_EPOCH p, Reg.CVN_LEASE_STATE p])
      ∧ completes (.ack t p e) (fun d => d.ring = true ∧ state d = 1 ∧ epoch d = e) (fun d d' =>
          d'.cvn.leases[p].answered = d.cvn.leases[p].sent ∧ d.changesSilently d' [.cvn, .time] [])
      ∧ completes (.ack t p e) (fun d => epoch d ≠ e) (fun d d' => d.changesSilently d' [.time] [])
      ∧ completes (.claim t p e) (fun d => d.ring = true ∧ e = epoch d + 1) (fun d d' =>
          epoch d' = e ∧ state d' = 2 ∧ d'.owner p = (if d.drives p = true ∨ d.owner p = 3 then 1 else d.owner p)
          ∧ d'.cvn.leases[p].rcvd = some (max d.now t) ∧ d'.cvn.leases[p].free = false
          ∧ d.onlyParts d' [.cvn, .time, .fio, .stepd])
      ∧ completes (.claim t p e) (fun d => d.ring = true ∧ e ≠ epoch d + 1 ∧ awake d) (fun d d' =>
          d'.sent 3 6 p = true ∧ d'.rdB Reg.CVN_FLAGS 11 = true ∧ epoch d' = epoch d
          ∧ d.changes d' [.cvn, .time] [Reg.CVN_FLAGS])
      ∧ completes (.release t p e) (fun d => d.ring = true ∧ d.drives p = false ∧ epoch d = e ∧ d.enabled p = true
          ∧ (d.upTo t).canTake p = false) (fun d d' =>
          state d' = 5 ∧ d'.cvn.leases[p].free = true ∧ d.changesSilently d' [.cvn, .time] [Reg.CVN_LEASE_STATE p])
      ∧ completes (.release t p e) (fun d => d.ring = true ∧ d.drives p = false ∧ epoch d = e
          ∧ ((d.upTo t).upTo ((d.upTo t).valleyAt ((d.upTo t).now + 1))).canTake p = true) (fun d d' =>
          state d' = 1 ∧ epoch d' = e + 1 ∧ d'.drives p = true ∧ d'.rdB Reg.CVN_FLAGS 8 = true
          ∧ d.onlyParts d' ([.cvn, .time, .portal, .stepd, .fio] ++ noticeParts)))
    ∧ (∀ t : Nat, completes (.leaseExpiry p)
        (fun d => d.ring = true ∧ state d = 1 ∧ d.cvn.leases[p].answered = some t) fun d d' =>
        state d' = 3 ∧ d'.rdF (Reg.PRT_STATE p) 17 16 = 3 ∧ d'.rdB Reg.CVN_FLAGS 10 = true
        ∧ (∀ a ∈ d.axesOf p, d'.mot[a].silenced = true)
        ∧ d'.now = max d.now (t + 4000000)
        ∧ d.onlyParts d' ([.cvn, .time, .mot, .servo, .stepd, .fio] ++ noticeParts))
    ∧ completes (.claimTime p) (fun d => d.ring = true ∧ d.enabled p = true ∧ d.drives p = false ∧ awake d
          ∧ d.cvn.leases[p].free = true ∧ (d.upTo (d.posTickAt d.now)).canTake p = true) (fun d d' =>
        epoch d' = epoch d + 1 ∧ state d' = 1 ∧ d'.drives p = true ∧ d'.rdB Reg.CVN_FLAGS 9 = true
        ∧ d'.sent 3 1 p = true ∧ d.onlyParts d' ([.cvn, .time, .portal, .stepd, .fio] ++ noticeParts))
    ∧ (∀ t, completes (.claimTime p) (fun d => d.ring = true ∧ d.enabled p = true ∧ d.drives p = false
          ∧ d.cvn.leases[p].free = false ∧ d.cvn.leases[p].rcvd = some t
          ∧ (d.upTo (d.posTickAt (t + 4400000))).canTake p = true) fun d d' =>
        epoch d' = epoch d + 1 ∧ state d' = 1 ∧ d'.drives p = true ∧ t + 4400000 ≤ d'.now)
    ∧ completes (.claimTime p) (fun d => d.ring = false ∨ d.drives p = true
          ∨ d.cvn.leases[p].free = false ∧ d.cvn.leases[p].rcvd = none) (fun d d' => d' = d)
    ∧ completes (.homeReturn p) (fun d => d.ring = true ∧ p.val < 6 ∧ d.rdB Reg.CVN_CFG 3 = true ∧ d.drives p = false
          ∧ (∃ t, d.cvn.eligSince = some t ∧ t + d.rdF Reg.CVN_CFG 31 16 * 200000000 ≤ d.now) ∧ d.canTake p = true
          ∧ d.cvn.mirages[p].atRest = true ∧ awake d) (fun d d' =>
        d'.sent 3 7 p = true ∧ d.changesSilently d' [.cvn] [])
    ∧ (∀ t : Nat, completes (.returnReq t p) (fun d => d.ring = true ∧ d.drives p = true) fun d d' =>
        p.val ∈ d'.cvn.retReq ∧ d.changesSilently d' [.cvn, .time] [])

/-- Admission of a record request (R303, R304, R307 to R310): an event of severity 3 or 4 joins the priority FIFO of 32,
one below that the intake FIFO of 128, and what finds its FIFO full is tallied; a cycle record takes one of its portal's
two slots, is refused when both are full, and is a duplicate where its number does not exceed the last one of its
car-level portal. A request from the portal of a holder is counted and dropped, and nothing is taken while the control die
is in reset. -/
def Obligations.RecordAdmission : Prop :=
  (∀ (t : Nat) (src : Fin 64) (sev : Fin 5) (flag inst : Byte) (data : List Word),
    let ask : Instr := .recordRequest t (.event src sev flag inst data)
    let made (d : Dev) (q : Req) : Prop := q.kind = .event ∧ q.sev = sev.val ∧ q.src = src.val ∧ q.pwr = d.rcd.pwrCycles
      ∧ q.opTime = (d.upTo t).opTime ∧ q.tick = (d.rd Reg.TBS_SAMPLE_TICK).toNat
      ∧ q.body.take 4 = [flag, inst, BitVec.ofNat 8 (4 * min 8 data.length), 0] ∧ (24 + q.body.length) % 8 = 0
    let ours (d : Dev) : Prop := d.boot.st ≠ .reset ∧ ∀ p : Slot, p.val = src.val → d.owner p ≠ 1
    completes ask (fun d => d.boot.st = .reset) (fun d d' => d.changesSilently d' [.time] [])
    ∧ completes ask (fun d => d.boot.st ≠ .reset ∧ ∃ p : Slot, p.val = src.val ∧ d.owner p = 1) (fun d d' =>
        d'.rdF Reg.REC_DISCARDS 15 0 = min 65535 (d.rdF Reg.REC_DISCARDS 15 0 + 1)
        ∧ d'.rdF Reg.REC_DISCARDS 31 16 = d.rdF Reg.REC_DISCARDS 31 16 ∧ d.changesSilently d' [.time] [Reg.REC_DISCARDS])
    ∧ (3 ≤ sev.val →
        completes ask (fun d => ours d ∧ d.rcd.prio.length < 32) (fun d d' =>
          (∃ q, made d q ∧ d'.rcd = { d.rcd with prio := d.rcd.prio ++ [q] }) ∧ d.changesSilently d' [.rcd, .time] [])
        ∧ completes ask (fun d => ours d ∧ 32 ≤ d.rcd.prio.length) (fun d d' =>
          d'.tallied src .priorityFull = true ∧ d'.rcd.prio = d.rcd.prio ∧ d'.haboobNow = true
          ∧ (d.haboobNow = false → d'.rdB Reg.REC_STATUS 5 = true ∧ d'.rdB Reg.REC_FLAGS 1 = true)
          ∧ d.changes d' [.time] []))
    ∧ (sev.val < 3 →
        completes ask (fun d => ours d ∧ d.rcd.intake.length < 128) (fun d d' =>
          (∃ q, made d q ∧ d'.rcd = { d.rcd with intake := d.rcd.intake ++ [q] }) ∧ d.changesSilently d' [.rcd, .time] [])
        ∧ completes ask (fun d => ours d ∧ 128 ≤ d.rcd.intake.length) (fun d d' =>
          d'.tallied src .intakeFull = true ∧ d'.rcd.intake = d.rcd.intake ∧ d'.rcd.prio = d.rcd.prio
          ∧ (d.tallied src .intakeFull = false → d'.rdB Reg.REC_FLAGS 0 = true) ∧ d.changes d' [.time] [])))
  ∧ (∀ (t : Nat) (p : Slot) (sev : Fin 5) (body : List Byte),
    let ask : Instr := .recordRequest t (.cycle p sev body)
    let portal := leNat (body.take 1)
    let no := leNat ((body.drop 4).take 4)
    let held (d : Dev) : List Req := d.rcd.cyc.getD p []
    let new (d : Dev) : Prop := d.boot.st ≠ .reset ∧ d.owner p ≠ 1 ∧ d.rcd.cyc.length = 12
      ∧ (d.rd (Reg.PRT_CYCLES p) = 0xFFFFFFFF#32 ∨ d.rcd.lastCyc.getD portal 0 < no)
    completes ask (fun d => new d ∧ (held d).length < 2) (fun d d' =>
      (∃ q, q.kind = .cycle ∧ q.sev = sev.val ∧ q.cycleNo = no ∧ q.portal = portal ∧ q.body = body.take 48
        ∧ held d' = held d ++ [q])
      ∧ d'.rcd.lastCyc = d.rcd.lastCyc.set portal no ∧ d.changesSilently d' [.rcd, .time] [])
    ∧ completes ask (fun d => new d ∧ 2 ≤ (held d).length) (fun d d' =>
      d'.rcd.cyc = d.rcd.cyc
      ∧ d'.rd Reg.REC_CYC_REFUSED = wn (min (2 ^ 32 - 1) ((d.rd Reg.REC_CYC_REFUSED).toNat + 1))
      ∧ d.changesSilently d' [.rcd, .time] [Reg.REC_CYC_REFUSED])
    ∧ completes ask (fun d => d.boot.st ≠ .reset ∧ d.owner p ≠ 1 ∧ d.rd (Reg.PRT_CYCLES p) ≠ 0xFFFFFFFF#32 ∧ no ≤ d.rcd.lastCyc.getD portal 0) (fun d d' =>
      d'.rcd.cyc = d.rcd.cyc ∧ d'.rdF Reg.REC_DISCARDS 31 16 = min 65535 (d.rdF Reg.REC_DISCARDS 31 16 + 1)
      ∧ d'.rdF Reg.REC_DISCARDS 15 0 = d.rdF Reg.REC_DISCARDS 15 0 ∧ d'.rdB Reg.REC_FLAGS 13 = true
      ∧ d.changes d' [.time] []))
  ∧ (∀ (p : Slot) (v : Word),
    let kind := fld v 7 0
    let len := 8 * fld v 23 16
    let bad : Prop := (kind ≠ 1 ∧ kind ≠ 2) ∨ len < 32 ∨ 256 < len ∨ (kind = 1 ∧ len ≠ 72)
    bit v 31 = true →
      completes (.mailboxCommit p v) (fun d => d.engRun p = true ∧ bad) (fun d d' =>
        d'.rdB Reg.REC_FLAGS 10 = true ∧ d.changes d' [] [])
      ∧ completes (.mailboxCommit p v) (fun d => d.engRun p = true ∧ ¬bad ∧ d.drives p = false) (fun d d' =>
        d'.rdF Reg.REC_DISCARDS 15 0 = min 65535 (d.rdF Reg.REC_DISCARDS 15 0 + 1)
        ∧ d'.rdF Reg.REC_DISCARDS 31 16 = d.rdF Reg.REC_DISCARDS 31 16 ∧ d.changesSilently d' [] [Reg.REC_DISCARDS])
      ∧ completes (.mailboxCommit p v) (fun d => d.engRun p = true ∧ ¬bad ∧ kind = 2 ∧ d.drives p = true
          ∧ d.rcd.mbxCnt.getD p 0 < 4 ∧ fld v 10 8 < 3 ∧ d.rcd.intake.length < 128 ∧ d.boot.st ≠ .reset) (fun d d' =>
        (∃ q, d'.rcd.intake = d.rcd.intake ++ [q] ∧ q.kind = .event ∧ q.sev = fld v 10 8 ∧ q.src = p.val ∧ q.body.length = len - 24)
        ∧ d'.rcd.mbxCnt = d.rcd.mbxCnt.set p (d.rcd.mbxCnt.getD p 0 + 1) ∧ d.changesSilently d' [.rcd] [])
      ∧ completes (.mailboxCommit p v) (fun d => d.engRun p = true ∧ ¬bad ∧ d.drives p = true ∧ 4 ≤ d.rcd.mbxCnt.getD p 0)
        (fun d d' => d'.tallied p .mbxExcess = true ∧ d'.rcd.intake = d.rcd.intake ∧ d'.rcd.prio = d.rcd.prio
          ∧ d.changes d' [] []))

/-- The drain (R302, R305, R310, R312): a record write takes the priority FIFO first, then the oldest cycle slot, then the
intake FIFO; the record takes the next SEQ and stands in the own area; at the unflushed limit, and before the RECORDER
step, nothing drains. A snapshot trigger whose values have been read at a strobe instant has its record requested with the
firing record's severity and source. -/
def Obligations.RecordDrain : Prop :=
  let open' (d : Dev) : Prop := (d.boot.st = .engines ∨ d.boot.st = .done ∨ d.boot.st = .running) ∧ d.rcd.seqHold = false ∧ d.unflBytes + 256 < 24 * 1024 ∧ d.jnl.pendingBytes < 8 * 1024
    ∧ d.rcd.tallies = [] ∧ d.rdB Reg.REC_STATUS 2 = true
  let entered (q : Req) (d d' : Dev) : Prop :=
    (∃ r : Rec, r.req = q ∧ r.seq = d.nextSeq ∧ d'.rcd.unfl = d.rcd.unfl ++ [(d.rcd.ownOfs, r)])
    ∧ d'.nextSeq = (d.nextSeq + 1) % 2 ^ 48
    ∧ d.changes d' [.cvn] [Reg.REC_NEXT_SEQ_LO, Reg.REC_NEXT_SEQ_HI]
  (∀ (q : Req) (rest : List Req), q.body.length ≤ 232 →
    completes .recordWrite (fun d => open' d ∧ d.rcd.prio = q :: rest) (fun d d' =>
      d'.rcd.prio = rest ∧ d'.rcd.intake = d.rcd.intake ∧ d'.rcd.cyc = d.rcd.cyc ∧ entered q d d')
    ∧ completes .recordWrite (fun d => open' d ∧ d.rcd.prio = [] ∧ (∀ l ∈ d.rcd.cyc, l = []) ∧ d.rcd.intake = q :: rest)
      (fun d d' => d'.rcd.intake = rest ∧ d'.rcd.prio = [] ∧ entered q d d')
    ∧ (∀ k : Fin 12, completes .recordWrite (fun d => open' d ∧ d.rcd.prio = [] ∧ d.rcd.cyc.length = 12
          ∧ d.rcd.cyc.getD k [] = q :: rest ∧ (∀ j : Nat, j ≠ k.val → d.rcd.cyc.getD j [] = [])) (fun d d' =>
        d'.rcd.cyc.getD k [] = rest ∧ d'.rcd.intake = d.rcd.intake ∧ entered q d d')))
  ∧ completes .recordWrite (fun d => (d.rcd.seqHold = true ∨ d.boot.st = .nand ∨ d.boot.st = .recorder ∨ d.unflLimit ≤ d.unflBytes)
        ∧ d.rdB Reg.REC_STATUS 1 = true)
      (fun d d' => d' = d)
  ∧ completes .snapshotRecordRead (fun d => d.rcd.snapDue = []) (fun d d' => d' = d)
  ∧ (∀ s : SnapFire, s.body = none → completes .snapshotRecordRead (fun d => d.rcd.snapDue = [s]) fun d d' => d' = d)
  ∧ (∀ (s : SnapFire) (body : List Byte), s.body = some body → completes .snapshotRecordRead
      (fun d => d.rcd.snapDue = [s] ∧ (∀ p : Slot, p.val = s.src → d.owner p ≠ 1)
        ∧ d.boot.st ≠ .reset ∧ s.sev < 3 ∧ d.rcd.intake.length < 128) (fun d d' =>
        (∃ q, d'.rcd = { d.rcd with snapDue := [], intake := d.rcd.intake ++ [q] } ∧ q.kind = .snapshot ∧ q.sev = s.sev
          ∧ q.src = s.src ∧ q.body.take body.length = body)
        ∧ d.changesSilently d' [.rcd] []))
  ∧ (∀ (d : Dev) (h : HostPort) (s : SnapFire),
      (d.snapBody h s).getD 0 0 = BitVec.ofNat 8 s.trig ∧ (d.snapBody h s).getD 2 0 = s.flag)

/-- Flushes (R313, R316): 2 s after the last flush, 1 ms after a record of severity 3 or 4, or on FLUSH, every unflushed
record and pending entry is put to the NAND; a trigger during a flush asks for another; the flush is complete once all
of it is programmed.

Power fail (R318, R319, R334): an accepted PFI starts the flush and shows in STATUS and FLAGS; once the captured images
and their seal are in NAND the time the flush took is shown, to the integer beside the exact value (log 42); when PFI falls, IMAGE_CONSUMED joins the journal. -/
def Obligations.FlushesAndPowerFail : Prop :=
  (
  let plain (d : Dev) : Prop := d.lcState < 3 ∧ d.rcd.tallies = [] ∧ d.rcd.adoptDue = []
  let begins (d d' : Dev) : Prop :=
    d'.rdB Reg.REC_STATUS 1 = true ∧ d'.rcd.lastFlush = d'.now ∧ d'.rcd.severeAt = none
    ∧ (∀ r, r ∈ d'.rcd.job ↔ ∃ o, (o, r) ∈ d.rcd.unfl) ∧ d'.rcd.job.length = d.rcd.unfl.length
    ∧ d'.rcd.job.Pairwise (fun x y => x.seq ≤ y.seq)
    ∧ d'.jnl.jobs = d.jnl.jobs ++ d.jnl.pending ∧ d'.jnl.pending = []
    ∧ d.changesSilently d' [.rcd, .jnl, .time] [Reg.REC_STATUS]
  let again (d d' : Dev) : Prop := d'.rcd.flushAgain = true ∧ d'.rcd.job = d.rcd.job ∧ d.changesSilently d' [.rcd, .time] []
  completes .flushTimer (fun d => plain d ∧ d.rdB Reg.REC_STATUS 1 = false ∧ d.flushNeeded = true) (fun d d' =>
    begins d d' ∧ d'.now = max d.now (d.rcd.lastFlush + 400000000))
  ∧ completes .flushTimer (fun d => d.flushNeeded = false) (fun d d' => d.changesSilently d' [.time] [])
  ∧ (∀ t0 : Nat, completes .severeFlushTimer (fun d => plain d ∧ d.rdB Reg.REC_STATUS 1 = false ∧ d.rcd.severeAt = some t0)
      fun d d' => begins d d' ∧ d'.now = max d.now (t0 + 200000))
  ∧ completes .flush (fun d => d.hostUp = true ∧ plain d ∧ d.rdB Reg.REC_STATUS 1 = false) (fun d d' => begins d d' ∧ d'.now = d.now)
  ∧ completes .flush (fun d => d.hostUp = true ∧ d.rdB Reg.REC_STATUS 1 = true) again
  ∧ completes .flushComplete (fun d => d.rdB Reg.REC_STATUS 1 = true ∧ d.rcd.job = [] ∧ d.rcd.jobAdopt = [] ∧ d.jnl.jobs = []
      ∧ d.rcd.flushAgain = false ∧ d.unflBytes < 24 * 1024 ∧ d.jnl.pendingBytes < 8 * 1024 ∧ d.sec.order = none) (fun d d' =>
      d'.rdB Reg.REC_STATUS 1 = false
      ∧ (d.solo = false → d.pwr.st ≠ .stable → d.pwr.st ≠ .dormant → ∃ f ∈ d'.cvn.outbox, f.kind = 4 ∧ f.sub = 1 ∧ f.slot = 0xFF)
      ∧ d.changesSilently d' [.cvn] [Reg.REC_STATUS])
  ∧ completes .flushComplete (fun d => d.rcd.job ≠ [] ∧ d.sec.order = none) (fun d d' => d' = d))
  ∧ (
  ∀ t : Nat,
    completes (.pfiAccept t) (fun d => d.rcd.pfi = true ∨ d.boot.st = .reset) (fun d d' => d.changesSilently d' [.time] [])
    ∧ completes (.pfiAccept t) (fun d => d.rcd.pfi = false ∧ d.boot.st = .running ∧ d.sec.loading = false ∧ d.sec.verifying = false
        ∧ d.jnl.compacting = false ∧ d.pwr.st = .run ∧ d.lcState < 3) (fun d d' =>
      d'.rcd.pfi = true ∧ d'.rcd.pf = .accepted ∧ d'.rcd.pfAt = max d.now t ∧ d'.rdB Reg.REC_STATUS 0 = true
      ∧ d'.rdB Reg.REC_STATUS 1 = true ∧ d'.rdB Reg.PWR_FLAGS 4 = true
      ∧ d.onlyParts d' ([.time, .jnl, .cvn] ++ noticeParts))
    ∧ completes (.pfDone t) (fun d => d.rcd.pf = .captured ∧ d.rdB Reg.REC_STATUS 1 = false ∧ d.rcd.sealWait = false ∧ d.rcd.sealDue = []) (fun d d' =>
      d'.rcd.pf = .done
      ∧ (∃ n : Nat, d'.rdF Reg.REC_PF_STATUS 15 0 = min 65535 n ∧ |(n : Rat) - (max d.now t - d.rcd.pfAt : Nat) / 2000| < 1)
      ∧ d'.rdB Reg.REC_FLAGS 7 = true ∧ d.changes d' [.time] [Reg.REC_PF_STATUS])
    ∧ completes (.pfDone t) (fun d => d.rcd.pf ≠ .captured) (fun d d' => d.changesSilently d' [.time] [])
    ∧ completes (.pfiFall t) (fun d => d.rcd.pfi = true ∧ d.boot.pfStop = false) (fun d d' =>
      d'.rcd.pfi = false ∧ d'.rcd.pf = .idle ∧ d'.rdB Reg.REC_STATUS 0 = false ∧ d'.rdB Reg.PWR_FLAGS 5 = true
      ∧ (d.rdB Reg.REC_STATUS 1 = true → ∃ e, d'.jnl.pending = d.jnl.pending ++ [e] ∧ e.body = .imageConsumed) ∧ (d.rdB Reg.REC_STATUS 1 = true → d.changes d' [.jnl, .time] [Reg.PWR_FLAGS]))
    ∧ completes (.pfiFall t) (fun d => d.rcd.pfi = true ∧ d.boot.pfStop = true) (fun d d' =>
      d'.boot.pfStop = false ∧ d'.rcd.pfi = false ∧ d.changes d' [.boot, .time] [Reg.PWR_FLAGS]))

/-- NAND operations and seals (R321, R323, R330): once the records are stored, a good program operation takes the next journal
entries into the active half, those of up to two pages (log 154), none across a page's end; a failed one retires its block to a spare, and the third in a row sets NAND_ERR; an
erased block counts its erase, which a power fail suspends; a signed seal enters the store. -/
def Obligations.NandOperations : Prop :=
  let quiet (d : Dev) : Prop := d.rcd.job = [] ∧ d.rcd.jobAdopt = []
  let contents (e : JEntry) : Nat × JPayload × Bool := (e.jseq, e.body, e.good)
  (∀ t : Nat, completes (.nandProgramComplete t true)
      (fun d => quiet d ∧ d.rcd.sealWait = false ∧ d.jnl.jobs ≠ [] ∧ ∀ e ∈ d.jnl.jobs, e.body.size ≤ 2048) fun d d' =>
      (∃ es : List JEntry, es ≠ [] ∧ d.jnl.jobs.map contents = es.map contents ++ d'.jnl.jobs.map contents
        ∧ (es.map JEntry.page).dedup.length ≤ 2 ∧ (∀ e ∈ es, e.ofs + e.body.size ≤ 2048 ∧ e.app < 64)
        ∧ (∀ e ∈ es.getLast?, d'.rd Reg.JNL_JSEQ = wn e.jseq)
        ∧ (d.jnl.active1 = false → d'.jnl.half0 = d.jnl.half0 ++ es ∧ d'.jnl.half1 = d.jnl.half1)
        ∧ (d.jnl.active1 = true → d'.jnl.half1 = d.jnl.half1 ++ es ∧ d'.jnl.half0 = d.jnl.half0))
      ∧ d'.rcd.fails = 0
      ∧ d.changesSilently d' [.jnl, .rcd, .time] [Reg.JNL_JSEQ])
  ∧ (∀ t : Nat,
      completes (.nandProgramComplete t true) (fun d => quiet d ∧ d.jnl.jobs = [] ∧ d.sec.programming = true) (fun d d' =>
        d'.sec.programming = false ∧ d.changesSilently d' [.sec, .time] [])
      ∧ completes (.nandProgramComplete t false)
        (fun d => d.sec.programming = false ∧ d.rcd.spareUsed < 64 ∧ d.rcd.fails < 2) (fun d d' =>
        d'.rcd.fails = d.rcd.fails + 1 ∧ d'.rcd.spareUsed = d.rcd.spareUsed + 1 ∧ d'.rdB Reg.REC_FLAGS 3 = true
        ∧ d'.rdF Reg.JNL_NAND_STATUS 27 16 = 63 - d.rcd.spareUsed ∧ d'.rdF Reg.JNL_NAND_STATUS 11 0 = d.rcd.spareUsed + 1
        ∧ d.changes d' [.time] [Reg.JNL_NAND_STATUS])
      ∧ completes (.nandProgramComplete t false)
        (fun d => d.sec.programming = false ∧ d.rcd.fails = 2 ∧ d.rdB Reg.REC_STATUS 2 = true) (fun d d' =>
        d'.rdB Reg.REC_STATUS 2 = false ∧ d'.rdB Reg.REC_STATUS 1 = false ∧ d'.rdB Reg.REC_FLAGS 2 = true
        ∧ d'.rcd.job = [] ∧ d'.jnl.pending = d.jnl.jobs ++ d.jnl.pending ∧ d'.jnl.jobs = []
        ∧ d.changes d' [.jnl, .time] [Reg.JNL_NAND_STATUS])
      ∧ completes (.sealSignatureReady t) (fun d => d.rcd.sealDue = []) (fun d d' => d.changesSilently d' [.time] [])
      ∧ (∀ (s : SealDue) (rest : List SealDue) (b page : Nat), completes (.sealSignatureReady t)
          (fun d => d.rcd.sealDue = s :: rest ∧ s.flags % 2 = 0
            ∧ (s.block = some b ∧ page = 63
              ∨ s.block = none ∧ ∃ used, (if s.saf then d.rcd.safOpen else d.rcd.genOpen) = some (b, page, used)
                ∧ used + 176 ≤ pageCap page ∧ d.pageTakes b page d.ownOrigin false false = true)) fun d d' =>
          d'.rcd.sealDue = rest
          ∧ (∃ x : Stored, d'.rcd.store = d.rcd.store ++ [x] ∧ x.item.req.kind = .seal ∧ x.item.seq = s.seq ∧ x.block = b
              ∧ x.page = page ∧ x.adopted = false ∧ x.item.req.body.take 32 = leBytes 32 s.chain)
          ∧ d.changesSilently d' [.rcd, .time] []))
  ∧ (∀ b : Nat,
      completes (.nandEraseComplete b) (fun d => (b, BlockSt.erasing) ∈ d.rcd.blocks ∧ d.rdB Reg.REC_STATUS 0 = false) (fun d d' =>
        (∀ st, (b, st) ∉ d'.rcd.blocks) ∧ (∀ x ∈ d.rcd.blocks, x.1 ≠ b → x ∈ d'.rcd.blocks)
        ∧ d.changesSilently d' [.rcd] [Reg.JNL_ERASE_MAX])
      ∧ completes (.nandEraseComplete b) (fun d => (b, BlockSt.erasing) ∉ d.rcd.blocks ∨ d.rdB Reg.REC_STATUS 0 = true) (fun d d' => d' = d))
  ∧ completes .compactionStart (fun d => d.jnl.fill < 75 ∨ d.jnl.compacting = true) (fun d d' => d' = d)
  ∧ completes .compactionStart (fun d => 75 ≤ d.jnl.fill ∧ d.jnl.compacting = false ∧ d.jnl.abandoned = false
      ∧ d.rcd.pf = .idle) (fun d d' =>
      d'.jnl.compacting = true ∧ d'.jnl.snapLast = d.jnl.next - 1 ∧ d'.rdB Reg.JNL_STATUS 1 = true
      ∧ (if d.jnl.active1 then d'.jnl.half0 = [] ∧ d'.jnl.half1 = d.jnl.half1 else d'.jnl.half1 = [] ∧ d'.jnl.half0 = d.jnl.half0)
      ∧ (∀ b : Nat, (if d.jnl.active1 then 128 else 192) ≤ b → b < (if d.jnl.active1 then 192 else 256) → (b, BlockSt.erasing) ∈ d'.rcd.blocks)
      ∧ d.changesSilently d' [.jnl, .rcd] [Reg.JNL_STATUS])
  ∧ completes .compactionEnd (fun d => d.jnl.compacting = true) (fun d d' =>
      d'.jnl.compacting = false ∧ d'.jnl.active1 = !d.jnl.active1
      ∧ d'.jnl.active.map contents = (d.jnl.snap ++ d.jnl.active.filter (fun e => decide (d.jnl.snapLast < e.jseq))).map contents
      ∧ (∀ b : Nat, (if d.jnl.active1 then 128 else 192) ≤ b → b < (if d.jnl.active1 then 192 else 256) → (b, BlockSt.erasing) ∉ d'.rcd.blocks)
      ∧ d'.rd Reg.JNL_SNAP_JSEQ = wn d.jnl.snapLast ∧ d'.rdB Reg.JNL_FLAGS 0 = true
      ∧ d.changes d' [.jnl] [Reg.JNL_STATUS, Reg.JNL_SNAP_JSEQ, Reg.JNL_JSEQ, Reg.JNL_FLAGS, Reg.JNL_ERASE_MAX])
  ∧ completes .compactionEnd (fun d => d.jnl.compacting = false) (fun d d' => d' = d)

/-- The record window (R327): CURSOR_LO and the seeks set the cursor and load; the load shows the record of that SEQ, or the
next higher one with SKIPPED, or reads EMPTY.

The mirror and the return of records (R311, R313, R314, R315): a mirrored record replaces what stood at its offset; a
FLUSH_MARK covers the sender's records before it; a returned record is kept unless its SEQ is held; RETURN_END is
flagged, and SEQ resumes above every record held. A Solo controller takes none of these. -/
def Obligations.RecordWindowMirrorAndReturn : Prop :=
  (
  let loads (d' : Dev) : Prop := d'.rcd.loading = true ∧ d'.rcd.curKey = d'.seqAt Reg.REC_CURSOR_LO
    ∧ d'.rdB Reg.REC_WIN_STATUS 0 = false
  let reached' (d : Dev) : Prop := d.takesFrames = true ∧ (d.up = true ∨ d.inquiry = true)
  (∀ v : Word, completes (.cursorLo v) reached' fun d d' =>
      d'.rd Reg.REC_CURSOR_LO = v ∧ loads d' ∧ d.changesSilently d' [.rcd] [Reg.REC_CURSOR_LO, Reg.REC_WIN_STATUS])
  ∧ (∀ newest : Bool, completes (if newest then .seekNewest else .seekOldest)
      (fun d => reached' d ∧ d.winRecords ≠ [] ∧ (∀ r ∈ d.winRecords, r.seq < 2 ^ 48)) fun d d' =>
      (∃ r ∈ d.winRecords, d'.seqAt Reg.REC_CURSOR_LO = r.seq)
      ∧ (∀ r ∈ d.winRecords, if newest then r.seq ≤ d'.seqAt Reg.REC_CURSOR_LO else d'.seqAt Reg.REC_CURSOR_LO ≤ r.seq)
      ∧ loads d' ∧ d.changesSilently d' [.rcd] [Reg.REC_CURSOR_LO, Reg.REC_CURSOR_HI, Reg.REC_WIN_STATUS])
  ∧ completes .windowReady (fun d => d.rcd.loading = true) (fun d d' =>
      d'.rcd.loading = false ∧ d'.rdB Reg.REC_WIN_STATUS 0 = true
      ∧ ((∀ r ∈ d.winRecords, r.seq < d.rcd.curKey) → d'.rcd.win = .empty ∧ d'.rdB Reg.REC_WIN_STATUS 1 = true)
      ∧ (∀ r ∈ d.winRecords, d.rcd.curKey ≤ r.seq →
          ∃ x ∈ d.winRecords, d'.rcd.win = .record x ∧ d.rcd.curKey ≤ x.seq ∧ x.seq ≤ r.seq
            ∧ d'.rdB Reg.REC_WIN_STATUS 1 = false ∧ d'.rdB Reg.REC_WIN_STATUS 2 = decide (x.seq ≠ d.rcd.curKey))
      ∧ d.changesSilently d' [.rcd] [Reg.REC_WIN_STATUS])
  ∧ completes .windowReady (fun d => d.rcd.loading = false) (fun d d' => d' = d))
  ∧ (
  (∀ (t origin : Nat) (west : Bool) (ofs : Nat) (r : Rec), completes (.mirrorRecord t origin west ofs r) (fun d => d.solo = false) fun d d' =>
      d'.rcd.mirror.getLast? = some ⟨r, origin, west, ofs, false⟩
      ∧ (∀ m ∈ d'.rcd.mirror, m ∈ d.rcd.mirror ∨ m = ⟨r, origin, west, ofs, false⟩)
      ∧ (r.req.kind ≠ .cycle → d'.rcd.lastCyc = d.rcd.lastCyc) ∧ d'.rcd.unfl = d.rcd.unfl
      ∧ d.changesSilently d' [.rcd, .time] [])
  ∧ (∀ t origin west ofs r, completes (.mirrorRecord t origin west ofs r) (fun d => d.solo = true) fun d d' =>
      d.changesSilently d' [.time] [])
  ∧ (∀ origin ofs : Nat, completes (.flushMark origin ofs) (fun d => d.solo = true) fun d d' => d' = d)
  ∧ (∀ origin ofs : Nat, completes (.flushMark origin ofs) (fun d => d.solo = false ∧ ∀ m ∈ d.rcd.mirror, m.origin = origin → m.ofs ≠ ofs) fun d d' =>
      (∀ m ∈ d'.rcd.mirror, m.origin = origin → m.marked = true)
      ∧ d'.rcd.mirror.map (·.item) = d.rcd.mirror.map (·.item) ∧ d.changesSilently d' [.rcd] [])
  ∧ (∀ (t : Nat) (r : Rec),
      completes (.returnRecord t r) (fun d => d.solo = true ∨ d.holdsSeq r.seq = true) (fun d d' => d.changesSilently d' [.time] [])
      ∧ completes (.returnRecord t r) (fun d => d.solo = false ∧ d.holdsSeq r.seq = false) (fun d d' =>
        d'.rcd.unfl = d.rcd.unfl ++ [(d.rcd.ownOfs, r)] ∧ d'.nextSeq = d.nextSeq
        ∧ (d.rdB Reg.REC_STATUS 1 = true ∨ d'.unflBytes < 24 * 1024 ∧ d.jnl.pendingBytes < 8 * 1024 →
            d.changesSilently d' [.rcd, .time] [])))
  ∧ (∀ t sender : Nat, completes (.returnEnd t sender) (fun d => d.solo = false ∧ d.rcd.seqHold = false) fun d d' =>
      d'.rdB Reg.REC_FLAGS 12 = true ∧ sender ∈ d'.rcd.retEndFrom ∧ d.changes d' [.time] [])
  ∧ completes .seqHoldEnd (fun d => d.rcd.seqHold = true ∧ d.boot.st ∈ [BootSt.engines, .done, .running] ∧ d.nextSeq < 2 ^ 48 ∧ (∀ s ∈ d.rcd.store, s.item.seq < 2 ^ 48 - 1)
      ∧ (∀ x ∈ d.rcd.unfl, x.2.seq < 2 ^ 48 - 1)) (fun d d' =>
      d'.rcd.seqHold = false ∧ d'.rdB Reg.REC_STATUS 7 = false ∧ d.nextSeq ≤ d'.nextSeq
      ∧ (∀ s ∈ d.rcd.store, s.adopted = false → s.item.seq < d'.nextSeq) ∧ (∀ x ∈ d.rcd.unfl, x.2.seq < d'.nextSeq)
      ∧ d'.now = max d.now (d.cvn.startAt + 1000000000)
      ∧ d.changesSilently d' [.rcd, .time] [Reg.REC_NEXT_SEQ_LO, Reg.REC_NEXT_SEQ_HI, Reg.REC_STATUS])
  ∧ completes .seqHoldEnd (fun d => d.rcd.seqHold = false ∨ d.boot.st ∉ [BootSt.engines, .done, .running]) (fun d d' => d.changesSilently d' [.time] []))

/-- Bundles (R338 to R342): without the BUNDLE right each of these writes fails with 0Ah and does nothing else; LOAD_BEGIN
starts an empty slot that is neither in force nor pending; window writes fill it; LOAD_END starts the verification,
LOAD_ABORT ends the load with 0Dh; a bundle that verifies becomes PENDING, another is reported by its code. REVERT makes a
valid fallback pending, and SVN_COMMIT raises the counter once every engine of the bundle runs. -/
def Obligations.Bundles : Prop :=
  let early (d : Dev) : Prop := d.takesFrames = true
  let shown : List Nat := [Reg.SEC_STATUS, Reg.SEC_SVN_COUNT, Reg.SEC_SLOT_A, Reg.SEC_SLOT_B, Reg.SEC_KEYSLOTS, Reg.LCS_STATE,
    Reg.LCS_SGEN]
  let ok (d : Dev) : Prop := early d ∧ d.hasRight 3 = true
  (∀ (g : Bool) (ofs : Nat) (bytes : List Byte),
    ∀ i ∈ [Instr.loadBegin g, .loadWinWrite ofs bytes g, .loadEnd g, .loadAbort g, .revert g, .svnCommit g],
      completes i (fun d => early d ∧ (g = false ∨ d.hasRight 3 = false)) fun d d' =>
        d'.rd Reg.SEC_LOAD_RESULT = 0x8000000A#32 ∧ d.changes d' [] [Reg.SEC_LOAD_RESULT])
  ∧ (∀ b : Bool, completes (.loadBegin true) (fun d => ok d ∧ d.freeSlot = some b ∧ d.sec.verifying = false
        ∧ 1 ≤ (d.rd Reg.SEC_LOAD_LEN).toNat ∧ (d.rd Reg.SEC_LOAD_LEN).toNat ≤ 8388608) fun d d' =>
      d'.slotOf b = { len := (d.rd Reg.SEC_LOAD_LEN).toNat } ∧ d'.slotOf (!b) = d.slotOf (!b) ∧ d'.sec.loading = true
      ∧ d'.rdB Reg.SEC_STATUS 1 = true ∧ d.changesSilently d' [.sec] shown)
  ∧ completes (.loadBegin true) (fun d => ok d ∧ (d.freeSlot = none ∨ d.rd Reg.SEC_LOAD_LEN = 0
      ∨ 8388608 < (d.rd Reg.SEC_LOAD_LEN).toNat)) (fun d d' => d' = d)
  ∧ (∀ (ofs : Nat) (bytes : List Byte), completes (.loadWinWrite ofs bytes true) (fun d => ok d ∧ d.sec.loading = true) fun d d' =>
      let b := d.loadSlot
      let at' := (d.rd Reg.SEC_LOAD_OFS).toNat + ofs
      (∀ k, (d'.slotOf b).byte k = if at' ≤ k ∧ k < at' + bytes.length then bytes.getD (k - at') 0 else (d.slotOf b).byte k)
      ∧ d'.slotOf (!b) = d.slotOf (!b) ∧ d'.sec.programming = true ∧ d.changesSilently d' [.sec] [])
  ∧ completes (.loadEnd true) (fun d => ok d ∧ d.sec.loading = true) (fun d d' =>
      d'.sec.loading = false ∧ d'.sec.verifying = true ∧ d'.rdB Reg.SEC_STATUS 2 = true ∧ d.changesSilently d' [.sec] shown)
  ∧ completes (.loadAbort true) (fun d => ok d ∧ (d.sec.loading = true ∨ d.sec.verifying = true)) (fun d d' =>
      d'.sec.loading = false ∧ d'.sec.verifying = false ∧ (d'.slotOf d.loadSlot).valid = false
      ∧ d'.slotOf (!d.loadSlot) = d.slotOf (!d.loadSlot)
      ∧ d'.rd Reg.SEC_LOAD_RESULT = 0x8000000D#32 ∧ d.changes d' [.sec] (Reg.SEC_LOAD_RESULT :: shown))
  ∧ (∀ t c i e : Nat,
      completes (.bundleVerify t) (fun d => d.sec.verifying = false) (fun d d' => d.changesSilently d' [.time] [])
      ∧ completes (.bundleVerify t) (fun d => d.sec.verifying = true ∧ d.verify (d.slotOf d.loadSlot) = (0, i, e)) (fun d d' =>
        (d'.slotOf d.loadSlot).valid = true ∧ d'.sec.pending = (if d.loadSlot then 2 else 1) ∧ d'.sec.verifying = false
        ∧ d'.slotOf (!d.loadSlot) = d.slotOf (!d.loadSlot)
        ∧ d'.rd Reg.SEC_LOAD_RESULT = 0 ∧ d'.rdB Reg.SEC_FLAGS 0 = true
        ∧ d.changes d' [.sec, .time] (Reg.SEC_LOAD_RESULT :: Reg.SEC_FLAGS :: shown))
      ∧ (c ≠ 0 → completes (.bundleVerify t)
          (fun d => d.sec.verifying = true ∧ d.verify (d.slotOf d.loadSlot) = (c, i, e)) fun d d' =>
          (d'.slotOf d.loadSlot).valid = false ∧ d'.sec.pending = d.sec.pending ∧ d'.sec.verifying = false
          ∧ d'.slotOf (!d.loadSlot) = d.slotOf (!d.loadSlot)
          ∧ d'.rd Reg.SEC_LOAD_RESULT = wn (2 ^ 31 + e * 2 ^ 16 + i * 256 + c)
          ∧ d.changes d' [.sec, .time] (Reg.SEC_LOAD_RESULT :: shown)))
  ∧ completes (.revert true) (fun d => ok d ∧ d.fallbackOk = true) (fun d d' =>
      d'.sec.pending = (if d.sec.inForceB then 1 else 2) ∧ d.changesSilently d' [.sec] shown)
  ∧ completes (.revert true) (fun d => ok d ∧ d.fallbackOk = false) (fun d d' => d' = d)
  ∧ completes (.svnCommit true) (fun d => ok d ∧ d.sec.taken = true ∧ (∀ p : Slot, d.engRun p = true)) (fun d d' =>
      d'.sec.otp.svn = max d.sec.otp.svn (min 64 (d.slotOf d.sec.inForceB).svn) ∧ d'.rdB Reg.SEC_FLAGS 1 = true
      ∧ (∀ b, (d'.slotOf b).valid = ((d.slotOf b).valid && decide (d'.sec.otp.svn ≤ (d.slotOf b).svn)))
      ∧ d.changes d' [.sec] (Reg.SEC_FLAGS :: shown))
  ∧ completes (.svnCommit true) (fun d => ok d ∧ d.sec.taken = false) (fun d d' => d' = d)

/-- The message buffer's commands (R337, R344, R345): a key order needs its right and an accepted state, and a good one
fills its slot; CERT_READ gives the certificate; ATTEST, CHAL_REQ and SESS_START make the sequencer busy, or are
refused with 3 while it is; its report and challenge end the job. -/
def Obligations.MessageCommands : Prop :=
  let early (d : Dev) : Prop := d.takesFrames = true
  let buf : List Nat := (List.range 256).map Reg.SEC_MSG_BUF
  let result (r : Nat) (d d' : Dev) : Prop := d'.rd Reg.SEC_MSG_STATUS = wn (r * 256)
    ∧ d.changesSilently d' [] [Reg.SEC_MSG_STATUS]
  let busy (j : SecJob) (d d' : Dev) : Prop := d'.sec.job = some j ∧ d'.rdB Reg.SEC_MSG_STATUS 0 = true
    ∧ d.changesSilently d' [.sec] [Reg.SEC_MSG_STATUS]
  let dead (d : Dev) : Prop := d.sec.otp.killed = true ∨ d.lcState = 4
  (∀ g : Bool, completes (.keyOrder g) (fun d => early d ∧ (g = false ∨ d.hasRight 8 = false)) (fun d d' => d' = d))
  ∧ completes (.keyOrder true) (fun d => early d ∧ d.hasRight 8 = true ∧ ¬(1 ≤ d.lcState ∧ d.lcState ≤ 3)) (result 5)
  ∧ (∀ (o : KeyOrder) (h : Nat), completes (.keyOrder true)
      (fun d => early d ∧ d.hasRight 8 = true ∧ 1 ≤ d.lcState ∧ d.lcState ≤ 3
        ∧ Config.keyOrderOf (d.msgBytes 0 1024) = some o ∧ o.fill = some h ∧ o.slot ≤ 3 ∧ o.signer ≠ o.slot ∧ o.signer ≤ 3
        ∧ d.keyState o.signer = 1 ∧ d.keyState o.slot = 0
        ∧ Config.ecdsaValidFor (d.keyHash o.signer) (Config.sha256 o.signed) o.sig = true) fun d d' =>
      d'.sec.otp.owner = d.sec.otp.owner.set o.slot (h, 1) ∧ d'.rdB Reg.SEC_FLAGS 8 = true ∧ d'.rd Reg.SEC_MSG_STATUS = 0
      ∧ d.changes d' [.sec] [Reg.SEC_FLAGS, Reg.SEC_MSG_STATUS, Reg.SEC_STATUS, Reg.SEC_SVN_COUNT, Reg.SEC_SLOT_A,
          Reg.SEC_SLOT_B, Reg.SEC_KEYSLOTS, Reg.LCS_STATE, Reg.LCS_SGEN])
  ∧ completes .certRead (fun d => early d ∧ dead d) (result 5)
  ∧ completes .certRead (fun d => early d ∧ ¬dead d ∧ d.sec.otp.cert.length ≤ 1024) (fun d d' =>
      d'.msgBytes 0 d.sec.otp.cert.length = d.sec.otp.cert ∧ d'.rd Reg.SEC_MSG_STATUS = 0
      ∧ d.changesSilently d' [] (Reg.SEC_MSG_STATUS :: buf))
  ∧ completes .attest (fun d => early d ∧ d.sec.job = none ∧ dead d) (result 5)
  ∧ completes .attest (fun d => early d ∧ d.sec.job = none ∧ ¬dead d) (fun d d' =>
      busy .attest d d' ∧ d'.sec.attNonce = d.msgBytes 0 16)
  ∧ completes .chalReq (fun d => early d ∧ d.sec.job = none ∧ dead d) (result 5)
  ∧ completes .chalReq (fun d => early d ∧ d.sec.job = none ∧ ¬dead d) (busy .challenge)
  ∧ completes .sessStart (fun d => early d ∧ d.sec.session = none ∧ d.sec.job = none) (busy .token)
  ∧ (∀ i ∈ [Instr.attest, .chalReq, .sessStart], completes i (fun d => early d ∧ d.sec.job.isSome = true) fun d d' =>
      d'.rdF Reg.SEC_MSG_STATUS 15 8 = 3 ∧ d.changesSilently d' [] [Reg.SEC_MSG_STATUS])
  ∧ (∀ t : Nat,
      completes (.reportReady t) (fun d => d.sec.job = some .attest) (fun d d' =>
        d'.sec.job = none ∧ d'.rd Reg.SEC_MSG_STATUS = 0 ∧ d.changesSilently d' [.sec, .time] (Reg.SEC_MSG_STATUS :: buf))
      ∧ completes (.reportReady t) (fun d => d.sec.job ≠ some .attest) (fun d d' => d.changesSilently d' [.time] [])
      ∧ completes (.challengeReady t) (fun d => d.sec.job = some .challenge) (fun d d' =>
        d'.sec.job = none ∧ d'.rd Reg.SEC_MSG_STATUS = 0
        ∧ (∃ nonce eph, d'.sec.chal = some (nonce, eph, (d.upTo t).opTime) ∧ nonce.length = 16)
        ∧ d.changesSilently d' [.sec, .time] (Reg.SEC_MSG_STATUS :: buf))
      ∧ completes (.challengeReady t) (fun d => d.sec.job ≠ some .challenge) (fun d d' => d.changesSilently d' [.time] []))

/-- Sessions, life-cycle orders and JTAG (R345, R347, R349, R351, R352): a token that passes opens a session with its
rights, another is refused and flagged; the end of a session ends its bypasses; an order is refused by its code or waits
for its flush; JTAG refuses what the life-cycle state does not allow, and EXTEST puts the field die in posture. -/
def Obligations.SessionsOrdersJtag : Prop :=
  let early (d : Dev) : Prop := d.takesFrames = true
  let ended (d d' : Dev) : Prop :=
    d'.sec.session = none ∧ d'.rd Reg.SEC_SESS_RIGHTS = 0 ∧ d'.rdB Reg.SEC_FLAGS 3 = true ∧ d'.rdB Reg.SEC_STATUS 0 = false
    ∧ (∀ p : Slot, d'.rdB (Reg.PRT_OBS_STATUS p) 15 = false)
    ∧ (d.sec.loading = true → d'.sec.loading = false ∧ d'.rd Reg.SEC_LOAD_RESULT = 0x8000000D#32)
    ∧ d.onlyParts d' ([.sec, .time] ++ noticeParts)
  completes (.sessEnd false) early (fun d d' => d' = d)
  ∧ completes (.sessEnd true) (fun d => early d ∧ d.sec.session.isSome = true) ended
  ∧ completes .sessionExpiry (fun d => d.sec.session = none) (fun d d' => d' = d)
  ∧ (∀ x : Session, completes .sessionExpiry (fun d => d.sec.session = some x) fun d d' =>
      ended d d' ∧ d'.now = max d.now (d.rcd.released + (x.endsAt - d.rcd.opBase) * 200000))
  ∧ (∀ t : Nat,
      completes (.tokenChecked t) (fun d => d.sec.job ≠ some .token) (fun d d' => d.changesSilently d' [.time] [])
      ∧ completes (.tokenChecked t) (fun d => d.sec.job = some .token ∧ (d.upTo t).tokenCheck = 0) (fun d d' =>
        (∃ x, d'.sec.session = some x ∧ x.rights = d'.rd Reg.SEC_SESS_RIGHTS ∧ x.ctr = 0 ∧ x.fails = 0)
        ∧ d'.rd Reg.SEC_SESS_RIGHTS = wn (leNat ((d.msgBytes 24 4)) % 512) ∧ d'.sec.chal = none ∧ d'.sec.job = none
        ∧ d'.rdB Reg.SEC_FLAGS 2 = true ∧ d'.rd Reg.SEC_MSG_STATUS = 0 ∧ d'.rdB Reg.SEC_STATUS 0 = true
        ∧ d.onlyParts d' ([.sec, .time] ++ noticeParts))
      ∧ completes (.tokenChecked t) (fun d => d.sec.job = some .token ∧ (d.upTo t).tokenCheck ≠ 0) (fun d d' =>
        d'.sec.session = d.sec.session ∧ d'.sec.job = none ∧ d'.rdB Reg.SEC_FLAGS 4 = true
        ∧ d'.rd Reg.SEC_MSG_STATUS = wn ((d.upTo t).tokenCheck * 256)
        ∧ d.changes d' [.sec, .time] [Reg.SEC_FLAGS, Reg.SEC_MSG_STATUS]))
  ∧ (∀ g : Bool, completes (.order g) (fun d => early d ∧ d.lcState ≠ 0 ∧ (g = false ∨ d.hasRight 6 = false)) (fun d d' => d' = d))
  ∧ (∀ (o : LifeOrder) (c : Nat),
      let may (d : Dev) : Prop := early d ∧ (d.lcState = 0 ∨ d.hasRight 6 = true) ∧ d.lifeOrder = some o
      (c ≠ 0 → completes (.order true) (fun d => may d ∧ d.orderCheck o = c) fun d d' =>
        d'.rd Reg.LCS_RESULT = wn c ∧ d'.rdB Reg.SEC_FLAGS 7 = true ∧ d'.sec = d.sec
        ∧ d.changes d' [] [Reg.LCS_RESULT, Reg.SEC_FLAGS])
      ∧ completes (.order true) (fun d => may d ∧ d.orderCheck o = 0) (fun d d' =>
        d'.rd Reg.LCS_RESULT = 0 ∧ d'.rdB Reg.SEC_FLAGS 6 = true ∧ d'.sec.order = some o ∧ d'.sec.session = none
        ∧ d'.sec.otp = d.sec.otp ∧ d.onlyParts d' ([.sec, .jnl, .cvn] ++ noticeParts)))
  ∧ (∀ (i : JtagIns) (v : Bool),
      completes (.jtagInstruction i v) (fun d => d.sec.extest = false
        ∧ (i = .idcode ∨ i = .bypass ∨ i = .sample ∧ d.lcState ≠ 4 ∨ i = .vendorTest ∧ v = true ∧ (d.lcState = 0 ∨ d.lcState = 3)))
        (fun d d' => d'.sec = { d.sec with ir := i } ∧ d.changesSilently d' [.sec] [])
      ∧ completes (.jtagInstruction i v) (fun d => d.sec.extest = false
        ∧ (i = .sample ∧ d.lcState = 4 ∨ i = .vendorTest ∧ (v = false ∨ d.lcState = 1 ∨ d.lcState = 2 ∨ d.lcState = 4)))
        (fun d d' => d'.sec = { d.sec with ir := .bypass } ∧ d'.rdB Reg.SEC_FLAGS 10 = true ∧ d.changes d' [.sec] [Reg.SEC_FLAGS])
      ∧ completes (.jtagInstruction .extest v) (fun d => d.sec.extest = false ∧ (d.lcState = 0 ∨ d.lcState = 3)) (fun d d' =>
        d'.sec.extest = true ∧ d'.fio.posture = true ∧ d'.rdB Reg.SEC_FLAGS 9 = true
        ∧ d.changes d' [.sec, .fio] (Reg.SEC_FLAGS :: Reg.SYS_STATUS :: switchRegs)))
  ∧ completes .trstN (fun d => d.sec.extest = true) (fun d d' =>
      d'.sec.extest = false ∧ d'.sec.needReset = (d.sec.needReset || d.solo) ∧ d.changesSilently d' [.sec] [])
  ∧ completes .trstN (fun d => d.sec.extest = false) (fun d d' => d'.sec = { d.sec with ir := .idcode } ∧ d.changesSilently d' [.sec] [])

/-- Frames (R356 to R364, R368, R371): a bad header CRC is counted and has no other effect; a good frame is counted and
answered by its result, with the read data; a write that finds its credits free takes the next tag and waits, and one
that does not is refused with BUSY and takes none; RESYNC returns to one lane, a cut frame is counted; a port that takes
no frames ignores them all; HOST_TMO after the last good frame the host counts as gone. -/
def Obligations.HostFrames : Prop :=
  let gives (i : Instr) (pre : Dev → HostPort → Prop) (post : Dev → HostPort → Dev → HostPort → Prop) : Prop :=
    ∀ s : State, pre s.dev.begin s.host →
      ∃ t, exec i s = .next t ∧ t.pending = s.pending ∧ post s.dev.begin s.host t.dev t.host
  let takes (d : Dev) (_ : HostPort) : Prop := d.takesFrames = true
  let answered (t result : Nat) (data : List Byte) (more : List Nat) (d : Dev) (h : HostPort) (d' : Dev) (h' : HostPort) : Prop :=
    (∃ r, h'.reply = some r ∧ r.result = result ∧ r.data = data ∧ r.tag = h'.tag ∧ r.taken = h'.taken ∧ r.ret = h'.ret
      ∧ r.doneTag = h.doneTag ∧ r.errTag = h.errTag ∧ r.errCode = h.errCode ∧ r.errCnt = h.errCnt)
    ∧ d'.rd Reg.HST_FRAMES = d.rd Reg.HST_FRAMES + 1 ∧ h'.gone = false ∧ h'.lastGood = max d.now t
    ∧ d'.rdB Reg.HST_FLAGS 6 = (d.rdB Reg.HST_FLAGS 6 || (h.gone && decide (d.rdF Reg.HST_CFG 15 8 ≠ 0)))
    ∧ d.changes d' [.time] (more ++ [Reg.HST_FRAMES, Reg.HST_FLAGS])
  let sameCounts (h h' : HostPort) : Prop := h'.tag = h.tag ∧ h'.taken = h.taken ∧ h'.ret = h.ret ∧ h'.queue = h.queue
  (∀ (t : Nat) (a len : Nat) (bad : List (Nat × Ecc)) (data : List Byte) (ctr : BitVec 32) (mac : List Byte) (op : BitVec 8),
    let crcR := crc32c (hostPhase 1 a len [] [])
    let crcW := crc32c (hostPhase 2 a data.length data [])
    let crcG := crc32c (hostPhase 3 a data.length data (leBytes 4 ctr.toNat ++ mac))
    let crcS := crc32c (hostPhase op.toNat a len [] [])
    let plainW : Prop := a + data.length ≤ Reg.HST_CFG ∨ Reg.HST_CFG < a
    (∀ hcrc, ∀ x ∈ [(Instr.readFrame t hcrc a len bad, crcR), (.writeFrame t hcrc a data, crcW),
        (.writeGated t hcrc a data ctr mac, crcG), (.statusFrame t hcrc op a len, crcS)],
      hcrc ≠ x.2 → plainW → gives x.1 takes fun d h d' h' =>
        (∃ r, h'.reply = some r ∧ r.result = 1 ∧ r.data = [] ∧ h' = { h with reply := some r })
        ∧ d'.rd Reg.HST_CRC_CNT = wn (min (2 ^ 32 - 1) ((d.rd Reg.HST_CRC_CNT).toNat + 1)) ∧ d'.rdB Reg.HST_FLAGS 1 = true
        ∧ d.changes d' [.time] [Reg.HST_CRC_CNT, Reg.HST_FLAGS])
    ∧ (∀ hcrc, ∀ i ∈ [Instr.readFrame t hcrc a len bad, .writeFrame t hcrc a data, .writeGated t hcrc a data ctr mac,
        .statusFrame t hcrc op a len, .resync t, .frameCut t],
      gives i (fun d _ => d.takesFrames = false ∧ d.boot.st ≠ .reset) fun d h d' h' => h' = h ∧ d.changesSilently d' [.time] [])
    ∧ gives (.statusFrame t crcS op a len) takes (fun d h d' h' =>
        answered t (if op = 4 ∧ a = 0 ∧ len = 0 then 0 else 2) [] [] d h d' h' ∧ sameCounts h h')
    ∧ (a % 4 ≠ 0 ∨ len % 4 ≠ 0 ∨ len < 4 ∨ 4096 < len →
        gives (.readFrame t crcR a len bad) takes (fun d h d' h' => answered t 3 [] [] d h d' h' ∧ sameCounts h h'))
    ∧ (a % 4 = 0 → len % 4 = 0 → 4 ≤ len → len ≤ 4096 → inOneRow a len = false →
        gives (.readFrame t crcR a len bad) takes (fun d h d' h' => answered t 4 [] [] d h d' h' ∧ sameCounts h h'))
    ∧ (∀ gated : Bool,
        let i : Instr := if gated then .writeGated t crcG a data ctr mac else .writeFrame t crcW a data
        let cost := (data.length + 255) / 256
        let may : Prop := a % 4 = 0 ∧ data.length % 4 = 0 ∧ 4 ≤ data.length ∧ data.length ≤ 4096 ∧ inOneRow a data.length = true
        (may → plainW →
          gives i (fun d h => d.takesFrames = true ∧ h.taken < 256 ∧ h.ret < 256 ∧ (h.taken + 256 - h.ret) % 256 + cost ≤ 32) (fun d h d' h' =>
            answered t 0 [] [] d h d' h' ∧ h'.tag = (h.tag + 1) % 256 ∧ h'.taken = (h.taken + cost) % 256 ∧ h'.ret = h.ret
            ∧ h'.queue = h.queue ++ [⟨a, wordsOf (data.length / 4) data, cost, h'.tag, if gated then some (ctr.toNat, mac) else none⟩])
          ∧ gives i (fun d h => d.takesFrames = true ∧ h.taken < 256 ∧ h.ret < 256 ∧ (h.taken + 256 - h.ret) % 256 ≤ 32
              ∧ 32 < (h.taken + 256 - h.ret) % 256 + cost) (fun d h d' h' =>
            answered t 5 [] [] d h d' h' ∧ sameCounts h h' ∧ d'.rdB Reg.HST_FLAGS 2 = true))
        ∧ (a % 4 ≠ 0 ∨ data.length % 4 ≠ 0 ∨ data.length < 4 ∨ 4096 < data.length →
            gives i takes (fun d h d' h' => answered t 3 [] [] d h d' h' ∧ sameCounts h h')))
    ∧ gives (.resync t) takes (fun d h d' h' =>
        d'.rdF Reg.HST_CFG 1 0 = 0 ∧ d'.rdF Reg.HST_CFG 15 8 = d.rdF Reg.HST_CFG 15 8 ∧ d'.rdB Reg.HST_FLAGS 4 = true
        ∧ h' = { h with width := 0 } ∧ d.changes d' [.time] [Reg.HST_CFG, Reg.HST_FLAGS])
    ∧ gives (.frameCut t) takes (fun d h d' h' =>
        d'.rd Reg.HST_CUT_CNT = wn (min (2 ^ 32 - 1) ((d.rd Reg.HST_CUT_CNT).toNat + 1)) ∧ d'.rdB Reg.HST_FLAGS 0 = true
        ∧ h' = h ∧ d.changes d' [.time] [Reg.HST_CUT_CNT, Reg.HST_FLAGS]))
  ∧ gives .hostGone (fun d h => d.boot.st ≠ .reset ∧ d.pwr.st ≠ .stable ∧ d.pwr.st ≠ .dormant ∧ h.gone = false ∧ d.rdF Reg.HST_CFG 15 8 ≠ 0) (fun d h d' h' =>
      h' = { h with gone := true } ∧ d'.rdB Reg.HST_FLAGS 5 = true
      ∧ d'.now = max d.now (h.lastGood + d.rdF Reg.HST_CFG 15 8 * 20000000) ∧ d.changes d' [.time] [Reg.HST_FLAGS])
  ∧ gives .hostGone (fun d h => d.boot.st ≠ .reset ∧ (h.gone = true ∨ d.rdF Reg.HST_CFG 15 8 = 0 ∨ d.pwr.st = .stable ∨ d.pwr.st = .dormant)) (fun d h d' h' => d' = d ∧ h' = h)

/-- A read of a plain register (R16, R358, R402): its ST bits read from staging, its WO bits read 0, all others read the
value in force.

Completion of a posted write of one register (R16, R17, R19, R348, R365, R366, R402): RW bits take the value; ST bits
are staged and leave the value in force; a changed ST/LK bit in FIELD is LOCKED and a write of ST bits during a commit is
STAGING, each with no effect on the register and reported; W1C bits written 1 clear unless they were set in the same position
period. Every completion gives the write's credits back. -/
def Obligations.RegisterAccess : Prop :=
  (
  ∀ (t a : Nat) (r : RegAt) (s : State),
    let d := (s.dev.begin.upTo t).sequenceNow
    d.takesFrames = true → d.up = true → isField a = false ∨ d.fio.image = none → regAt a = some r → a % 4 = 0 → inOneRow a 4 = true →
    a ∉ Reg.HST_FRAMES :: Reg.HST_FLAGS :: noticeRegs → d.view s.host a = none → d.window? a = none →
    ∃ u, exec (.readFrame t (crc32c (hostPhase 1 a 4 [] [])) a 4 []) s = .next u ∧ u.pending = s.pending
      ∧ (∃ p, u.host.reply = some p ∧ p.result = 0
        ∧ p.data = leBytes 4 ((d.rd a &&& ~~~r.stMask &&& ~~~r.woMask) ||| (d.stg a &&& r.stMask)).toNat))
  ∧ (
  ∀ (t a tag : Nat) (v : Word) (r : RegAt) (rest : List HostWrite), regAt a = some r → a % 4 = 0 → a < 0x7000 ∨ 0x8000 ≤ a ∧ a < 0x200000 →
    let plain (s : State) : Prop :=
      s.host.queue = ⟨a, [v], 1, tag, none⟩ :: rest ∧ s.dev.up = true ∧ s.dev.writeBusy a 4 = false
      ∧ s.dev.jnl.pendingBytes ≤ 12 * 1024 ∧ (s.dev.begin.upTo t).special r a v false = none
    let done (code : Nat) (s u : State) : Prop := u.pending = s.pending ∧ u.host.queue = rest ∧ u.host.doneTag = tag
      ∧ u.host.ret = (s.host.ret + 1) % 256 ∧ u.host.taken = s.host.taken ∧ u.host.tag = s.host.tag
      ∧ (code = 0 → u.host.errCnt = s.host.errCnt ∧ u.host.errTag = s.host.errTag)
      ∧ (code ≠ 0 → u.host.errCode = code ∧ u.host.errTag = tag ∧ u.host.errCnt = (s.host.errCnt + 1) % 256
          ∧ u.dev.rdB Reg.HST_FLAGS 3 = true ∧ u.dev.rd (Reg.HST_WLOG_A 0) = wn (code * 2 ^ 24 + a)
          ∧ u.dev.rd (Reg.HST_WLOG_B 0) = wn tag)
    let ends (pre : State → Prop) (code : Nat) (post : Dev → Dev → Prop) : Prop :=
      ∀ s, plain s → pre s → ∃ u, exec (.writeCompletion t) s = .next u ∧ done code s u ∧ post s.dev.begin u.dev
    ends (fun _ => r.stMask = 0 ∧ r.w1cMask = 0) 0 (fun d d' =>
      d'.rd a = (d.rd a &&& ~~~r.rwMask) ||| (v &&& r.rwMask) ∧ d.changesSilently d' [.time] [a])
    ∧ ends (fun s => s.dev.lkLocked = false ∧ s.dev.rdB Reg.SYS_COMMIT_STATUS 31 = false ∧ s.dev.ilkOwned a = false
        ∧ r.rwMask = 0 ∧ r.w1cMask = 0) 0 (fun d d' =>
      d'.stg a = (d.stg a &&& ~~~r.stMask) ||| (v &&& r.stMask) ∧ d'.regs = d.regs
      ∧ d.changesSilently d' [.time, .staged] [])
    ∧ ends (fun s => s.dev.lkLocked = false ∧ s.dev.rdB Reg.SYS_COMMIT_STATUS 31 = true ∧ r.stMask ≠ 0 ∧ r.rwMask = 0
        ∧ r.w1cMask = 0) 9 (fun d d' => d'.staged = d.staged ∧ d'.rd a = d.rd a)
    ∧ ends (fun s => s.dev.lkLocked = true ∧ (v ^^^ s.dev.rd a) &&& r.lkMask ≠ 0 ∧ r.lkMask = r.stMask ∧ r.rwMask = 0
        ∧ r.w1cMask = 0) 6 (fun d d' => d'.rd a = d.rd a ∧ d'.stg a &&& r.stMask = d.stg a &&& r.stMask)
    ∧ ends (fun _ => r.stMask = 0 ∧ r.rwMask = 0) 0 (fun d d' =>
      d'.rd a = d.rd a &&& ~~~(v &&& r.w1cMask &&& ~~~(Cells.read (fun _ => 0) d.setNow a))
      ∧ d.changesSilently d' [.time] [a]))

/-- Power states (R370, R380, R381, R383, R385, R387, R389, R391): the joint state is entered where the member permits it, only
deeper, and below RUN the gates are off; otherwise, or with a wake cause present at the tick, the entry is aborted; a cause
that ends the state in force starts the exit and is reported; RUN begins when the exit is complete, no sooner than its
latency (log 137); a tolerance is written as its register says. The conditions of a state must hold without a break: a command
after which they have ceased to hold is noted, and the dwell of that state starts anew at the next strobe (log 82). -/
def Obligations.PowerStates : Prop :=
  let ends (code : Nat) (d : Dev) : Prop :=
    if code = 1 ∨ code = 8 ∨ code = 9 then d.pwr.st = .stable ∨ d.pwr.st = .dormant
    else if code = 2 ∨ code = 11 then d.pwr.st = .hold
    else if code = 4 then d.pwr.st ≠ .run ∧ d.duo = true else d.pwr.st ≠ .run
  let woken (code : Nat) (d d' : Dev) : Prop := d'.pwr.exiting = true ∧ d'.pwr.st = d.pwr.st
    ∧ d'.pwr.exitAt = d'.now + 200 * d.exitOf d.pwr.st
    ∧ d'.rd Reg.PWR_CAUSE = wn (d.pwr.st.code * 256 + code) ∧ d'.rdB Reg.PWR_FLAGS 8 = true
  (∀ (code : BitVec 8) (t : Nat),
    completes (.wake code t) (fun d => ends code.toNat d ∧ d.pwr.exiting = false) (fun d d' =>
      woken code.toNat d d' ∧ d'.now = max d.now t ∧ d.changes d' [.time] [])
    ∧ completes (.wake code t) (fun d => ¬ends code.toNat d ∨ d.pwr.exiting = true) (fun d d' =>
      d'.pwr = { d.pwr with causeAt := some (max d.now t, code.toNat) } ∧ d.changesSilently d' [.pwr, .time] []))
  ∧ (∀ t : Nat,
    completes (.wakeN t true) (fun d => d.pwr.wakeLow = false ∧ ends 1 d ∧ d.pwr.exiting = false) (fun d d' =>
      woken 1 d d' ∧ d'.pwr.wakeLow = true ∧ d.changes d' [.time] [])
    ∧ (∀ low, completes (.wakeN t low) (fun d => low = false ∨ d.pwr.wakeLow = true) fun d d' =>
      d'.pwr = { d.pwr with wakeLow := low } ∧ d.changesSilently d' [.pwr, .time] [])
    ∧ completes (.wakeN t true) (fun d => d.pwr.wakeLow = false ∧ (¬ends 1 d ∨ d.pwr.exiting = true)) fun d d' =>
      d'.pwr = { d.pwr with wakeLow := true, causeAt := some (max d.now t, 1) } ∧ d.changesSilently d' [.pwr, .time] [])
  ∧ completes .powerStateEntry (fun d => d.pwr.joint = none) (fun d d' => d' = d)
  ∧ (∀ j : PwrSt,
    completes .powerStateEntry (fun d => d.pwr.joint = some j ∧ (d.pwr.exiting = true ∨ j.code ≤ d.pwr.st.code)) (fun d d' =>
      d'.pwr = { d.pwr with joint := none } ∧ d.changesSilently d' [.pwr] [])
    ∧ completes .powerStateEntry (fun d => d.pwr.joint = some j ∧ d.pwr.exiting = false ∧ d.pwr.st.code < j.code
        ∧ d.causeNow j = none ∧ j.code ≤ d.pwr.own.code) (fun d d' =>
      d'.pwr.st = j ∧ d'.pwr.joint = none ∧ d'.rdF Reg.PWR_STATUS 1 0 = j.code ∧ d'.rdB Reg.PWR_FLAGS 6 = true
      ∧ (∀ n : Sax, d'.rdB (Reg.SAX_STATUS n) 0 = false) ∧ (∀ n : Stx, d'.rdB (Reg.STX_STATUS n) 0 = false)
      ∧ (∀ n : Sax, d'.servo[n].silenced = d.servo[n].silenced)
      ∧ d.onlyParts d' ([.fio, .stepd] ++ noticeParts))
    ∧ completes .powerStateEntry (fun d => d.pwr.joint = some j ∧ d.pwr.exiting = false ∧ d.pwr.st.code < j.code
        ∧ d.causeNow j = none ∧ d.pwr.own.code < j.code) (fun d d' =>
      d'.pwr.st = d.pwr.st ∧ d'.pwr.joint = none ∧ d'.rdB Reg.PWR_FLAGS 9 = true ∧ d.changes d' [] [Reg.PWR_FLAGS])
    ∧ (∀ code, completes .powerStateEntry (fun d => d.pwr.joint = some j ∧ d.pwr.exiting = false ∧ d.pwr.st.code < j.code
        ∧ d.causeNow j = some code) fun d d' =>
      d'.pwr.st = d.pwr.st ∧ d'.pwr.joint = none ∧ d'.rdB Reg.PWR_FLAGS 9 = true ∧ d.changes d' [] [Reg.PWR_FLAGS]))
  ∧ (∀ (t : Nat) (s : State), s.dev.pwr.exiting = true →
      ∃ u, exec (.exitComplete t) s = .next u ∧ u.pending = s.pending ∧ u.dev.pwr.st = .run ∧ u.dev.pwr.exiting = false
        ∧ u.dev.pwr.joint = none ∧ u.dev.rdF Reg.PWR_STATUS 1 0 = 0 ∧ u.dev.rdB Reg.PWR_FLAGS 7 = true
        ∧ u.dev.now = max s.dev.now (max t s.dev.pwr.exitAt)
        ∧ (s.dev.pwr.st = .hold → s.dev.boot.st ≠ .reset → u.host = s.host
            ∧ s.dev.begin.onlyParts u.dev ([.time, .stepd, .portal, .mot] ++ noticeParts)))
  ∧ (∀ t : Nat, completes (.exitComplete t) (fun d => d.pwr.exiting = false) (fun d d' => d' = d))
  ∧ (∀ (which : Fin 3) (v : Word),
    let a := Reg.PWR_TOL_HOST + 4 * which.val
    completes (.toleranceWrite which v) (fun d => d.hostUp = true) (fun d d' =>
      d'.rd a = v &&& 0xFFFFFF#32 ∧ d.changesSilently d' [] [a]))
  ∧ (∀ (c : Instr) (p : PwrSt) (s : State), p ∈ sleepStates → s.dev.begin.mayEnter p s.host.queue.isEmpty = true →
      ∃ t, exec c s = .next t ∧ (t.dev.mayEnter p t.host.queue.isEmpty = false → p ∈ t.broken))
  ∧ (∀ (i : TickIn) (p : PwrSt) (s : State), p ∈ sleepStates → p ∈ s.broken → s.dev.ticking = true →
      s.dev.syncStrobe.time.nextK % (s.dev.syncStrobe.spdDiv * s.dev.syncStrobe.posDiv) ≠ 0 →
      ∃ u, exec (.tickStrobe i) s = .next u ∧ u.dev.pwr.since.getD (p.code - 1) none = none)

/-- Supplies, temperature and uncorrectable errors (R288, R375): a supply that leaves its range is flagged and shown, and
for VCORE, VDDIO33 and VDDA a reset of code 03h is due; in Duo and Ring 130 °C and an uncorrectable error surrender the
member with their codes; the thermal flags follow TEMP against its limits. -/
def Obligations.Supplies : Prop :=
  (∀ (i : Fin 3) (t : Nat),
    completes (.supplyOutOfRange i true t) (fun d => d.solo = true ∧ d.pwr.oor.length = 4 ∧ d.pwr.oor.getD i false = false
        ∧ d.boot.st ≠ .reset) (fun d d' =>
      d'.pwr.oor = d.pwr.oor.set i true ∧ d'.rdB Reg.PWR_SUPPLY i = false ∧ d'.rdB Reg.PWR_FLAGS i = true
      ∧ d'.boot.resetDue = some (3, max d.now t) ∧ d.changes d' [.time, .boot] [Reg.PWR_SUPPLY])
    ∧ completes (.supplyOutOfRange i true t) (fun d => d.solo = false ∧ d.cvn.surrendered = false ∧ d.boot.st ≠ .reset)
      (fun d d' => d'.cvn.surrendered = true ∧ d'.rd Reg.CVN_SURR_CAUSE = 0x8014#32 ∧ d'.rdB Reg.PWR_SUPPLY i = false
        ∧ d'.boot.resetDue = some (3, max d.now t))
    ∧ completes (.supplyOutOfRange i false t) (fun _ => True) (fun d d' =>
      d'.pwr.oor = d.pwr.oor.set i false ∧ d'.rdB Reg.PWR_SUPPLY i = true
      ∧ (d.boot.st = .reset → d.boot.cause = 3 → d'.boot.since = max d.now t)
      ∧ d.changesSilently d' [.time, .boot, .pwr] [Reg.PWR_SUPPLY]))
  ∧ (∀ t : Nat,
    completes (.vddio18OutOfRange t true) (fun d => d.pwr.oor.length = 4 ∧ d.pwr.oor.getD 3 false = false) (fun d d' =>
      d'.rdB Reg.PWR_SUPPLY 3 = false ∧ d'.rdB Reg.PWR_FLAGS 3 = true ∧ d'.pwr.oor.getD 3 false = true
      ∧ d'.boot = d.boot ∧ d.changes d' [.time] [Reg.PWR_SUPPLY])
    ∧ completes (.vddio18OutOfRange t false) (fun _ => True) (fun d d' =>
      d'.rdB Reg.PWR_SUPPLY 3 = true ∧ d.changesSilently d' [.time, .pwr] [Reg.PWR_SUPPLY])
    ∧ completes (.thermalSurrender t) (fun d => d.solo = true) (fun d d' => d.changesSilently d' [.time] [])
    ∧ completes (.thermalSurrender t) (fun d => d.solo = false ∧ d.cvn.surrendered = false ∧ d.boot.st ≠ .reset) (fun _ d' =>
      d'.cvn.surrendered = true ∧ d'.rd Reg.CVN_SURR_CAUSE = 0x8015#32 ∧ d'.rdB Reg.PWR_FLAGS 13 = true)
    ∧ completes (.uncorrectableEcc t) (fun d => d.solo = true) (fun d d' => d.changesSilently d' [.time] [])
    ∧ completes (.uncorrectableEcc t) (fun d => d.solo = false ∧ d.cvn.surrendered = false) (fun _ d' =>
      d'.cvn.surrendered = true ∧ d'.rd Reg.CVN_SURR_CAUSE = 0x8011#32 ∧ d'.rdB Reg.CVN_FLAGS 5 = true)
    ∧ (∀ temp : BitVec 16, completes (.tempChange t temp) (fun _ => True) fun d d' =>
      let warn : Int := sfld (d.rd Reg.PWR_TEMP_CFG) 7 0 * 10
      let hyst : Int := d.rdF Reg.PWR_TEMP_CFG 15 8 * 10
      d'.rd Reg.PWR_TEMP = wn temp.toNat
      ∧ (sfld (d.rd Reg.PWR_TEMP) 15 0 < 1250 → 1250 ≤ temp.toInt → d'.rdB Reg.PWR_FLAGS 12 = true)
      ∧ (d.pwr.tempHot = false → warn ≤ temp.toInt → d'.rdB Reg.PWR_FLAGS 10 = true ∧ d'.pwr.tempHot = true)
      ∧ (d.pwr.tempHot = true → temp.toInt ≤ warn - hyst → d'.rdB Reg.PWR_FLAGS 11 = true ∧ d'.pwr.tempHot = false)
      ∧ (d.pwr.tempHot = false → temp.toInt < warn → d'.pwr.tempHot = false)
      ∧ (d.pwr.tempHot = true → warn - hyst < temp.toInt → d'.pwr.tempHot = true)
      ∧ d.changes d' [.time] [Reg.PWR_TEMP]))

/-- The event controller (R16, R19, R374, R376, R377): a 1 written to PEND clears it unless the bit was set in the same
position period; enabling a source whose flag stands makes it pending; SWSET is an occurrence of source 63, without
effect while it is disabled; TOP is the pending and enabled source of highest priority, the lowest number first. -/
def Obligations.Events : Prop :=
  let early (d : Dev) : Prop := d.takesFrames = true
  (∀ (k : Fin 2) (v : Word),
    completes (.pendClear k v) early (fun d d' =>
      d'.rd (Reg.EVC_PEND k) = d.rd (Reg.EVC_PEND k) &&& ~~~(v &&& ~~~(Cells.read (fun _ => 0) d.setNow (Reg.EVC_PEND k)))
      ∧ d.changesSilently d' [] [Reg.EVC_PEND k])
    ∧ completes (.enWrite k v) early (fun d d' =>
      d'.rd (Reg.EVC_EN k) = v
      ∧ (∀ i < 32, d'.rdB (Reg.EVC_PEND k) i
          = (d.rdB (Reg.EVC_PEND k) i || (bit v i && !d.rdB (Reg.EVC_EN k) i && d.feeding (32 * k + i))))
      ∧ d.changesSilently d' [.setNow] [Reg.EVC_EN k, Reg.EVC_PEND k]))
  ∧ completes .swset (fun d => early d ∧ d.rdB (Reg.EVC_EN 1) 31 = true) (fun d d' =>
      d'.rdB (Reg.EVC_PEND 1) 31 = true ∧ d.changes d' [] [])
  ∧ completes .swset (fun d => early d ∧ d.rdB (Reg.EVC_EN 1) 31 = false) (fun d d' => d' = d)
  ∧ (∀ d : Dev,
      let on (s : Nat) : Prop := s < 64 ∧ d.srcPend s = true ∧ d.srcEn s = true
      (d.topWord = 0 ↔ ∀ s, ¬on s)
      ∧ (∀ s, d.topSrc = some s → on s ∧ ∀ u, on u → d.srcPrio u ≤ d.srcPrio s ∧ (d.srcPrio u = d.srcPrio s → s ≤ u)))

end
end

