-- ==== Sys2Proof/Machine/Pins.lean ====
section
/-!
DEFINITION. What the state shows at the balls: gate outputs (spec/06 R147 to R149, R161), step bridge inputs
(spec/08 R192), modulator clocks (R143, R276), the open-drain and shared lines (R275 to R278, R369, R385), the door
loop (R75, R77), and the place of a signal in the ball grid (spec/20 R442). These are functions of the state; no
command reads them.
-/

namespace Sys2Proof.Machine

/-- What an output does with its ball. -/
inductive Level where
  | low | high | hiZ
  deriving DecidableEq, Repr

/-- A level as a bit. -/
def lvl (b : Bool) : Level := if b then .high else .low

/-- A line of an axis that is not driven: low in Solo, released in Duo and Ring (R161, R192, R275, R394). -/
def Dev.released (d : Dev) : Level := if d.solo then .low else .hiZ

/-- The output buffers of the control die are enabled, and the field die is not in posture (R275, R394). -/
def Dev.buffersOn (d : Dev) : Bool := d.canRecord && !d.fio.posture

/-! ### Gate outputs -/

/-- The gates of the axis switch: enabled, not silenced, driven by this member, in RUN (R119, R161, R275, R380). -/
def Dev.gatesOn (d : Dev) (n : Sax) : Bool :=
  d.buffersOn && decide (d.pwr.st = .run) && d.axEn (Sax.axis n) && !d.servo[n].silenced && d.drivesAx (Sax.axis n)

/-- The phase whose duty the balls of leg `i` (0 U, 1 V, 2 W) carry: PHASE_SWAP exchanges V and W (R168). -/
def Dev.phaseOf (d : Dev) (n : Sax) (i : Fin 3) : Nat :=
  if d.rdB (Reg.SAX_CFG n) 9 then (match i with | 0 => 0 | 1 => 2 | 2 => 1) else i.val

/-- The ideal high-side interval of a duty in 5 ns units from the valley: d × P, centred on the carrier peak (R147). -/
def Dev.idealOf (d : Dev) (duty : Nat) : Rat × Rat :=
  let w : Rat := (duty : Rat) * d.pwmP / 65536
  (((d.pwmP : Rat) - w) / 2, ((d.pwmP : Rat) + w) / 2)

/-- The duty in force of a leg, and the one of the period before. -/
def Dev.legDuty (d : Dev) (n : Sax) (i : Fin 3) : Nat := d.servo[n].act.getD (d.phaseOf n i) 0
def Dev.legDutyPrev (d : Dev) (n : Sax) (i : Fin 3) : Nat := d.servo[n].actPrev.getD (d.phaseOf n i) 0

/-- The ideal interval of a leg in the present period. -/
def Dev.ideal (d : Dev) (n : Sax) (i : Fin 3) : Rat × Rat := d.idealOf (d.legDuty n i)

/-- Dead time of the axis. -/
def Dev.deadT (d : Dev) (n : Sax) : Nat := d.rdF (Reg.SAX_PWM_CFG n) 8 0

/-- The exit from HOLD charges the bootstraps: every low side of each driven axis is on (R387, log 156). -/
def Dev.charging (d : Dev) (n : Sax) : Bool :=
  d.buffersOn && decide (d.pwr.st = .hold) && d.pwr.exiting && d.axEn (Sax.axis n) && !d.servo[n].silenced && d.drivesAx (Sax.axis n)

/-- The high-side and the low-side gate of leg `i` at `t` after the valley, 0 ≤ t < P (R147, R148): a dropped pulse (duty
in force 0) leaves the high side off and the low side on. A dead time that the interval before has begun may last past
the valley. The W gates of a brushed axis are held low (R149); with PHASE_SWAP its V gates carry the duty 0 (log 141). -/
def Dev.gates (d : Dev) (n : Sax) (i : Fin 3) (t : Rat) : Level × Level :=
  if d.charging n then (.low, lvl (!(d.rdB (Reg.SAX_CFG n) 8 && decide (i = 2))))
  else if !d.gatesOn n then (d.released, d.released)
  else if d.rdB (Reg.SAX_CFG n) 8 && decide (i = 2) then (.low, .low)
  else
    let dt : Rat := d.deadT n
    let before := decide ((d.idealOf (d.legDutyPrev n i)).2 + dt ≤ t + d.pwmP)
    if d.legDuty n i = 0 then (.low, lvl before)
    else
      let (b, e) := d.ideal n i
      (lvl (decide (b + dt ≤ t ∧ t < e)), lvl ((before && decide (t < b)) || decide (e + dt ≤ t)))

/-- On-times of the two gates of a leg in one period (R147). -/
def Dev.onTimes (d : Dev) (n : Sax) (i : Fin 3) : Rat × Rat :=
  let p : Rat := d.pwmP
  let dt : Rat := d.deadT n
  let w := (d.ideal n i).2 - (d.ideal n i).1
  if d.legDuty n i = 0 then (0, p) else (w - dt, p - w - dt)

/-! ### Step bridge inputs -/

/-- STn_X1 and STn_X2 of a coil (R192). -/
def Coil.inputs (c : Coil) : Bool × Bool := match c.phase with
  | .off => (false, false)
  | .blank | .on => (c.plus, !c.plus)
  | .fast => (!c.plus, c.plus)
  | .slow => (true, true)

/-- The bridge inputs of a coil at the balls: 00b, or released in Duo and Ring, where the bridges are off. -/
def Dev.bridge (d : Dev) (n : Stx) (coilB : Bool) : Level × Level :=
  let d := d.sequence n
  let c := if coilB then d.stepd[n].coilB else d.stepd[n].coilA
  if d.buffersOn && d.bridgesOn n then (lvl c.inputs.1, lvl c.inputs.2) else (d.released, d.released)

/-! ### Modulator clocks -/

/-- A modulator clock ball: released, held low, or clocking. -/
inductive ClockOut where
  | hiZ | low | runs
  deriving DecidableEq, Repr

/-- This member drives a portal that maps an axis of group `k`. -/
def Dev.drivesGroup (d : Dev) (k : Nat) : Bool :=
  slots.any (fun p => d.enabled p && d.drives p && (d.axesOf p).any (fun a => groupOf a == k))

/-- DSM_CLK[k] (R143, R275, R276, R380, R394): OE 00b off, 01b on, 10b in Solo while driving; in Duo and Ring the clock owner's
alone, which R276 names; off in STABLE and DORMANT; in posture low in Solo and released otherwise. -/
def Dev.dsmClk (d : Dev) (k : Fin 4) : ClockOut :=
  if !d.buffersOn then (if d.solo then .low else .hiZ)
  else if decide (d.pwr.st = .stable ∨ d.pwr.st = .dormant) then .hiZ
  else
    let oe := d.rdF (Reg.SAX_DSMCLK k.val) 9 8
    let on := decide (oe = 1) || (decide (oe = 2) && (!d.solo || d.drivesGroup k))
    if on && (d.solo || d.clockMine k) then .runs else .hiZ

/-- Rising edges of DSM_CLK fall at every valley, DIV units of 5 ns apart (R143): its level at `t` after one. -/
def Dev.dsmLevel (d : Dev) (k : Fin 4) (t : Nat) : Level := match d.dsmClk k with
  | .hiZ => .hiZ
  | .low => .low
  | .runs => let div := d.dsmDiv k; lvl (decide (t % div < div / 2))

/-! ### Open-drain and shared lines -/

/-- SURR_N: pulled low or released; released in Solo (R277, R394). -/
def Dev.surrOut (d : Dev) : Level := if !d.solo && d.pullsSurr then .low else .hiZ

/-- SYNC_OUT (R278, R385): the wake pulse of 2 µs; the leader's pulse of 40 ns at each position tick; a follower's is
released. -/
def Dev.syncOut (d : Dev) : Level :=
  let wake := d.pwr.wakePulse && (match d.pwr.causeAt with | some (t, _) => decide (d.now < t + us 2) | none => false)
  if d.solo || !d.canRecord then .hiZ
  else if wake then .high
  else if d.rdB Reg.CVN_STATUS 17 then
    lvl (d.ticking && decide (d.rdF Reg.TBS_STATUS 13 8 = 0) && decide (d.now < d.time.lastStrobe + 8))
  else .hiZ

/-- ATTN_N (R369, R378). -/
def Dev.attnN (d : Dev) : Level := if d.attnLow then .low else .hiZ

/-- DLP_A and DLP_B drive the loop while HOLD is true and their current limit has not cut them off (R75, R435). -/
def Dev.loopDriven (d : Dev) : Bool := d.rdB Reg.ILK_STATUS 27 && !d.ilk.limA
/-- DLP_KILL is driven (R77). -/
def Dev.loopCut (d : Dev) : Bool := d.ilk.kill

/-- HST_IO is at high impedance: the port takes no frames (R361). -/
def Dev.hostSilent (d : Dev) : Bool := !d.takesFrames

/-! ### The ball grid (R442) -/

/-- Rows of the grid from the A1 edge. -/
def ballRows : List String :=
  ["A", "B", "C", "D", "E", "F", "G", "H", "J", "K", "L", "M", "N", "P", "T", "U", "V", "W", "Y",
   "AA", "AB", "AC", "AD", "AE", "AF", "AG", "AH", "AJ", "AK", "AL", "AM", "AN", "AP", "AT", "AU", "AV", "AW", "AY"]

/-- Signals of the groups that fill rows in order. -/
inductive Signal where
  | servo (n : Sax) (k : Fin 18)   -- UH, UL, VH, VL, WH, WL, IU, IV, EA, EB, EZ pairs, HALL[0] to [2], FLT_N
  | step (n : Stx) (k : Fin 12)    -- A1, A2, B1, B2, CA, CB, IA, IB, EA and EB pairs
  | din (i : Din) | edg (i : Edge) | hs (i : Ch)
  deriving DecidableEq, Repr

/-- Row index and column of a signal's first ball. -/
def Signal.ball : Signal → Nat × Nat
  | .servo n k => (n.val / 2, (if n.val % 2 = 0 then 1 else 19) + k.val)
  | .step n k => (32 + n.val / 2, (if n.val % 2 = 0 then 15 else 27) + k.val)
  | .din i => (19 + i.val / 12, i.val % 12 + 1)
  | .edg i => (27 + i.val / 12, i.val % 12 + 1)
  | .hs i => if i.val < 36 then (31 + i.val / 12, i.val % 12 + 1)
      else if i.val < 40 then (34, i.val - 35)
      else if i.val < 44 then (34, 5 + 2 * (i.val - 40))
      else (35, 1 + 2 * (i.val - 44))

/-- The name of a ball. -/
def ballName (p : Nat × Nat) : String := ballRows.getD p.1 "" ++ toString p.2

/-! ### The whole grid -/

/-- What a ball is assigned to (R442, R443). -/
inductive Ball where
  | gnd | vcore | vddio33 | vddio18 | vdda | vfld | fgnd | keepOut | reserved
  | signal (s : Signal)
  | line (name : String)
  deriving DecidableEq, Repr

/-- Row J, columns 1 to 36. -/
def rowJ : List String :=
  ["DSM_CLK[0]", "DSM_CLK[1]", "DSM_CLK[2]", "DSM_CLK[3]", "HST_SCK", "HST_CS_N", "HST_IO[0]", "HST_IO[1]", "HST_IO[2]",
   "HST_IO[3]", "HST_IO[4]", "HST_IO[5]", "HST_IO[6]", "HST_IO[7]", "HST_DS", "ATTN_N", "WAKE_N", "CVA_TX_P0", "CVA_TX_N0",
   "CVA_TX_P1", "CVA_TX_N1", "CVA_RX_P0", "CVA_RX_N0", "CVA_RX_P1", "CVA_RX_N1", "CVB_TX_P0", "CVB_TX_N0", "CVB_TX_P1",
   "CVB_TX_N1", "CVB_RX_P0", "CVB_RX_N0", "CVB_RX_P1", "CVB_RX_N1", "SURR_N", "SYNC_IN", "SYNC_OUT"]

/-- Row K, columns 1 to 17. -/
def rowK : List String :=
  ["ROLE_ID[0]", "ROLE_ID[1]", "ROLE_ID[2]", "XIN", "XOUT", "RST_N", "PFI", "TRC_CLK", "TRC_D[0]", "TRC_D[1]", "TRC_D[2]",
   "TRC_D[3]", "TCK", "TMS", "TDI", "TDO", "TRST_N"]

/-- Row AL: the train lines, the door loop and SNS. -/
def rowAL : List String :=
  ["TL_REL_L_A", "TL_REL_L_B", "TL_REL_R_A", "TL_REL_R_B", "TL_ZVEL_A", "TL_ZVEL_B", "TL_CLOSE_A", "TL_CLOSE_B", "TL_OVRD",
   "DLP_RB", "DLP_KILL", "SNS"]

/-- Row AM, columns 1 to 10; a signal with two balls stands on both. -/
def rowAM : List String :=
  ["SNS_SEL[0]", "SNS_SEL[1]", "SNS_SEL[2]", "SNS_SEL[3]", "SNS_SEL[4]", "SNS_SEL[5]", "DLP_A", "DLP_A", "DLP_B", "DLP_B"]

/-- A ball of a named line. -/
def lineOf (l : List String) (i : Nat) : Ball := .line (l.getD i "")

/-- VCORE and GND alternate: VCORE where row number plus column is even. -/
def checker (r c : Nat) : Ball := if (r + 1 + c) % 2 = 0 then .vcore else .gnd

/-- A signal of a bounded index. -/
def sigOf {n : Nat} (f : Fin n → Signal) (k : Nat) : Ball := match toFin? n k with
  | some i => .signal (f i)
  | none => .reserved

/-- The field section: rows AA to AY, columns 1 to 12 (R443). -/
def fieldBall (r c : Nat) : Ball :=
  if r < 27 then sigOf .din (12 * (r - 19) + c - 1)
  else if r < 29 then sigOf .edg (12 * (r - 27) + c - 1)
  else if r = 29 then lineOf rowAL (c - 1)
  else if r = 30 then (if c ≤ 10 then lineOf rowAM (c - 1) else .fgnd)
  else if r < 34 then sigOf .hs (12 * (r - 31) + c - 1)
  else if r = 34 then sigOf .hs (if c ≤ 4 then 35 + c else 40 + (c - 5) / 2)
  else if r = 35 then (if c ≤ 8 then sigOf .hs (44 + (c - 1) / 2) else .fgnd)
  else if r = 36 then .vfld
  else if c ≤ 4 then .vfld else .fgnd

/-- The ball at row index `r` (A is 0) and column `c` (R442). -/
def ballAt (r c : Nat) : Ball :=
  if r < 8 then
    if 36 < c then .gnd
    else match toFin? 16 (2 * r + (c - 1) / 18), toFin? 18 ((c - 1) % 18) with
      | some n, some k => .signal (.servo n k)
      | _, _ => .reserved
  else if r = 8 then (if c ≤ 36 then lineOf rowJ (c - 1) else .gnd)
  else if r = 9 then (if c ≤ 17 then lineOf rowK (c - 1) else if c ≤ 29 then .vddio18 else .vdda)
  else if r = 10 then (if c ≤ 15 then .vdda else .gnd)
  else if r = 11 then .vddio33
  else if r = 12 then (if c ≤ 26 then .vddio33 else .gnd)
  else if r < 18 then checker r c
  else if r = 18 then (if c ≤ 13 then .keepOut else .gnd)
  else if c ≤ 12 then fieldBall r c
  else if c = 13 then .keepOut
  else if c = 14 then .gnd
  else if r < 25 then checker r c
  else if r = 25 then (if c ≤ 30 then .gnd else .reserved)
  else if r < 32 then .gnd
  else match toFin? 12 (2 * (r - 32) + (c - 15) / 12), toFin? 12 ((c - 15) % 12) with
    | some n, some k => .signal (.step n k)
    | _, _ => .reserved

/-- How many balls of the grid satisfy `f`. -/
def ballCount (f : Ball → Bool) : Nat :=
  ((List.range 38).map (fun r => ((List.range 38).filter (fun c => f (ballAt r (c + 1)))).length)).sum

end Sys2Proof.Machine
end

