-- ==== Sys2Proof/WellFormed.lean ====
section
/-!
DEFINITION. Which commands can be sent at all: operands inside the fields that carry them. A command that fails
a check stands for no event of the hardware; nothing else depends on it.
-/

namespace Sys2Proof

open Machine

/-- ADDR and LEN of a frame fit their fields: 24 and 16 bits (R357). -/
def frameOk (addr len : Nat) : Bool := decide (addr < 2 ^ 24 ∧ len < 2 ^ 16)

/-- A word of a servo bank register or of the bank table region (R158, R425). -/
def bankAddrOk (a : Nat) : Bool :=
  decide (a % 4 = 0) &&
    (decide (0x200000 ≤ a ∧ a < 0x240000)
      || decide (0x020000 ≤ a ∧ a < 0x028000 ∧ ((0x200 ≤ a % 0x800 ∧ a % 0x800 < 0x250) ∨ (0x280 ≤ a % 0x800 ∧ a % 0x800 < 0x2D0))))

/-- A record's LENGTH is a multiple of 8 from 32 to 256 (R302). -/
def recOk (r : Rec) : Bool :=
  let n := 24 + r.req.body.length
  decide (n % 8 = 0 ∧ 32 ≤ n ∧ n ≤ 256)

/-- A requested record fits: DLEN at most 32 bytes (R304), a cycle record's body whole bytes of its layout (R64). -/
def askOk (q : RecordAsk) : Bool := match q with
  | .event _ _ _ _ data => decide (data.length ≤ 8)
  | .cycle _ _ body => decide ((24 + body.length) % 8 = 0 ∧ 24 + body.length ≤ 256)

/-- The operands of a command lie inside the fields that carry them. -/
def Instr.wf (i : Instr) : Bool :=
  match i with
  | .tickStrobe i =>
    decide (i.iu.length = 16 ∧ i.iv.length = 16 ∧ i.ia.length = 12 ∧ i.ib.length = 12 ∧ i.replicas.length = 4)
  | .bankWrite addr _ => bankAddrOk addr
  | .edgeMeasurement _ _ idle uv => decide (idle ≤ 5000000 ∧ uv ≤ 5000000)
  | .adcConversion code _ => decide (code < 4096)
  | .syncFrame _ idx _ _ => decide (idx.toNat < 64)
  | .healthFrame _ m => decide (m.dins.length = 3)
  | .fwd _ _ c pseq => decide (1 ≤ c.code ∧ c.code ≤ 7 ∧ pseq < 65536)
  | .xfer _ _ _ _ duties => duties.all (fun x => decide (x.length = 3) && x.all (fun v => decide (v ≤ 65536)))
  | .mirrorRecord _ origin _ ofs r => decide (origin < 8 ∧ ofs < 0x20000) && recOk r
  | .flushMark origin ofs => decide (origin < 8 ∧ ofs < 0x20000)
  | .returnRecord _ r => recOk r
  | .returnEnd _ sender => decide (sender < 8)
  | .memberSurrender _ code => decide (0x10 ≤ code.toNat ∧ code.toNat ≤ 0x16)
  | .recordRequest _ q => askOk q
  | .loadWinWrite ofs bytes _ =>
    decide (ofs % 4 = 0 ∧ bytes.length % 4 = 0 ∧ 0 < bytes.length ∧ ofs + bytes.length ≤ 4096)
  | .readFrame _ _ addr len bad => frameOk addr len && bad.all (fun x => decide (x.1 % 4 = 0 ∧ addr ≤ x.1 ∧ x.1 < addr + len))
  | .writeFrame _ _ addr data => frameOk addr data.length
  | .writeGated _ _ addr data _ tag => frameOk addr data.length && decide (tag.length = 16)
  | .statusFrame _ _ op addr len => frameOk addr len && !([0x01, 0x02, 0x03, 0xFF].contains op.toNat)
  | .wake code _ => decide (1 ≤ code.toNat ∧ code.toNat ≤ 0x0B)
  | .nandEraseComplete b => decide (b < 2048)
  | .shadowClose | .openCmd .. | .closeCmd .. | .faultClear .. | .isolate .. | .restore .. | .warnElapsed .. |
    .dwellCloseExpiry .. | .lockRelMaxExpiry .. | .lockEngMaxExpiry .. | .openMaxExpiry .. | .closeMaxExpiry ..
    | .curtainMaxExpiry .. | .qualMaxExpiry .. | .stepMaxExpiry .. | .reversalWaitExpiry .. |
    .tlChannelAccept .. | .tlDiscExpiry .. | .inputStale .. | .dlpRbChange .. | .killConfirmExpiry | .loopOpen |
    .lockBackfeed .. | .push .. | .retarget .. | .stop .. | .qstop .. | .halt .. | .realign .. | .home .. |
    .homeStepComplete .. | .profileEnd .. | .compareArm .. | .latchArm .. | .latchReady .. |
    .encoderTransition .. | .illWindowEnd .. | .wireFault .. | .wireFaultEnd .. | .spdTimeoutExpiry .. |
    .indexEvent .. | .hallSectorChange .. | .uncClr .. | .driftClr .. | .dsmStuck .. | .bridgeFault .. |
    .overCurrent .. | .servoEn .. | .fltAck .. | .ocAck .. | .dsmAck .. | .sealBank .. | .sealComplete .. |
    .bankSwap .. | .traceArm | .traceStop | .manual | .bypass .. | .obsDriftClr .. | .edgeMarginal .. |
    .blankingEnd .. | .chopTrip .. | .fastDecayEnd .. | .offTimeEnd .. | .standstill .. | .stepEn .. |
    .shortAck .. | .stepDsmAck .. | .restart .. | .restartComplete .. | .statClr .. | .nopWord .. | .mov .. |
    .add .. | .sub .. | .adds .. | .subs .. | .andWord .. | .orWord .. | .xor .. | .shl .. | .shr .. | .sar .. |
    .minWord .. | .maxWord .. | .abss .. | .negs .. | .mulq31 .. | .mulq16 .. | .mull .. | .mac .. | .msu .. |
    .wset .. | .wext .. | .ceq .. | .clt .. | .cle .. | .cltu .. | .pand .. | .por .. | .pnot .. | .p2v .. |
    .v2p .. | .tcur .. | .tget .. | .tbind .. | .fadd .. | .fsub .. | .fmul .. | .fma .. | .fms .. | .fmin .. |
    .fmax .. | .fceq .. | .fclt .. | .fcle .. | .frcp .. | .frsq .. | .cvtxf .. | .cvtfx .. | .cvtfxr .. |
    .sel .. | .movi .. | .feed .. | .memNop .. | .ldd .. | .lddh .. | .std .. | .stdh .. | .lddx .. | .stdx .. |
    .ldt .. | .ldth .. | .ldthp .. | .ldio .. | .ldio2 .. | .stio .. | .stio2 .. | .endWord .. | .hsReqStore ..
    | .surrReq .. | .mailboxCommit .. | .dinAccept .. | .foreign .. | .inEvenWrite .. | .hsHreq .. |
    .currentLimit .. | .limitClear .. | .limTExpiry .. | .retryIntExpiry .. | .thermalTrip .. | .thermalCool ..
    | .retryReset .. | .hsClr .. | .offStateTest .. | .openLoadOn .. | .externalVoltage .. | .sagEnter .. |
    .sagExit .. | .groupRestart | .snsSelChange .. | .scanStep | .spineFrame .. | .upstreamSilence .. |
    .crystalLoss .. | .pllLocks .. | .pllSlip .. | .syncPulse .. | .syncLock | .syncLost .. | .leaderChoice .. |
    .laneUp .. | .laneDown .. | .stateFrame .. | .stateInstall .. | .stateDiscard .. | .claim .. | .renew .. |
    .ack .. | .surrender .. | .release .. | .refuse .. | .returnReq .. | .surrNLow .. | .takeover ..
    | .supplyOutOfRange .. | .vddio18OutOfRange .. | .thermalSurrender .. | .uncorrectableEcc .. |
    .tempChange .. | .surrenderGo .. | .cvnXfer .. | .transferValley .. | .leaseRenewal .. | .leaseExpiry .. |
    .claimTime .. | .homeReturn .. | .roleTake | .stateWaitTimeout | .mirageStale .. | .partnerIneligible .. |
    .recordWrite | .snapshotRecordRead | .flushTimer | .severeFlushTimer | .flush | .flushComplete |
    .nandProgramComplete .. | .pfiAccept .. | .pfDone .. | .pfiFall .. | .seqHoldEnd | .cursorLo .. |
    .seekOldest | .seekNewest | .windowReady | .compactionStart | .compactionEnd | .loadBegin .. | .loadEnd .. |
    .loadAbort .. | .bundleVerify .. | .keyOrder .. | .revert .. | .svnCommit .. | .sessEnd .. | .certRead |
    .attest | .reportReady .. | .chalReq | .challengeReady .. | .sessStart | .tokenChecked .. | .sessionExpiry |
    .order .. | .jtagInstruction .. | .trstN | .resync .. | .frameCut .. | .writeCompletion .. | .hostGone |
    .wakeN .. | .pendClear .. | .enWrite .. | .swset | .powerStateEntry | .exitComplete .. | .toleranceWrite ..
    | .rstNAssert .. | .vfldLoss .. | .resetGo | .controlDieReset .. | .controlDieRelease .. | .commitCmd |
    .commitResolution | .rstNRelease .. | .startupStepComplete .. | .sealSignatureReady .. |
    .dsmTransitionsResume .. | .loopDriverLimitOff | .loopDriverRetry | .spineLoopback .. |
    .backgroundSelfTest .. | .notStartedHoldEnd => true

end Sys2Proof
end

