-- ==== Sys2Proof/Tests/Slice0.lean ====
section
/-!
SUPPORT. Tests. First, small controllers to state witnesses on. Then one witness theorem for each obligation that has
hypotheses: for each clause of it, a concrete state and concrete operands that meet that clause's hypotheses together, as a rule at
one end of a range (`let`s give the operands and the state, the conjunction after them is the clause's hypotheses). Clauses of
one obligation with compatible operands share a line. Last, words and addresses written out from the spec, and an ill-formed term
for each check of `Instr.wf`.
-/

namespace Sys2Proof.Tests

open Sys2Proof Sys2Proof.Machine

set_option maxRecDepth 10000
set_option Elab.async false

/-! ### Small controllers -/

/-- A state of that controller. -/
def S (d : Dev) : State := ({ dev := d } : State)

def dv (rs : List (Nat × Nat)) (d : Dev := {}) : Dev := rs.foldl (fun d r => d.wr r.1 (wn r.2)) d

def up (rs : List (Nat × Nat)) (d : Dev := {}) : Dev := dv rs { d with boot := { d.boot with st := .running } }

/-- Portal 0, PNEU, evaluated, with its engine running, released, in state `ps`. -/
def P (ps : Nat) (rs : List (Nat × Nat) := []) (f : Portal → Portal := id) (sn : List (Nat × Nat) := [(Reg.ILK_STATUS, 4)]) : State :=
  S (((up ([(Reg.PRT_CFG 0, 2), (Reg.ENG_STATUS 0, 1), (Reg.PRT_STATE 0, 0x70 + ps)] ++ rs)).modPrt 0 (fun x => f { x with evaluated := true })) |> (fun d => { d with snap := (dv sn).regs }))

def lims (a : Nat) : List (Nat × Nat) := [(Reg.MOT_LIM_O_V a, 1000), (Reg.MOT_LIM_O_A a, 1000), (Reg.MOT_LIM_O_J a, 10000), (Reg.MOT_LIM_C_V a, 1000), (Reg.MOT_LIM_C_A a, 1000), (Reg.MOT_LIM_C_J a, 10000), (Reg.MOT_STOP_A a, 1000), (Reg.MOT_STOP_J a, 20000)]

/-- Axis `a` with limits set, enabled. -/
def M (a : Axis) (rs : List (Nat × Nat) := []) (f : MotAxis → MotAxis := id) : State :=
  S ((up ([(Reg.SAX_CTRL 0, 1), (Reg.SAX_CTRL 1, 1), (Reg.STX_CTRL 0, 1)] ++ lims 0 ++ lims 1 ++ lims 16 ++ rs)).modMot a (fun x => f x))

/-- The same, as the slide axis of portal 0. -/
def M2 (a : Axis) (rs : List (Nat × Nat) := []) (f : MotAxis → MotAxis := id) : State := M a ([(Reg.PRT_CFG 0, 1), (Reg.PRT_AXIS_MAP 0, 0x10)] ++ rs) f

def mv (x : MotAxis) : MotAxis := { x with running := true, queue := [⟨25600, 256, false, false, 0, none, false⟩], lastTgt := 25600, segs := [⟨0, 10, 0, 0, 5, 0, 4, none⟩, ⟨50, 10, -1, 0, 10, 0, 7, none⟩], sp := 100, spPrev := 90, v := 10, x := 2/5 }

def ses : Session := ⟨0x1FF, 1, 0, 10000000, 0, 0⟩

def withS (s : State) : State := { s with dev := s.dev.modSec (fun x => { x with session := some ses }) }

/-- A state whose controller `f` changes. -/
def M' (s : State) (f : Dev → Dev) : State := { s with dev := f s.dev }

def q (i) := [((Instr.openCmd 0 : Instr), 1), (.closeCmd 0, 2), (.faultClear 0, 3), (.isolate 0 true, 4), (.restore 0 true, 5)].getD i (.flush, 0)

def mpA : IlkMap := ⟨10, 10, 10, 10, 10, [0,0,0,0,0,0,0,0], [⟨true, false, false, 0, 127, 127, 127, 127, 127⟩, ⟨true, false, true, 0, 127, 1, 127, 127, 2⟩], 0⟩

def mp : IlkMap := ⟨10, 10, 10, 10, 10, [1,2,0,0,0,0,0,0], [⟨true, false, false, 0, 127, 127, 127, 127, 127⟩, ⟨true, false, true, 0, 127, 1, 127, 127, 2⟩], 0⟩

def lpp : LatchPend := ⟨5, true, some 7⟩

def hm : List (Nat × Nat) := [(Reg.MOT_HOME_SEEK_V 16, 100), (Reg.MOT_HOME_CREEP_V 16, 10), (Reg.MOT_HOME_BACKOFF 16, 20), (Reg.MOT_HOME_MAX 16, 2000), (Reg.MOT_LATCH_CFG 16, 0)]

def made (s : State) : State := { s with dev := { s.dev with snap := (dv [(Reg.FIN_IN_LVL 0, 1)]).regs } }

/-- Servo axis 0 with its banks. -/
def B (rs : List (Nat × Nat) := []) : State := M2 0 ([(Reg.SAX_BANK_CTRL 0, 0x60000)] ++ rs)

def one := 0x3f800000

/-- Edge channel 1. -/
def Ed (rs : List (Nat × Nat) := []) (c : EdgeCh := {}) : State := S ((up ([(Reg.SYS_ID, 0)] ++ rs)).modFio (fun f => { f with edges := f.edges.set 1 c }))

/-- Step axis 0, energised by `f`. -/
def St (rs : List (Nat × Nat) := []) (f : StepDrv → StepDrv := id) : State := M' (M 16 rs) (fun d => d.modStep 0 f)

def ca (p : ChopPhase) (k : Nat := 0) (pl : Bool := true) : StepDrv → StepDrv := fun x => { x with coilA := { phase := p, plus := pl, shorts := k, onAt := 40, offAt := 50 }, coilB := { phase := .on } }

def cb (p : ChopPhase) (k : Nat := 0) (pl : Bool := true) : StepDrv → StepDrv := fun x => { x with coilB := { phase := p, plus := pl, shorts := k, onAt := 40, offAt := 50 }, coilA := { phase := .fast } }

/-- DIN 1 with debounce. -/
def D1 (rs : List (Nat × Nat) := []) (c : DinCh := {}) (g : FieldIO → FieldIO := id) : State := M' (S ((up ([(Reg.FIN_DEB 1, 3), (Reg.FIN_GRP_CFG 0, 0x8000)] ++ rs)).modFio (fun f => g { f with dins := f.dins.set 1 c }))) (fun d => d.modTime (fun t => { t with tc0 := some 0, now := 4900 }))

def lv (v : Bool) (n : Nat := 4) : List DinSample := List.replicate n (.level v)

/-- An interlock map with two DINs stale. -/
def wm (s : State) (st : List Nat := [0,1]) : State := M' s (fun d => (d.modIlk (fun i => { i with map := some mp, stale := st })).wr Reg.ILK_STATUS 0x40000000)

/-- High-side channel 1. -/
def HS1 (c : HsCh) (rs : List (Nat × Nat) := []) (g : FieldIO → FieldIO := id) (i : Ch := 1) : State := S ((up ([(Reg.FSW_HS_CFG i, 0x00022002)] ++ rs)).modFio (fun f => g { f with posture := false, hs := f.hs.set i c }))

/-- DIN 1 with a debounce of 500 samples. -/
def D2 (rs : List (Nat × Nat) := []) (c : DinCh := {}) (g : FieldIO → FieldIO := id) : State := S ((up ([(Reg.FIN_DEB 1, 500)] ++ rs)).modFio (fun f => g { f with dins := f.dins.set 1 c }))

def vs : Array Word := #[0x0,0x1,0x2,0x7fffffff,0x80000000,0xffffffff,0x80000001,0x10000,0x12345678,0xdeadbeef,0x1f,0x21,0x40,0x3f800000,0x7f800000,0xff800000,0x7fc00000,0x7f800001,0x1,0x800000,0x807fffff,0x40490fdb,0xc0490fdb,0x7f7fffff,0x4b000000,0x4f000000,0xcf000000,0x3effffff,0x40000000,0x80000000,0xbf000000]

def tk : TaskDesc := ⟨.mandatory, 5, 3, 7, 9, 100, 0⟩

/-- Engine 0 with a task and register values. -/
def E (f : Engine → Engine := id) (rs : List (Nat × Nat) := []) : State := M' (S (up ([(Reg.PRT_CFG 0, 2), (Reg.ENG_STATUS 0, 1)] ++ rs))) (·.modEng 0 (fun e => f { e with task := some tk, v := Vector.ofFn (fun i : Fin 32 => (vs : Array Word).getD (i.val - 1) 0), w := #v[0, 0x7fffffffffffffff, 0x8000000000000000, 0xfffffffffffffff0], p := #v[true,false,true,true,false,false,false,true] }))

def ev : WordEnv := ⟨0, .good, .good, 0, .good, .good, .asRow⟩

def alu1s : BitVec 21 := BitVec.ofNat 21 (2*2^15+5*2^10+33)

def pp : List Put := ((E).dev.eng[(0:Slot)].alu none false alu1s.toNat).puts

def im : EngImage := ⟨[],[],[],[],[],[],0,0,[],[0x10000000040#64, 0x2000004000000010#64, 0x1000000000000000#64],[],0,[],[]⟩

/-- The same with an image and bound table pointers. -/
def EI (f : Engine → Engine := id) (rs : List (Nat × Nat) := []) := E (fun e => f { e with img := some im, t := #v[⟨some 0, 3⟩, ⟨some 0, 0xffffffff⟩, ⟨some 1, 2⟩, {}], data := [(5, 77), (513, 12), (2050, 9), (4095, 3)] }) rs

def qs1 : BitVec 21 := BitVec.ofNat 21 (3*2^15+6*2^10+33)

def qq : List Put := ((E).dev.eng[(0:Slot)].alu none false qs1.toNat).puts

def dsz (a : Nat) (x : Word) : Engine → Engine := fun e => { e with data := Cells.write zeroCell e.data a x }

def fd (f : Bool) : List Put := ((EI).dev.eng[(0:Slot)].alu (some 77) f (BitVec.ofNat 21 (2*2^15+5*2^10+32)).toNat).puts

def fd2 (f : Bool) : List Put := ((EI).dev.eng[(0:Slot)].alu (some 77) f (alu1s).toNat).puts

def tk2 : TaskDesc := ⟨.optional, 6, 3, 5, 9, 50, 0⟩

/-- Configuration `conf` (1 Duo, 2 Ring) with a healthy neighbour. -/
def C (conf : Nat) (rs : List (Nat × Nat) := []) (f : Caravan → Caravan := id) : State :=
  let s := S (up ([(Reg.CVN_CFG, conf), (Reg.CVN_STATUS, 0x20000), (Reg.PRT_CFG 0, 2), (Reg.ENG_STATUS 0, 1), (Reg.PRT_STATE 0, 0x10074),(Reg.PWR_SUPPLY,0xF)] ++ rs))
  M' s (fun d => ((d.modCvn (fun c => f { c with healthAt := [some 5, some 5] })).modTime (fun t => { t with pllLock := true, rstN := true, tc0 := some 5, now := 100, nextValley := 20000 })).modFio (fun x => { x with posture := false }))

def EC : State := M' (E id []) (fun d => (dv [(Reg.PRT_OUTPUT_MAP 0, 0x3F3F2105)] d))

def ER (rs : List (Nat × Nat)) (f : Engine → Engine := id) : State := M' (E (fun e => f { e with img := some im }) rs) (fun d => (d.modSec (fun x => { x with taken := true, inForceB := false, slotA := { x.slotA with valid := true } })))

/-- A start-up state. -/
def T (b : BootSt) (rs : List (Nat × Nat) := []) (f : TimeSt → TimeSt := id) (g : Dev → Dev := id) : State :=
  S (g ((dv rs { boot := { st := b } }).modTime (fun t => f { t with tc0 := some 5, now := 100, nextValley := 200, rstN := true, pllLock := true })))

def ti : TickIn := ⟨[], [], [], [], [], [], []⟩

/-- Every servo axis commit-clean. -/
def full0 : Dev := let d := up ((List.range 16).flatMap (fun n => [(Reg.SAX_CFG n, 0x1)] ++ [Reg.SAX_IFS n, Reg.SAX_KT n, Reg.SAX_RATIO n, Reg.SAX_VBUS n].map (·, 0x3f800000)))
  { d with staged := d.regs }

def fo : List (Nat × Nat) := [(Reg.CVN_STATUS, 0x10000)]

def mir (m : Mirage) : Caravan → Caravan := fun c => { c with mirages := c.mirages.set 0 m }

def ls (m : LeaseT) : Caravan → Caravan := fun c => { c with leases := c.leases.set 0 m }

def blk : StateBlock := ⟨0, [], {}, [], [], [], [], [], 0, []⟩

def hd (toUs : Bool) (g : Bool := false) (c : Bool := false) : HandOver := ⟨0, 5000, g, toUs, false, c, []⟩

def L1 (st : Nat) := [(Reg.PRT_STATE 0, 4), (Reg.CVN_LEASE_STATE 0, st), (Reg.CVN_LEASE_EPOCH 0, 7)]

def L0 (st : Nat) := [(Reg.CVN_LEASE_STATE 0, st), (Reg.CVN_LEASE_EPOCH 0, 7)]

/-- A recorder that `f` changes. -/
def R (rs : List (Nat × Nat) := []) (f : Recorder → Recorder := id) (g : Dev → Dev := id) : State :=
  M' (S (up ([(Reg.PRT_CFG 0, 2), (Reg.ENG_STATUS 0, 1)] ++ rs))) (fun d => g (d.modRcd f))

def q0 : Req := ⟨.event, 1, 7, 0, 0, 0, 0, 0xFF, 0, List.replicate 40 1⟩

def qs (n : Nat) (sev : Nat) : List Req := List.replicate n { q0 with sev := sev }

def rst (d : Dev) : Dev := d.modBoot (fun b => { b with st := .reset })

def ld (d : Dev) : Dev := d.modBoot (fun b => { b with st := .load })

def bod (p no : Nat) : List Byte := [BitVec.ofNat 8 p, 0, 0, 0] ++ leBytes 4 no ++ List.replicate 40 3

def je : JEntry := ⟨7, .commit [(4, 5)], true, 0, 0, 0⟩

def je2 : JEntry := ⟨8, .pwrStart 3 4, true, 0, 0, 0⟩

def J (f : Journal → Journal) (d : Dev) : Dev := { d with jnl := f d.jnl }

def mirr (n : Nat) (o : Nat) : Mirrored := ⟨⟨n, q0⟩, o, false, 64*n, false⟩

def ses2 : Session := ⟨0x1FF, 1, 0, 10000000, 0, 0⟩

/-- A session open with every right. -/
def Z (rs : List (Nat × Nat) := []) (f : Security → Security := id) (g : Dev → Dev := id) : State :=
  M' (S (up ([(Reg.PRT_CFG 0, 2)] ++ rs))) (fun d => g (d.modSec (fun x => f { x with session := some ses2 })))

def lc (k : Nat) (x : Security) : Security := { x with otp := { x.otp with log := if k = 0 then [] else [k] } }

def z : RegAt := (regAt Reg.SEC_LOAD_LEN).elim ⟨⟨"x",0,0,1,0,[]⟩, 0, { off := 0, name := "" }, 0⟩ id

/-- A host port that `h` changes. -/
def HP (rs : List (Nat × Nat) := []) (h : HostPort → HostPort := id) (g : Dev → Dev := id) : State :=
  let s := M' (S (up ([(Reg.PRT_CFG 0, 2)] ++ rs))) g
  { s with host := h s.host }

def wip (d : Dev) : Dev := d.modBoot (fun b => { b with st := .wipe })

def by4 : List Byte := [1,2,3,4]

def Wq (a v tag : Nat) (rest : List HostWrite := []) (h : HostPort) : HostPort := { h with queue := ⟨a, [wn v], 1, tag, none⟩ :: rest, ret := 255, taken := 1, errCnt := 255 }

/-- A power state. -/
def W (st : PwrSt) (rs : List (Nat × Nat) := []) (f : PowerSt → PowerSt := id) (g : Dev → Dev := id) : State :=
  M' (S (up ([(Reg.PRT_CFG 0, 2), (Reg.SAX_STATUS 3, 1), (Reg.STX_STATUS 2, 1)] ++ rs))) (fun d => g (d.modPwr (fun x => f { x with st := st })))


/-- A state of that controller. -/
def st (d : Dev) (q : List Instr := []) : State := { State.reset with dev := d, pending := q }

/-- What the host port's next state holds, where there is one. -/
def nextDev (o : Host.Outcome State Fault Refusal) : Option Dev := match o with
  | .next t => some t.dev
  | _ => none

/-! ### Witnesses written by hand: the step, reset, credits, events and the engine words -/

theorem witness_StepTakesTheFront : ({ State.reset with pending := [.flush] } : State).pending = .flush :: []
    ∧ State.reset.pending = [] := by decide +kernel

theorem witness_CreditsKept : State.reset.host.creditsOk ∧ step State.reset = .next State.reset
    ∧ ({ taken := 3, ret := 251, queue := [⟨0x8000, [0], 8, 1, none⟩] } : HostPort).creditsOk := by
  refine ⟨?_, rfl, ?_⟩ <;> (simp only [HostPort.creditsOk]; decide +kernel)

/-- Sources 0 and 63 pending and enabled; and none. -/
theorem witness_TopSource :
    (let d := dv [(Reg.EVC_PEND 0, 1), (Reg.EVC_EN 0, 1), (Reg.EVC_PEND 1, 2 ^ 31), (Reg.EVC_EN 1, 2 ^ 31)]
     ∀ s ∈ [0, 63], d.rdB (Reg.EVC_PEND (s / 32)) (s % 32) = true ∧ d.rdB (Reg.EVC_EN (s / 32)) (s % 32) = true)
    ∧ (∀ s < 64, ({} : Dev).rdB (Reg.EVC_PEND (s / 32)) (s % 32) = false) := by
  refine ⟨?_, ?_⟩ <;> decide +kernel

/-- A bit set in the present position period, and one set in an earlier one. -/
theorem witness_ClearsAndOccurrences :
    let d := (dv [(Reg.TBS_FLAGS, 8)]).setFlag Reg.TBS_FLAGS 0
    bit (Cells.read (fun _ => 0) d.setNow Reg.TBS_FLAGS) 0 = true ∧ bit (Cells.read (fun _ => 0) d.setNow Reg.TBS_FLAGS) 3 = false
      ∧ d.rd Reg.TBS_FLAGS = 9 ∧ (d.w1c Reg.TBS_FLAGS 0xF 0xF).rd Reg.TBS_FLAGS = 1 := by decide +kernel

/-- A word is ready on engine 0, at every charge, beside slots that write v5 and v6. -/
theorem ready (c : Nat) (h : c ∈ [1, 2, 3, 5]) : (E).dev.wordReady ev c ∧ (EI).dev.wordReady ev c := by
  refine ⟨⟨tk, ?_, ?_, ?_, rfl, rfl⟩, ⟨tk, ?_, ?_, ?_, rfl, rfl⟩⟩ <;> first | decide +kernel | (revert c; decide +kernel)

theorem slots_ok : (E).dev.eng[(0 : Slot)].alu none false alu1s.toNat = .ok pp ∧ (EI).dev.eng[(0 : Slot)].alu none false alu1s.toNat = .ok pp
    ∧ (EI).dev.eng[(0 : Slot)].alu none false qs1.toNat = .ok qq := by
  refine ⟨?_, ?_, ?_⟩ <;> decide +kernel

/-- Beside v5, the destinations v6, v0, w3, p7, every predicate and t3 collide with nothing; with no destination neither. -/
theorem apart (x : Word) (y : DWord) (b : Bool) : collide ([.v 6 x] ++ pp) = false ∧ collide ([.v 0 x] ++ pp) = false
    ∧ collide ([.w 3 y] ++ pp) = false ∧ collide ([.p 7 b] ++ pp) = false ∧ collide ([.cur 3 x] ++ pp) = false
    ∧ collide (Put.bind 3 2 :: pp) = false ∧ collide ([] ++ pp) = false ∧ collide pp = false := by
  have h : pp = [.v 5 (match pp with | [.v 5 z] => z | _ => 0)] := by decide +kernel
  rw [h]; simp [collide, Put.key]

/-- Operand fields that each ALU opcode allows, at the ends of their ranges (the fields d, a and b of the witness words). -/
theorem witness_IntegerAluResults : (E).dev.wordReady ev 1 ∧ (0 : BitVec 5).toNat = 0
    ∧ (E).dev.eng[(0 : Slot)].alu none false alu1s.toNat = .ok pp
    ∧ (∀ x, collide ([.v 6 x] ++ pp) = false ∧ collide ([.v 0 x] ++ pp) = false) ∧ collide ([] ++ pp) = false :=
  ⟨(ready 1 (by decide)).1, rfl, slots_ok.1, fun x => ⟨(apart x 0 false).1, (apart x 0 false).2.1⟩, (apart 0 0 false).2.2.2.2.2.2.1⟩

theorem witness_AccumulatorPredicatePointerResults : (E).dev.wordReady ev 1 ∧ (3 : BitVec 5).toNat ≤ 3 ∧ (7 : BitVec 5).toNat ≤ 7
    ∧ (E).dev.eng[(0 : Slot)].alu none false alu1s.toNat = .ok pp
    ∧ (∀ x y b, collide ([.w 3 y] ++ pp) = false ∧ collide ([.v 6 x] ++ pp) = false ∧ collide ([.p 7 b] ++ pp) = false
        ∧ collide ([.cur 3 x] ++ pp) = false)
    ∧ collide ((List.range 8).map (fun i => .p i (((E).dev.eng[(0 : Slot)].rv 9).toNat.testBit i)) ++ pp) = false
    ∧ (EI).dev.wordReady ev 1 ∧ (EI).dev.eng[(0 : Slot)].img = some im ∧ (2 : BitVec 5).toNat < im.descs.length
    ∧ collide (Put.bind 3 2 :: pp) = false :=
  ⟨(ready 1 (by decide)).1, by decide, by decide, slots_ok.1,
    fun x y b => ⟨(apart x y b).2.2.1, (apart x y b).1, (apart x y b).2.2.2.1, (apart x y b).2.2.2.2.1⟩,
    by decide +kernel, (ready 1 (by decide)).2, by decide +kernel, by decide, (apart 0 0 false).2.2.2.2.2.1⟩

theorem witness_Binary32Words : (E).dev.wordReady ev 1 ∧ (E).dev.eng[(0 : Slot)].alu none false alu1s.toNat = .ok pp
    ∧ (∀ x b, collide ([.v 6 x] ++ pp) = false ∧ collide ([.p 7 b] ++ pp) = false) :=
  ⟨(ready 1 (by decide)).1, slots_ok.1, fun x b => ⟨(apart x 0 b).1, (apart x 0 b).2.2.2.1⟩⟩

/-- Words of each kind of value: both ends of the NaNs, both infinities, zeros and a subnormal, numbers of both signs. -/
theorem witness_Binary32Values : FVal.ofWord 0x7F800001 = .nan ∧ FVal.ofWord 0xFFFFFFFF = .nan
    ∧ FVal.ofWord 0x7F800000 = .inf false ∧ FVal.ofWord 0xFF800000 = .inf (!false) ∧ FVal.ofWord 0x80000000 = .zero true
    ∧ FVal.ofWord 0x007FFFFF = .zero false ∧ FVal.ofWord 0x3FC00000 = .num (3 / 2) ∧ FVal.ofWord 0x40100000 = .num (9 / 4)
    ∧ FVal.ofWord 0xBF400000 = .num (-3 / 4) ∧ FVal.ofWord 0x0D800000 = .num (1 / 2 ^ 100)
    ∧ FVal.ofWord 0x7F7FFFFF = .num ((2 ^ 24 - 1) * 2 ^ 104) := by
  and_intros <;> decide +kernel

/-- Exact results at the ends of the four ranges of `rounds`: 0, a product below the normal range, the least normal number, one
that overflows; and an estimate's operand at its bound. -/
theorem witness_Binary32Ranges : ((3 / 2 : Rat) - 3 / 2 = 0)
    ∧ (let x : Rat := 1 / 2 ^ 100 * (1 / 2 ^ 100); x ≠ 0 ∧ |x| < 1 / 2 ^ 126 - 1 / 2 ^ 150)
    ∧ (let x : Rat := 1 / 2 ^ 126; 1 / 2 ^ 126 ≤ |x| ∧ |x| < (2 ^ 25 - 1) * 2 ^ 103)
    ∧ ((2 ^ 25 - 1) * 2 ^ 103 ≤ |((2 ^ 24 - 1) * 2 ^ 104 : Rat) * (3 / 2)|) ∧ |(2 ^ 125 : Rat)| ≤ 2 ^ 125 ∧ (31 : Nat) < 32 := by
  and_intros <;> norm_num [abs_of_pos]

/-- A reserved field value for each opcode that has one; a word past the program, an uncorrectable one, a spent budget; and an
engine of a portal that is not enabled, with a task. -/
theorem witness_EngineExceptions : (E).dev.wordReady ev 1 ∧ (E).dev.eng[(0 : Slot)].alu none false alu1s.toNat = .ok pp ∧ collide pp = false
    ∧ ((1 : BitVec 5).toNat == 0) = false ∧ decide ((4 : BitVec 5).toNat ≤ 3) = false ∧ decide ((8 : BitVec 5).toNat ≤ 7) = false
    ∧ (E (fun e => { e with pc := 3072 })).dev.taskOn 0 = some tk ∧ 3071 < (E (fun e => { e with pc := 3072 })).dev.eng[(0 : Slot)].pc
    ∧ (E (fun e => { e with pc := 3071 })).dev.taskOn 0 = some tk ∧ (E (fun e => { e with pc := 3071 })).dev.eng[(0 : Slot)].pc ≤ 3071
    ∧ (E (fun e => { e with words := 99 })).dev.taskOn 0 = some tk
    ∧ tk.wcet ≤ (E (fun e => { e with words := 99 })).dev.eng[(0 : Slot)].words + 1 ∧ ({ ev with fetch := .bad } : WordEnv).fetch = .bad
    ∧ (let d := (E id [(Reg.PRT_CFG 0, 3)]).dev
       (d.enabled 0 && d.drives 0) = false ∧ d.taskOn 0 = some tk ∧ tk.id < 64 ∧ 15 < 16 ∧ d.eng[(0 : Slot)].pc < 4096 ∧ (1 : Slot) ≠ 0) :=
  ⟨(ready 1 (by decide)).1, slots_ok.1, (apart 0 0 false).2.2.2.2.2.2.2, by and_intros <;> decide +kernel⟩

/-- Beside v5 and v6, a load into v8, into v30 and v31, and a store. -/
theorem apart_mem (x y : Word) : collide (pp ++ qq ++ [.v 8 x]) = false ∧ collide (pp ++ qq ++ [.v 30 x, .v 31 y]) = false
    ∧ collide (pp ++ qq ++ []) = false ∧ collide (pp ++ qq) = false := by
  have h : pp = [.v 5 (match pp with | [.v 5 z] => z | _ => 0)] := by decide +kernel
  have g : qq = [.v 6 (match qq with | [.v 6 z] => z | _ => 0)] := by decide +kernel
  rw [h, g]; simp [collide, Put.key]

/-- Words 0 and 4 095 by pages, and by the table pointers 0 and 1 whose cursors are 3 and −1. -/
theorem witness_DataMemory : (EI).dev.wordReady ev 1 ∧ (EI).dev.eng[(0 : Slot)].alu none false alu1s.toNat = .ok pp
    ∧ (EI).dev.eng[(0 : Slot)].alu none false qs1.toNat = .ok qq
    ∧ ((0 : BitVec 2).toNat * 512 + (0 : BitVec 9).toNat = 0 ∧ 2048 + (3 : BitVec 2).toNat * 512 + (511 : BitVec 9).toNat = 4095)
    ∧ (let i : Int := ((EI).dev.eng[(0 : Slot)].rt 1).cur.toInt + 1; 0 ≤ i ∧ i < 4096)
    ∧ (∀ x, collide (pp ++ qq ++ [.v 8 x]) = false ∧ collide (pp ++ qq ++ []) = false)
    ∧ Cells.wf zeroCell ([(3, 5), (9, 1)] : Cells 32) = true :=
  ⟨(ready 1 (by decide)).2, slots_ok.2.1, slots_ok.2.2, by decide, by decide +kernel,
    fun x => ⟨(apart_mem x 0).1, (apart_mem x 0).2.2.1⟩, by decide +kernel⟩

/-- A FIXED window of 64 bytes at 100h, its first and last elements from a cursor of 3; the IO words of the loads and stores. -/
theorem witness_TablesAndIoSpace : (EI).dev.wordReady ev 3 ∧ (EI).dev.wordReady ev 5 ∧ (EI).dev.wordReady ev 2 ∧ (EI).dev.wordReady ev 1
    ∧ (EI).dev.eng[(0 : Slot)].alu none false alu1s.toNat = .ok pp ∧ (EI).dev.eng[(0 : Slot)].alu none false qs1.toNat = .ok qq
    ∧ ((EI).dev.eng[(0 : Slot)].rt 0).desc = some 0 ∧ im.descs[0]? = some (.fixed false 0x100 64)
    ∧ (let c := ((EI).dev.eng[(0 : Slot)].rt 0).cur.toInt
       0 ≤ c - 3 ∧ (c - 3 + 1) * 4 ≤ 64 ∧ (c + 12 + 1) * 4 ≤ 64 ∧ (c + 28 + 1) * 2 ≤ 64 ∧ ¬(c + 28 + 2) * 2 ≤ 64)
    ∧ 30 % 2 = 0 ∧ (∀ x y, collide (pp ++ qq ++ [.v 8 x]) = false ∧ collide (pp ++ qq ++ [.v 30 x, .v 31 y]) = false
        ∧ collide (pp ++ qq) = false)
    ∧ (∀ off ∈ [3, 15, 16, 27, 72, 83], off = 3 ∨ off = 15 ∨ 16 ≤ off ∧ off ≤ 27 ∨ 72 ≤ off ∧ off ≤ 83)
    ∧ (EI id [(Reg.CVN_CFG, 1)]).dev.solo = false ∧ (EI id [(Reg.CVN_CFG, 1)]).dev.taskOn 0 = some tk
    ∧ (EI id [(Reg.PRT_CFG 0, 0)]).dev.slideAx 0 = some 0 ∧ (EI id [(Reg.PRT_CFG 0, 0)]).dev.taskOn 0 = some tk
    ∧ (∀ off ∈ [65, 122], 65 ≤ off ∧ off ≤ 122) ∧ (∀ off ∈ [41, 55], 41 ≤ off ∧ off ≤ 55) ∧ ev.read = .good :=
  ⟨(ready 3 (by decide)).2, (ready 5 (by decide)).2, (ready 2 (by decide)).2, (ready 1 (by decide)).2, slots_ok.2.1, slots_ok.2.2,
    by decide +kernel, by decide, by decide +kernel, by decide, fun x y => ⟨(apart_mem x y).1, (apart_mem x y).2.1, (apart_mem x y).2.2.2⟩,
    by and_intros <;> decide +kernel⟩

/-- A MOVI into v9; a FEED of an ADD and of a PAND, whose result is the same for both free predicates in its shape; a FEED with a
reserved field; END with no task left, and with a further task whose selector is 3. -/
theorem witness_LiteralsAndTaskEnd : (EI).dev.wordReady ev 1 ∧ (∀ x, collide (pp ++ [.v 8 x]) = false)
    ∧ (let a : BitVec 21 := BitVec.ofNat 21 (2 * 2 ^ 15 + 5 * 2 ^ 10 + 32)
       a.toNat % 32 = 0 ∧ ∀ f, (EI).dev.eng[(0 : Slot)].alu (some 77) f a.toNat = .ok (fd f) ∧ collide (fd f) = false)
    ∧ alu1s.toNat % 32 ≠ 0 ∧ (∀ f, (EI).dev.eng[(0 : Slot)].alu (some 77) f alu1s.toNat = .ok (fd2 f) ∧ collide (fd2 f) = false)
    ∧ (31 : Nat) < 32 ∧ ev.fetch = .good ∧ ev.sel = .good ∧ ev.entry = .good
    ∧ (EI).dev.taskOn 0 = some tk ∧ (EI).dev.eng[(0 : Slot)].pc ≤ 3071 ∧ (EI).dev.eng[(0 : Slot)].words + 1 ≤ tk.wcet
    ∧ (EI).dev.eng[(0 : Slot)].rest = [] ∧ collide (pp ++ qq) = false
    ∧ (let d := (EI (fun e => { e with rest := [tk2, tk], data := [(5, 0x13)] })).dev
       d.taskOn 0 = some tk ∧ d.eng[(0 : Slot)].rest = tk2 :: [tk]
         ∧ (Cells.read zeroCell d.eng[(0 : Slot)].data tk2.selAddr).toNat % 16 ≤ tk2.nsel) := by
  refine ⟨(ready 1 (by decide)).2, fun x => ?_, by and_intros <;> decide +kernel⟩
  · have h : pp = [.v 5 (match pp with | [.v 5 z] => z | _ => 0)] := by decide +kernel
    rw [h]; simp [collide, Put.key]

/-! ### Witnesses of the clauses that the generated cases leave out -/

/-- A journal half 75 % full (R333): its last entry on page 3 071 of 4 096. -/
theorem witness_CompactionDue :
    let d := (R [] id (J fun j => { j with half0 := [⟨3, .imageEnd, true, 3071, 0, 0⟩] })).dev
    75 ≤ d.jnl.fill ∧ d.jnl.compacting = false ∧ d.jnl.abandoned = false ∧ d.rcd.pf = .idle := by decide +kernel

/-- Bank A in force and bank B's swap pending. -/
theorem witness_BankSwapDue : let d := (B [(Reg.SAX_BANK_CTRL 0, 0x80000)]).dev
    d.rdB (Reg.SAX_BANK_CTRL 0) 19 = true ∧ d.bankB 0 = !true := by decide +kernel

/-- A bundle that does not verify: an empty slot, code 01h. -/
theorem witness_BundleRefused : let d := (Z [] (fun x => { x with verifying := true })).dev
    d.sec.verifying = true ∧ d.verify (d.slotOf d.loadSlot) = (1, 0, 0) ∧ (1 : Nat) ≠ 0 := by decide +kernel

/-- A bundle of two sections, a map of 8 bytes and a configuration of 8 bytes, with their SHA-256 (least significant byte
first as a number), loaded whole under owner key 0. -/
def digA : Nat := 0x61a02971e84e28f134e473523bacb51c2210ad117d963709a3e5061a82c8ab04
def digB : Nat := 0x10037eaa45a6ad62dc78c8ed90b103bfd2ab7874fd08e7b5f2f1c4f8db0fae10
def secA : List Byte := List.replicate 8 1
def secB : List Byte := List.replicate 8 2
def bunBytes : List Byte :=
  leBytes 4 0x31424847 ++ leBytes 2 1 ++ leBytes 2 256 ++ leBytes 4 272 ++ leBytes 4 0x1216 ++ leBytes 4 0x20000 ++ List.replicate 76 0
    ++ ([3, 0, 0, 0] ++ leBytes 4 256 ++ leBytes 4 8 ++ leBytes 4 0 ++ leBytes 32 digA)
    ++ ([4, 0, 0, 0] ++ leBytes 4 264 ++ leBytes 4 8 ++ leBytes 4 0 ++ leBytes 32 digB) ++ List.replicate 64 0 ++ secA ++ secB
def bun : BSlot := { bytes := Cells.writeRun zeroCell 1 [] 0 bunBytes, len := 272, written := [(0, 200), (200, 72)] }
def mpOk : IlkMap := { mp with slots := ⟨true, false, false, 0, 127, 1, 127, 127, 2⟩ :: List.replicate 11 ⟨false, false, false, 127, 127, 127, 127, 127, 127⟩ }
def bunDev : Dev := (Z [] (fun x => { x with verifying := true, slotA := bun, otp := { x.otp with
  log := [1], owner := [(Config.sha256 (List.replicate 64 0), 1)] } })).dev

/-- A slot that passes every check of R340 answers code 0. -/
theorem verify_ok (d : Dev) (s : BSlot) (h1 : s.formatOk = true)
    (h2 : ¬(s.total ≠ s.len ∨ covered s.total s.written (s.written.length + 1) 0 = false)) (h3 : ¬(s.num 12 4 ≠ 0x1216 ∨ 3 < s.num 16 1))
    (h4 : ownerForBundle d.lcState = true) (h5 : ¬(3 < s.keySlot ∨ d.keyState s.keySlot ≠ 1 ∨ Config.sha256 s.pubkey ≠ d.keyHash s.keySlot))
    (h6 : Config.ecdsaValid s.pubkey (Config.sha256 (s.sub 0 (s.hdrLen - 64))) (s.sub (s.hdrLen - 64) 64) = true)
    (h7 : ¬s.hdrSvn < d.sec.otp.svn) (h8 : s.badSection (fun x => Config.sha256 (x.bytes s) == x.digest || (x.typ == 5 && s.wrapped.isSome)) = none)
    (h9 : d.decryptFails s = none) (h10 : s.badCount = none)
    (h11 : d.sectionsFailing s 4 (fun b => (Config.configOf b).isSome) ++ d.sectionsFailing s 2 (fun b => (Config.banksOf b).isSome) = [])
    (h12 : d.engineFails s = []) (h13 : d.sectionsFailing s 3 (fun b => ((lockMap b).map IlkMap.ok).getD false) = []) :
    d.verify s = (0, 0, 0) := by
  simp only [Dev.verify, h1, h4, h6, h8, h9, h10, h11, h12, h13, if_neg h2, if_neg h3, if_neg h5, if_neg h7]
  rfl

/-- Where its digests and its signature check and its sections parse (functions that `Config` leaves open), it verifies. -/
theorem witness_BundleVerifies (c : ConfigImage) (ha : Config.sha256 secA = digA) (hb : Config.sha256 secB = digB)
    (hs : Config.ecdsaValid (List.replicate 64 0) (Config.sha256 (bunBytes.take 192)) (List.replicate 64 0) = true)
    (hm : Config.ilkMapOf secA = some mpOk) (hc : Config.configOf secB = some c) :
    bunDev.sec.verifying = true ∧ bunDev.verify (bunDev.slotOf bunDev.loadSlot) = (0, 0, 0) := by
  refine ⟨by decide +kernel, ?_⟩
  have h0 : bunDev.slotOf bunDev.loadSlot = bun := by decide +kernel
  have s1 : bun.sections = [⟨3, 0, false, 256, 8, digA⟩, ⟨4, 0, false, 264, 8, digB⟩] := by decide +kernel
  have b1 : bun.sub 256 8 = secA := by decide +kernel
  have b2 : bun.sub 264 8 = secB := by decide +kernel
  have p1 : bun.pubkey = List.replicate 64 0 := by decide +kernel
  have g1 : bun.sub 0 (bun.hdrLen - 64) = bunBytes.take 192 ∧ bun.sub (bun.hdrLen - 64) 64 = List.replicate 64 0 := by
    decide +kernel
  have k1 : bunDev.keyHash bun.keySlot = Config.sha256 (List.replicate 64 0) := by
    have : bun.keySlot = 0 := by decide +kernel
    rw [this]; rfl
  have e1 : bun.formatOk = true ∧ ¬(bun.total ≠ bun.len ∨ covered bun.total bun.written (bun.written.length + 1) 0 = false)
      ∧ ¬(bun.num 12 4 ≠ 0x1216 ∨ 3 < bun.num 16 1) ∧ bun.keySlot = 0 ∧ bun.hdrSvn = 0 ∧ bun.badCount = none ∧ bun.num 12 4 = 0x1216 ∧ mpOk.ok = true := by
    decide +kernel
  have e2 : bunDev.lcState = 1 ∧ bunDev.keyState 0 = 1 ∧ bunDev.sec.otp.svn = 0 := by decide +kernel
  have ok' : ({ mpOk with digest := Config.sha256 secA } : IlkMap).ok = true := e1.2.2.2.2.2.2.2
  rw [h0]
  refine verify_ok _ _ e1.1 e1.2.1 e1.2.2.1 ?_ ?_ ?_ ?_ ?_ ?_ e1.2.2.2.2.2.1 ?_ ?_ ?_
  · rw [e2.1]; rfl
  · rw [k1, p1, e1.2.2.2.1, e2.2.1]; simp
  · rw [p1, g1.1, g1.2]; exact hs
  · rw [e1.2.2.2.2.1, e2.2.2]; decide
  · simp [BSlot.badSection, s1, Section.bytes, b1, b2, ha, hb]
  · simp [Dev.decryptFails, BSlot.keyWrap, BSlot.badSection, s1, Section.plain]
  · simp [Dev.sectionsFailing, s1, Section.plain, Section.bytes, b2, hc]
  · simp [Dev.engineFails, s1]
  · simp [Dev.sectionsFailing, lockMap, s1, Section.plain, Section.bytes, b1, hm, ok']

/-- A refused life-cycle order in state BLANK (R349), and an order that only awaits the signature check: with an accepted
signature and the vendor root as its key it is code 0. -/
def orderDev (root : Nat) : Dev := (Z [(Reg.SEC_MSG_BUF 2, 3)] (fun x => { x with otp := { x.otp with vendorRoot := root } })).dev

theorem witness_OrderRefused : let d := (Z [(Reg.SEC_MSG_BUF 2, 0)]).dev
    d.takesFrames = true ∧ d.lcState = 0 ∧ (∃ o, d.lifeOrder = some o ∧ d.orderCheck o ≠ 0) :=
  ⟨by decide +kernel, by decide +kernel, _, rfl, by decide +kernel⟩

/-- A token of 160 bytes for one second of life in state PROVISIONED. -/
def tokDev : Dev := (Z [(Reg.SEC_MSG_BUF 7, 1)] 
  (fun x => { x with job := some .token, chal := some (List.replicate 16 0, 0, 0), otp := { x.otp with log := [1], owner := [(0, 1), (0, 0), (0, 0), (0, 0)] } })).dev

/-- Where its signature checks (the check is an uninterpreted function of Config), the token passes. -/
theorem witness_TokenAccepted
    (h : Config.ecdsaValidFor 0 (Config.sha256 (List.replicate 28 0 ++ [1] ++ List.replicate 67 0)) (List.replicate 64 0) = true) :
    tokDev.sec.job = some .token ∧ (tokDev.upTo 0).tokenCheck = 0 := by
  refine ⟨rfl, ?_⟩
  generalize e : tokDev.upTo 0 = d
  have hc : d.sec.chal = some (List.replicate 16 0, 0, 0) := by subst e; decide +kernel
  have ht : d.msgBytes 0 160 = List.replicate 28 0 ++ [1] ++ List.replicate 131 0 := by subst e; decide +kernel
  have hd : d.deviceId = List.replicate 8 0 := by subst e; decide +kernel
  have hl : d.lcState = 1 := by subst e; decide +kernel
  have ho : d.sec.tokenAt = 0 := by subst e; decide +kernel
  have hk : d.keyState 0 = 1 ∧ d.keyHash 0 = 0 := by subst e; decide +kernel
  simp only [Dev.tokenCheck, hc, ht, hd, hl, ho]
  have a1 : leNat ((((List.replicate 28 0 ++ [1] ++ List.replicate 131 0 : List Byte).drop 30)).take 1) = 0 := by decide
  have a2 : leNat ((((List.replicate 28 0 ++ [1] ++ List.replicate 131 0 : List Byte).drop 28)).take 2) = 1 := by decide
  have a3 : (List.replicate 28 0 ++ [1] ++ List.replicate 131 0 : List Byte).take 96 = List.replicate 28 0 ++ [1] ++ List.replicate 67 0 := by decide
  have a4 : (List.replicate 28 0 ++ [1] ++ List.replicate 131 0 : List Byte).drop 96 = List.replicate 64 0 := by decide
  have a5 : ¬((List.replicate 28 0 ++ [1] ++ List.replicate 131 0 : List Byte).take 8 ≠ List.replicate 8 0
      ∨ ((List.replicate 28 0 ++ [1] ++ List.replicate 131 0 : List Byte).drop 8).take 16 ≠ List.replicate 16 0) := by decide
  rw [if_neg a5, a1, a2, a3, a4, hk.1, hk.2, if_neg (by decide : ¬(0 : Nat) = 255),
    if_neg (by decide : ¬(0 : Nat) = 255), h]
  rfl

/-- An order to SCRAPPED in state BLANK, signed with the vendor root. -/
def ordDev : Dev := (Z [(Reg.SEC_MSG_BUF 2, 4), (Reg.PRT_CFG 0, 3)]
  (fun x => { x with otp := { x.otp with vendorRoot := Config.sha256 (List.replicate 64 0) } })).dev

/-- Where its signature checks, the order is accepted. -/
theorem witness_OrderAccepted
    (h : Config.ecdsaValid (List.replicate 64 0) (Config.sha256 (List.replicate 8 0 ++ [4] ++ List.replicate 65 0)) (List.replicate 64 0) = true) :
    ordDev.takesFrames = true ∧ ordDev.lcState = 0 ∧ ∃ o, ordDev.lifeOrder = some o ∧ ordDev.orderCheck o = 0 := by
  refine ⟨rfl, rfl, ⟨List.replicate 8 0, 4, 0, [], List.replicate 64 0, List.replicate 8 0 ++ [4] ++ List.replicate 65 0, List.replicate 64 0⟩,
    by decide +kernel, ?_⟩
  have hd : ordDev.deviceId = List.replicate 8 0 := by decide +kernel
  have hl : ordDev.lcState = 0 := rfl
  have hv : ordDev.sec.otp.vendorRoot = Config.sha256 (List.replicate 64 0) := rfl
  have hs : slots.any (fun p => ordDev.enabled p && ordDev.drives p && !([0, 1, 9, 10].contains (ordDev.pst p))) = false := by decide +kernel
  have hm : ordDev.ilk.map.isSome = false := rfl
  have hb : (ordDev.sec.loading || ordDev.sec.verifying || ordDev.jnl.compacting) = false := rfl
  have hg : ordDev.sec.otp.log = [] := rfl
  simp only [Dev.orderCheck, Dev.orderKeyOk, hd, hl, hv, hm, hb, hg, h, hs]
  simp [lcAllowed, vendorForOrder]

/-- Where the layout of the order and its signature (both uninterpreted) say so, a key order fills slot 1 under key 0. -/
theorem witness_KeyOrderAccepted (h : Config.keyOrderOf (tokDev.msgBytes 0 1024) = some ⟨1, some 5, 0, [1], [2]⟩)
    (g : Config.ecdsaValidFor 0 (Config.sha256 [1]) [2] = true) :
    let o : KeyOrder := ⟨1, some 5, 0, [1], [2]⟩
    tokDev.takesFrames = true ∧ tokDev.hasRight 8 = true ∧ 1 ≤ tokDev.lcState ∧ tokDev.lcState ≤ 3 ∧ Config.keyOrderOf (tokDev.msgBytes 0 1024) = some o
      ∧ o.fill = some 5 ∧ o.slot ≤ 3 ∧ o.signer ≠ o.slot ∧ o.signer ≤ 3 ∧ tokDev.keyState o.signer = 1 ∧ tokDev.keyState o.slot = 0
      ∧ Config.ecdsaValidFor (tokDev.keyHash o.signer) (Config.sha256 o.signed) o.sig = true := by
  have k : tokDev.keyHash 0 = 0 := by decide +kernel
  refine ⟨rfl, by decide +kernel, by decide +kernel, by decide +kernel, h, rfl, by decide, by decide, by decide, by decide +kernel,
    by decide +kernel, ?_⟩
  rw [k]; exact g

/-! ### Witnesses, clause by clause -/

theorem witness_BeforeDone :
    (let s : State := S { boot := { st := .load } }; s.dev.boot.st ≠ BootSt.reset ∧ s.dev.boot.st ≠ BootSt.wipe
      ∧ s.dev.boot.st ≠ BootSt.keys ∧ (s.dev.pwr.st = PwrSt.run ∨ s.dev.pwr.st = PwrSt.hold) ∧ s.dev.pwr.oor.getD 3 false = false)
    ∧ (let s : State := S { boot := { st := .done } }; s.dev.boot.st ≠ BootSt.reset ∧ s.dev.boot.st ≠ BootSt.wipe
      ∧ s.dev.boot.st ≠ BootSt.keys ∧ (s.dev.pwr.st = PwrSt.run ∨ s.dev.pwr.st = PwrSt.hold) ∧ s.dev.pwr.oor.getD 3 false = false)
    ∧ (let t : Nat := 10; let hcrc : Word := 5; let a : Nat := 0x8000; let len : Nat := 8; let data : List Byte := [0,0,0,0,0,0,0,0];
      let bad : List (Nat × Ecc) := []; let ctr : BitVec 32 := 1; let mac : List Byte := []; let op : BitVec 8 := 4;
      let i : Instr := .writeFrame 10 5 0x8000 [0,0,0,0,0,0,0,0]; let s : State := S { boot := { st := .wipe } };
      (s.dev.boot.st = BootSt.wipe ∨ s.dev.boot.st = BootSt.keys)
      ∧ i ∈ [Instr.readFrame t hcrc a len bad, Instr.writeFrame t hcrc a data, Instr.writeGated t hcrc a data ctr mac, Instr.statusFrame t hcrc op a len])
    ∧ (let t : Nat := 10; let hcrc : Word := crc32c (hostPhase 4 0x8000 8 [] []); let a : Nat := 0x8000; let len : Nat := 8;
      let data : List Byte := [0,0,0,0,0,0,0,0]; let bad : List (Nat × Ecc) := []; let ctr : BitVec 32 := 1; let mac : List Byte := [];
      let op : BitVec 8 := 4; let i : Instr := .statusFrame 10 (crc32c (hostPhase 4 0x8000 8 [] [])) 4 0x8000 8;
      let s : State := S { boot := { st := .keys } }; (s.dev.boot.st = BootSt.wipe ∨ s.dev.boot.st = BootSt.keys)
      ∧ i ∈ [Instr.readFrame t hcrc a len bad, Instr.writeFrame t hcrc a data, Instr.writeGated t hcrc a data ctr mac, Instr.statusFrame t hcrc op a len])
    ∧ (let a : Nat := 0x8000; let n : Nat := 1; let s : State := S (dv [(Reg.TBS_TICK_CFG, 0)] { boot := { st := .load } });
      s.dev.takesFrames = true ∧ s.dev.up = false ∧ 1 ≤ n ∧ n ≤ 1024 ∧ (∀ k < n, (8192 ≤ a + 4 * k
      ∧ a + 4 * k < 16384 ∨ 32768 ≤ a + 4 * k) ∧ (s.dev.inquiry = true → a + 4 * k < 458752 ∨ 463104 ≤ a + 4 * k)) ∧ a % 4 = 0
      ∧ inOneRow a (4 * n) = true)
    ∧ (let a : Nat := 0x71000; let n : Nat := 64; let s : State := S (dv [(Reg.REC_WIN_CFG, 1)] { boot := { st := .engines } });
      s.dev.takesFrames = true ∧ s.dev.up = false ∧ 1 ≤ n ∧ n ≤ 1024 ∧ (∀ k < n, (8192 ≤ a + 4 * k
      ∧ a + 4 * k < 16384 ∨ 32768 ≤ a + 4 * k) ∧ (s.dev.inquiry = true → a + 4 * k < 458752 ∨ 463104 ≤ a + 4 * k)) ∧ a % 4 = 0
      ∧ inOneRow a (4 * n) = true)
    ∧ (let w : HostWrite := ⟨0x8000, [1, 2], 1, 200, none⟩; let rest : List HostWrite := [];
      let s : State := { dev := { boot := { st := .load } }, host := { queue := [⟨0x8000, [1, 2], 1, 200, none⟩] } };
      s.dev.boot.st ≠ BootSt.reset ∧ s.dev.boot.st ≠ BootSt.wipe ∧ s.dev.boot.st ≠ BootSt.keys ∧ s.dev.up = false ∧ (8192 ≤ w.addr
      ∧ w.addr < 16384 ∨ 32768 ≤ w.addr) ∧ (s.dev.inquiry = true → w.addr < 458752 ∨ 463104 ≤ w.addr) ∧ s.host.queue = w :: rest
      ∧ w.gated = none)
    ∧ (let w : HostWrite := ⟨Reg.TBS_TICK_CFG, [1], 1, 200, none⟩; let rest : List HostWrite := [];
      let s : State := { dev := { boot := { st := .stopped } }, host := { queue := [⟨Reg.TBS_TICK_CFG, [1], 1, 200, none⟩] } };
      s.dev.boot.st ≠ BootSt.reset ∧ s.dev.boot.st ≠ BootSt.wipe ∧ s.dev.boot.st ≠ BootSt.keys ∧ s.dev.up = false ∧ (8192 ≤ w.addr
      ∧ w.addr < 16384 ∨ 32768 ≤ w.addr) ∧ (s.dev.inquiry = true → w.addr < 458752 ∨ 463104 ≤ w.addr) ∧ s.host.queue = w :: rest
      ∧ w.gated = none)
    ∧ (let gate : Bool := true; let on : Bool := true; let high : Bool := true; let bankB : Bool := true; let v : Word := 5;
      let tgt : Word := 5; let attr : Word := 5; let tgt2 : Word := 5; let mask : Word := 5; let p : Slot := 0; let a : Axis := 0;
      let c : Enc := 0; let ch : Ch := 0; let n : Sax := 0; let x : Stx := 0; let w : Fin 3 := 0; let h : Fin 2 := 0; let i : Fin 4 := 0;
      let adr : Nat := 0x21000; let row : Instr := .bankWrite 0x21000 5; let s : State := S {}; let d : Dev := s.dev.begin;
      row ∈ [Instr.openCmd p, Instr.closeCmd p, Instr.faultClear p, Instr.isolate p gate, Instr.restore p gate, Instr.push a tgt attr tgt2, Instr.retarget a tgt attr tgt2, Instr.stop a, Instr.qstop a, Instr.halt a, Instr.realign a, Instr.home a, Instr.compareArm a i on, Instr.latchArm a on, Instr.uncClr c, Instr.driftClr c, Instr.servoEn n on, Instr.fltAck n high, Instr.ocAck n, Instr.dsmAck n, Instr.sealBank n, Instr.bankSwap n bankB gate, Instr.bankWrite adr v, Instr.traceArm, Instr.traceStop, Instr.manual, Instr.bypass p on gate, Instr.obsDriftClr p, Instr.stepEn x on, Instr.shortAck x, Instr.stepDsmAck x, Instr.restart p, Instr.statClr p, Instr.inEvenWrite w v, Instr.hsHreq h v, Instr.hsClr ch, Instr.surrenderGo gate, Instr.cvnXfer mask gate, Instr.flush, Instr.cursorLo v, Instr.seekOldest, Instr.seekNewest, Instr.toleranceWrite w v]
      ∧ d.hostUp = false
      ∧ (row = Instr.cursorLo v ∨ row = Instr.seekOldest ∨ row = Instr.seekNewest → d.takesFrames = false ∨ d.inquiry = false))
    ∧ (let gate : Bool := true; let on : Bool := true; let high : Bool := true; let bankB : Bool := true; let v : Word := 5;
      let tgt : Word := 5; let attr : Word := 5; let tgt2 : Word := 5; let mask : Word := 5; let p : Slot := 0; let a : Axis := 0;
      let c : Enc := 0; let ch : Ch := 0; let n : Sax := 0; let x : Stx := 0; let w : Fin 3 := 0; let h : Fin 2 := 0; let i : Fin 4 := 0;
      let adr : Nat := 0x21000; let row : Instr := .inEvenWrite 0 5;
      let s : State := S (up [] (({} : Dev).modPwr fun x => { x with oor := [false, false, false, true] })); let d : Dev := s.dev.begin;
      row ∈ [Instr.openCmd p, Instr.closeCmd p, Instr.faultClear p, Instr.isolate p gate, Instr.restore p gate, Instr.push a tgt attr tgt2, Instr.retarget a tgt attr tgt2, Instr.stop a, Instr.qstop a, Instr.halt a, Instr.realign a, Instr.home a, Instr.compareArm a i on, Instr.latchArm a on, Instr.uncClr c, Instr.driftClr c, Instr.servoEn n on, Instr.fltAck n high, Instr.ocAck n, Instr.dsmAck n, Instr.sealBank n, Instr.bankSwap n bankB gate, Instr.bankWrite adr v, Instr.traceArm, Instr.traceStop, Instr.manual, Instr.bypass p on gate, Instr.obsDriftClr p, Instr.stepEn x on, Instr.shortAck x, Instr.stepDsmAck x, Instr.restart p, Instr.statClr p, Instr.inEvenWrite w v, Instr.hsHreq h v, Instr.hsClr ch, Instr.surrenderGo gate, Instr.cvnXfer mask gate, Instr.flush, Instr.cursorLo v, Instr.seekOldest, Instr.seekNewest, Instr.toleranceWrite w v]
      ∧ d.hostUp = false
      ∧ (row = Instr.cursorLo v ∨ row = Instr.seekOldest ∨ row = Instr.seekNewest → d.takesFrames = false ∨ d.inquiry = false))
    ∧ (let g : Bool := true; let k : Fin 2 := 0; let v : Word := 5; let ofs : Nat := 0; let bytes : List Byte := [1,2,3,4];
      let row : Instr := .commitCmd; let s : State := S {};
      row ∈ [Instr.commitCmd, Instr.pendClear k v, Instr.enWrite k v, Instr.swset, Instr.loadBegin g, Instr.loadWinWrite ofs bytes g, Instr.loadEnd g, Instr.loadAbort g, Instr.keyOrder g, Instr.revert g, Instr.svnCommit g, Instr.sessEnd g, Instr.certRead, Instr.attest, Instr.chalReq, Instr.sessStart, Instr.order g, Instr.resetGo]
      ∧ s.dev.begin.takesFrames = false)
    ∧ (let g : Bool := true; let k : Fin 2 := 0; let v : Word := 5; let ofs : Nat := 0; let bytes : List Byte := [1,2,3,4];
      let row : Instr := .svnCommit true;
      let s : State := S (up [] (({} : Dev).modPwr fun x => { x with oor := [false, false, false, true] }));
      row ∈ [Instr.commitCmd, Instr.pendClear k v, Instr.enWrite k v, Instr.swset, Instr.loadBegin g, Instr.loadWinWrite ofs bytes g, Instr.loadEnd g, Instr.loadAbort g, Instr.keyOrder g, Instr.revert g, Instr.svnCommit g, Instr.sessEnd g, Instr.certRead, Instr.attest, Instr.chalReq, Instr.sessStart, Instr.order g, Instr.resetGo]
      ∧ s.dev.begin.takesFrames = false) := by
  repeat refine ⟨by decide +kernel, ?_⟩
  decide +kernel

theorem witness_PortalCommandsReceived :
    (let p : Slot := 0; let g : Bool := true; let q : Instr × Nat := q 3;
      let s : State := S (up [(Reg.PRT_CFG 0, 3), (Reg.ENG_STATUS 0, 1)]); let d : Dev := s.dev.begin;
      q ∈ [(Instr.openCmd p, 1), (Instr.closeCmd p, 2), (Instr.faultClear p, 3), (Instr.isolate p g, 4), (Instr.restore p g, 5)]
      ∧ d.hostUp = true ∧ d.engRun p = true ∧ d.drives p = true ∧ d.enabled p = false)
    ∧ (let p : Slot := 0; let g : Bool := true; let q : Instr × Nat := q 4;
      let s : State := S (up [(Reg.PRT_CFG 0, 3), (Reg.ENG_STATUS 0, 1)]); let d : Dev := s.dev.begin;
      q ∈ [(Instr.openCmd p, 1), (Instr.closeCmd p, 2), (Instr.faultClear p, 3), (Instr.isolate p g, 4), (Instr.restore p g, 5)]
      ∧ d.hostUp = true ∧ d.engRun p = true ∧ d.drives p = true ∧ d.enabled p = false)
    ∧ (let p : Slot := 0; let g : Bool := true; let q : Instr × Nat := q 0;
      let s : State := S (up [(Reg.PRT_CFG 0, 2), (Reg.ENG_STATUS 0, 1), (Reg.PRT_STATE 0, 0x10000)]); let d : Dev := s.dev.begin;
      q ∈ [(Instr.openCmd p, 1), (Instr.closeCmd p, 2), (Instr.faultClear p, 3), (Instr.isolate p g, 4), (Instr.restore p g, 5)]
      ∧ d.hostUp = true ∧ d.engRun p = true ∧ d.drives p = false)
    ∧ (let p : Slot := 0; let g : Bool := true; let q : Instr × Nat := q 3;
      let s : State := S (up [(Reg.PRT_CFG 0, 0), (Reg.ENG_STATUS 0, 1), (Reg.PRT_STATE 0, 0x30000)]); let d : Dev := s.dev.begin;
      q ∈ [(Instr.openCmd p, 1), (Instr.closeCmd p, 2), (Instr.faultClear p, 3), (Instr.isolate p g, 4), (Instr.restore p g, 5)]
      ∧ d.hostUp = true ∧ d.engRun p = true ∧ d.drives p = false)
    ∧ (let p : Slot := 0; let g : Bool := true; let q : Instr × Nat := q 1;
      let s : State := S (up [(Reg.PRT_CFG 0, 2), (Reg.ENG_STATUS 0, 0), (Reg.PRT_STATE 0, 0x10000)]); let d : Dev := s.dev.begin;
      q ∈ [(Instr.openCmd p, 1), (Instr.closeCmd p, 2), (Instr.faultClear p, 3), (Instr.isolate p g, 4), (Instr.restore p g, 5)]
      ∧ d.hostUp = true ∧ d.engRun p = false)
    ∧ (let p : Slot := 0; let g : Bool := true; let q : Instr × Nat := q 3;
      let s : State := S (up [(Reg.PRT_CFG 0, 2), (Reg.ENG_STATUS 0, 2), (Reg.PRT_STATE 0, 0)]); let d : Dev := s.dev.begin;
      q ∈ [(Instr.openCmd p, 1), (Instr.closeCmd p, 2), (Instr.faultClear p, 3), (Instr.isolate p g, 4), (Instr.restore p g, 5)]
      ∧ d.hostUp = true ∧ d.engRun p = false) := by
  repeat refine ⟨by decide +kernel, ?_⟩
  decide +kernel

theorem witness_PortalCommandsObeyed :
    (let p : Slot := 0; let g : Bool := false; let s : State := P 1; let d : Dev := s.dev.begin; g = false ∧ d.hostUp = true
      ∧ d.engRun p = true ∧ d.enabled p = true ∧ d.drives p = true ∧ ((d.cmdWrite p 1 g).hkPrepare p).portal[p].evaluated = true
      ∧ ((d.cmdWrite p 1 g).hkPrepare p).roleOn p roIsolate = false ∧ ((d.cmdWrite p 1 g).hkPrepare p).portal[p].isoHost = false
      ∧ ((d.cmdWrite p 1 g).hkPrepare p).activeCause p = 0 ∧ ((d.cmdWrite p 1 g).hkPrepare p).pst p = psReleased
      ∧ ((d.cmdWrite p 1 g).hkPrepare p).release p = true ∧ ((d.cmdWrite p 1 g).hkPrepare p).tlClose = false
      ∧ (((d.cmdWrite p 1 g).hkPrepare p).rdB (Reg.PRT_CFG ↑p) 11 = true → ((d.cmdWrite p 1 g).hkPrepare p).roleOn p roBtnClose = false)
      ∧ (((d.cmdWrite p 1 g).hkPrepare p).sst p = ssRetracted ∨ ((d.cmdWrite p 1 g).hkPrepare p).sst p = ssNotFitted))
    ∧ (let p : Slot := 0; let g : Bool := false; let s : State := P 1 [] id []; let d : Dev := s.dev.begin; g = false ∧ d.hostUp = true
      ∧ d.engRun p = true ∧ d.enabled p = true ∧ d.drives p = true ∧ ((d.cmdWrite p 1 g).hkPrepare p).portal[p].evaluated = true
      ∧ ((d.cmdWrite p 1 g).hkPrepare p).roleOn p roIsolate = false ∧ ((d.cmdWrite p 1 g).hkPrepare p).portal[p].isoHost = false
      ∧ ((d.cmdWrite p 1 g).hkPrepare p).activeCause p = 0 ∧ ((d.cmdWrite p 1 g).hkPrepare p).release p = false)
    ∧ (let p : Slot := 0; let g : Bool := false; let s : State := P 9 [] id []; let d : Dev := s.dev.begin; g = false ∧ d.hostUp = true
      ∧ d.engRun p = true ∧ d.enabled p = true ∧ d.drives p = true ∧ ((d.cmdWrite p 1 g).hkPrepare p).portal[p].evaluated = true
      ∧ ((d.cmdWrite p 1 g).hkPrepare p).roleOn p roIsolate = false ∧ ((d.cmdWrite p 1 g).hkPrepare p).portal[p].isoHost = false
      ∧ ((d.cmdWrite p 1 g).hkPrepare p).activeCause p = 0 ∧ ((d.cmdWrite p 1 g).hkPrepare p).release p = false)
    ∧ (let p : Slot := 0; let g : Bool := false; let s : State := P 4; let d : Dev := s.dev.begin; g = false ∧ d.hostUp = true
      ∧ d.engRun p = true ∧ d.enabled p = true ∧ d.drives p = true ∧ ((d.cmdWrite p 2 g).hkPrepare p).portal[p].evaluated = true
      ∧ ((d.cmdWrite p 2 g).hkPrepare p).roleOn p roIsolate = false ∧ ((d.cmdWrite p 2 g).hkPrepare p).portal[p].isoHost = false
      ∧ ((d.cmdWrite p 2 g).hkPrepare p).activeCause p = 0 ∧ psUnlocking ≤ ((d.cmdWrite p 2 g).hkPrepare p).pst p
      ∧ ((d.cmdWrite p 2 g).hkPrepare p).pst p ≤ psObstructed)
    ∧ (let p : Slot := 0; let g : Bool := false; let s : State := P 5; let d : Dev := s.dev.begin; g = false ∧ d.hostUp = true
      ∧ d.engRun p = true ∧ d.enabled p = true ∧ d.drives p = true ∧ ((d.cmdWrite p 2 g).hkPrepare p).portal[p].evaluated = true
      ∧ ((d.cmdWrite p 2 g).hkPrepare p).roleOn p roIsolate = false ∧ ((d.cmdWrite p 2 g).hkPrepare p).portal[p].isoHost = false
      ∧ ((d.cmdWrite p 2 g).hkPrepare p).activeCause p = 0 ∧ psUnlocking ≤ ((d.cmdWrite p 2 g).hkPrepare p).pst p
      ∧ ((d.cmdWrite p 2 g).hkPrepare p).pst p ≤ psObstructed)
    ∧ (let p : Slot := 0; let g : Bool := false; let s : State := P 0; let d : Dev := s.dev.begin; g = false ∧ d.hostUp = true
      ∧ d.engRun p = true ∧ d.enabled p = true ∧ d.drives p = true ∧ ((d.cmdWrite p 2 g).hkPrepare p).portal[p].evaluated = true
      ∧ ((d.cmdWrite p 2 g).hkPrepare p).roleOn p roIsolate = false ∧ ((d.cmdWrite p 2 g).hkPrepare p).portal[p].isoHost = false
      ∧ ((d.cmdWrite p 2 g).hkPrepare p).activeCause p = 0
      ∧ (((d.cmdWrite p 2 g).hkPrepare p).pst p < psUnlocking ∨ ((d.cmdWrite p 2 g).hkPrepare p).pst p = psLocking))
    ∧ (let p : Slot := 0; let g : Bool := false; let s : State := P 8; let d : Dev := s.dev.begin; g = false ∧ d.hostUp = true
      ∧ d.engRun p = true ∧ d.enabled p = true ∧ d.drives p = true ∧ ((d.cmdWrite p 2 g).hkPrepare p).portal[p].evaluated = true
      ∧ ((d.cmdWrite p 2 g).hkPrepare p).roleOn p roIsolate = false ∧ ((d.cmdWrite p 2 g).hkPrepare p).portal[p].isoHost = false
      ∧ ((d.cmdWrite p 2 g).hkPrepare p).activeCause p = 0
      ∧ (((d.cmdWrite p 2 g).hkPrepare p).pst p < psUnlocking ∨ ((d.cmdWrite p 2 g).hkPrepare p).pst p = psLocking))
    ∧ (let p : Slot := 0; let g : Bool := false; let s : State := P 10; let d : Dev := s.dev.begin; g = false ∧ d.hostUp = true
      ∧ d.engRun p = true ∧ d.enabled p = true ∧ d.drives p = true ∧ ((d.cmdWrite p 3 g).hkPrepare p).portal[p].evaluated = true
      ∧ ((d.cmdWrite p 3 g).hkPrepare p).roleOn p roIsolate = false ∧ ((d.cmdWrite p 3 g).hkPrepare p).portal[p].isoHost = false
      ∧ ((d.cmdWrite p 3 g).hkPrepare p).pst p = psFault ∧ ((d.cmdWrite p 3 g).hkPrepare p).portal[p].offDue = false
      ∧ ((d.cmdWrite p 3 g).hkPrepare p).activeCause p = 0)
    ∧ (let p : Slot := 0; let g : Bool := false; let s : State := P 10 [(Reg.PRT_INPUT_MAP 0 0, 0x7F7F7F00)]; let d : Dev := s.dev.begin;
      g = false ∧ d.hostUp = true ∧ d.engRun p = true ∧ d.enabled p = true ∧ d.drives p = true
      ∧ ((d.cmdWrite p 3 g).hkPrepare p).portal[p].evaluated = true ∧ ((d.cmdWrite p 3 g).hkPrepare p).roleOn p roIsolate = false
      ∧ ((d.cmdWrite p 3 g).hkPrepare p).portal[p].isoHost = false ∧ ((d.cmdWrite p 3 g).hkPrepare p).pst p = psFault
      ∧ ((d.cmdWrite p 3 g).hkPrepare p).portal[p].offDue = false ∧ ((d.cmdWrite p 3 g).hkPrepare p).activeCause p = 0)
    ∧ (let p : Slot := 0; let g : Bool := false; let s : State := P 10 [] (fun x => { x with holdNs := true }); let d : Dev := s.dev.begin;
      g = false ∧ d.hostUp = true ∧ d.engRun p = true ∧ d.enabled p = true ∧ d.drives p = true
      ∧ ((d.cmdWrite p 3 g).hkPrepare p).portal[p].evaluated = true ∧ ((d.cmdWrite p 3 g).hkPrepare p).roleOn p roIsolate = false
      ∧ ((d.cmdWrite p 3 g).hkPrepare p).portal[p].isoHost = false ∧ ((d.cmdWrite p 3 g).hkPrepare p).pst p = psFault
      ∧ ((d.cmdWrite p 3 g).hkPrepare p).activeCause p ≠ 0)
    ∧ (let p : Slot := 0; let g : Bool := true; let s : State := withS (P 4); let d : Dev := s.dev.begin; d.hostUp = true
      ∧ d.engRun p = true ∧ d.enabled p = true ∧ d.drives p = true ∧ ((d.cmdWrite p 4 g).hkPrepare p).portal[p].evaluated = true
      ∧ ((d.cmdWrite p 4 g).hkPrepare p).roleOn p roIsolate = false ∧ ((d.cmdWrite p 4 g).hkPrepare p).portal[p].isoHost = false
      ∧ ((d.cmdWrite p 4 g).hkPrepare p).portal[p].cmdGate = true ∧ ((d.cmdWrite p 4 g).hkPrepare p).pst p ≠ psIsolated)
    ∧ (let p : Slot := 0; let g : Bool := true; let s : State := withS (P 3 [(Reg.PRT_CFG 0, 0)]); let d : Dev := s.dev.begin;
      d.hostUp = true ∧ d.engRun p = true ∧ d.enabled p = true ∧ d.drives p = true
      ∧ ((d.cmdWrite p 4 g).hkPrepare p).portal[p].evaluated = true ∧ ((d.cmdWrite p 4 g).hkPrepare p).roleOn p roIsolate = false
      ∧ ((d.cmdWrite p 4 g).hkPrepare p).portal[p].isoHost = false ∧ ((d.cmdWrite p 4 g).hkPrepare p).portal[p].cmdGate = true
      ∧ ((d.cmdWrite p 4 g).hkPrepare p).pst p ≠ psIsolated)
    ∧ (let p : Slot := 0; let g : Bool := true; let s : State := P 5; let d : Dev := s.dev.begin; d.hostUp = true ∧ d.engRun p = true
      ∧ d.enabled p = true ∧ d.drives p = true ∧ ((d.cmdWrite p 4 g).hkPrepare p).portal[p].evaluated = true
      ∧ ((d.cmdWrite p 4 g).hkPrepare p).portal[p].cmdGate = false)
    ∧ (let p : Slot := 0; let g : Bool := false; let s : State := withS (P 9); let d : Dev := s.dev.begin; d.hostUp = true
      ∧ d.engRun p = true ∧ d.enabled p = true ∧ d.drives p = true ∧ ((d.cmdWrite p 4 g).hkPrepare p).portal[p].evaluated = true
      ∧ ((d.cmdWrite p 4 g).hkPrepare p).portal[p].cmdGate = false ∧ ((d.cmdWrite p 5 g).hkPrepare p).portal[p].evaluated = true
      ∧ ((d.cmdWrite p 5 g).hkPrepare p).portal[p].cmdGate = false)
    ∧ (let p : Slot := 0; let g : Bool := true; let s : State := withS (P 9 [] (fun x => { x with isoHost := true }));
      let d : Dev := s.dev.begin; d.hostUp = true ∧ d.engRun p = true ∧ d.enabled p = true ∧ d.drives p = true
      ∧ ((d.cmdWrite p 5 g).hkPrepare p).portal[p].evaluated = true ∧ ((d.cmdWrite p 5 g).hkPrepare p).roleOn p roIsolate = false
      ∧ ((d.cmdWrite p 5 g).hkPrepare p).portal[p].offDue = false ∧ ((d.cmdWrite p 5 g).hkPrepare p).portal[p].cmdGate = true
      ∧ ((d.cmdWrite p 5 g).hkPrepare p).pst p = psIsolated ∧ ((d.cmdWrite p 5 g).hkPrepare p).portal[p].isoHost = true)
    ∧ (let p : Slot := 0; let g : Bool := true;
      let s : State := withS (P 9 [(Reg.PRT_INPUT_MAP 0 0, 0x7F7F7F00)] (fun x => { x with isoHost := true }) []);
      let d : Dev := s.dev.begin; d.hostUp = true ∧ d.engRun p = true ∧ d.enabled p = true ∧ d.drives p = true
      ∧ ((d.cmdWrite p 5 g).hkPrepare p).portal[p].evaluated = true ∧ ((d.cmdWrite p 5 g).hkPrepare p).roleOn p roIsolate = false
      ∧ ((d.cmdWrite p 5 g).hkPrepare p).portal[p].offDue = false ∧ ((d.cmdWrite p 5 g).hkPrepare p).portal[p].cmdGate = true
      ∧ ((d.cmdWrite p 5 g).hkPrepare p).pst p = psIsolated ∧ ((d.cmdWrite p 5 g).hkPrepare p).portal[p].isoHost = true)
    ∧ (let p : Slot := 0; let g : Bool := true; let s : State := P 9; let d : Dev := s.dev.begin; d.hostUp = true ∧ d.engRun p = true
      ∧ d.enabled p = true ∧ d.drives p = true ∧ ((d.cmdWrite p 5 g).hkPrepare p).portal[p].evaluated = true
      ∧ ((d.cmdWrite p 5 g).hkPrepare p).portal[p].cmdGate = false) := by
  repeat refine ⟨by decide +kernel, ?_⟩
  decide +kernel

theorem witness_CycleLimitsAndCloseTimers :
    (let p : Slot := 0; let t0 : Nat := 5;
      let s : State := P 2 [(Reg.PRT_TIME_B 0, 1),(Reg.PRT_INPUT_MAP 0 0, 0x7F80007F)] (fun x => { x with lockAt := some 5 });
      let d : Dev := s.dev.begin; d.engRun p = true ∧ d.enabled p = true ∧ d.drives p = true ∧ d.pst p = psUnlocking
      ∧ d.portal[p].lockAt = some t0
      ∧ ((d.upTo (d.hkAt (t0 + d.rdF (Reg.PRT_TIME_B ↑p) 7 0 * 2000000))).hkPrepare p).portal[p].evaluated = true
      ∧ ((d.upTo (d.hkAt (t0 + d.rdF (Reg.PRT_TIME_B ↑p) 7 0 * 2000000))).hkPrepare p).roleOn p roIsolate = false
      ∧ ((d.upTo (d.hkAt (t0 + d.rdF (Reg.PRT_TIME_B ↑p) 7 0 * 2000000))).hkPrepare p).portal[p].isoHost = false
      ∧ ((d.upTo (d.hkAt (t0 + d.rdF (Reg.PRT_TIME_B ↑p) 7 0 * 2000000))).hkPrepare p).portal[p].holdNs = false
      ∧ ((d.upTo (d.hkAt (t0 + d.rdF (Reg.PRT_TIME_B ↑p) 7 0 * 2000000))).hkPrepare p).unlockedAll p = false
      ∧ ((d.upTo (d.hkAt (t0 + d.rdF (Reg.PRT_TIME_B ↑p) 7 0 * 2000000))).hkPrepare p).release p = true
      ∧ ((d.upTo (d.hkAt (t0 + d.rdF (Reg.PRT_TIME_B ↑p) 7 0 * 2000000))).hkPrepare p).closeInForce p = false)
    ∧ (let p : Slot := 0; let t0 : Nat := 5;
      let s : State := P 8 [(Reg.PRT_TIME_B 0, 0x100),(Reg.PRT_INPUT_MAP 0 0, 0x7F007F7F)] (fun x => { x with lockAt := some 5 });
      let d : Dev := s.dev.begin; d.engRun p = true ∧ d.enabled p = true ∧ d.drives p = true ∧ d.pst p = psLocking
      ∧ d.portal[p].lockAt = some t0
      ∧ ((d.upTo (d.hkAt (t0 + d.rdF (Reg.PRT_TIME_B ↑p) 15 8 * 2000000))).hkPrepare p).portal[p].evaluated = true
      ∧ ((d.upTo (d.hkAt (t0 + d.rdF (Reg.PRT_TIME_B ↑p) 15 8 * 2000000))).hkPrepare p).roleOn p roIsolate = false
      ∧ ((d.upTo (d.hkAt (t0 + d.rdF (Reg.PRT_TIME_B ↑p) 15 8 * 2000000))).hkPrepare p).portal[p].isoHost = false
      ∧ ((d.upTo (d.hkAt (t0 + d.rdF (Reg.PRT_TIME_B ↑p) 15 8 * 2000000))).hkPrepare p).portal[p].holdNs = false
      ∧ ((d.upTo (d.hkAt (t0 + d.rdF (Reg.PRT_TIME_B ↑p) 15 8 * 2000000))).hkPrepare p).lockedMade p = false
      ∧ ((d.upTo (d.hkAt (t0 + d.rdF (Reg.PRT_TIME_B ↑p) 15 8 * 2000000))).hkPrepare p).prtB p 27 = false
      ∧ ((d.upTo (d.hkAt (t0 + d.rdF (Reg.PRT_TIME_B ↑p) 15 8 * 2000000))).hkPrepare p).portal[p].lockAt = some t0)
    ∧ (let p : Slot := 0; let t0 : Nat := 5; let s : State := P 3 [(Reg.PRT_TIME_C 0, 1)] (fun x => { x with enteredAt := 5 });
      let d : Dev := s.dev.begin; d.engRun p = true ∧ d.enabled p = true ∧ d.drives p = true ∧ d.pst p = psOpening
      ∧ d.portal[p].enteredAt = t0
      ∧ ((d.upTo (d.hkAt (t0 + d.rdF (Reg.PRT_TIME_C ↑p) 7 0 * 20000000))).hkPrepare p).portal[p].evaluated = true
      ∧ ((d.upTo (d.hkAt (t0 + d.rdF (Reg.PRT_TIME_C ↑p) 7 0 * 20000000))).hkPrepare p).roleOn p roIsolate = false
      ∧ ((d.upTo (d.hkAt (t0 + d.rdF (Reg.PRT_TIME_C ↑p) 7 0 * 20000000))).hkPrepare p).portal[p].isoHost = false
      ∧ ((d.upTo (d.hkAt (t0 + d.rdF (Reg.PRT_TIME_C ↑p) 7 0 * 20000000))).hkPrepare p).portal[p].holdNs = false)
    ∧ (let p : Slot := 0; let t0 : Nat := 5;
      let s : State := P 3 [(Reg.PRT_TIME_C 0, 1), (Reg.PRT_CFG 0, 1)] (fun x => { x with enteredAt := 5, cycOn := true });
      let d : Dev := s.dev.begin; d.engRun p = true ∧ d.enabled p = true ∧ d.drives p = true ∧ d.pst p = psOpening
      ∧ d.portal[p].enteredAt = t0
      ∧ ((d.upTo (d.hkAt (t0 + d.rdF (Reg.PRT_TIME_C ↑p) 7 0 * 20000000))).hkPrepare p).portal[p].evaluated = true
      ∧ ((d.upTo (d.hkAt (t0 + d.rdF (Reg.PRT_TIME_C ↑p) 7 0 * 20000000))).hkPrepare p).roleOn p roIsolate = false
      ∧ ((d.upTo (d.hkAt (t0 + d.rdF (Reg.PRT_TIME_C ↑p) 7 0 * 20000000))).hkPrepare p).portal[p].isoHost = false
      ∧ ((d.upTo (d.hkAt (t0 + d.rdF (Reg.PRT_TIME_C ↑p) 7 0 * 20000000))).hkPrepare p).portal[p].holdNs = false)
    ∧ (let p : Slot := 0; let t0 : Nat := 5;
      let s : State := P 5 [(Reg.PRT_TIME_C 0, 0x100)] (fun x => { x with enteredAt := 3, paused := 2, cycOn := true });
      let d : Dev := s.dev.begin; d.engRun p = true ∧ d.enabled p = true ∧ d.drives p = true ∧ d.pst p = psClosing ∧ d.prtB p 21 = false
      ∧ d.portal[p].enteredAt + d.portal[p].paused = t0
      ∧ ((d.upTo (d.hkAt (t0 + d.rdF (Reg.PRT_TIME_C ↑p) 15 8 * 20000000))).hkPrepare p).portal[p].evaluated = true
      ∧ ((d.upTo (d.hkAt (t0 + d.rdF (Reg.PRT_TIME_C ↑p) 15 8 * 20000000))).hkPrepare p).roleOn p roIsolate = false
      ∧ ((d.upTo (d.hkAt (t0 + d.rdF (Reg.PRT_TIME_C ↑p) 15 8 * 20000000))).hkPrepare p).portal[p].isoHost = false
      ∧ ((d.upTo (d.hkAt (t0 + d.rdF (Reg.PRT_TIME_C ↑p) 15 8 * 20000000))).hkPrepare p).portal[p].holdNs = false)
    ∧ (let p : Slot := 0; let t0 : Nat := 5;
      let s : State := M' (P 0 [(Reg.PRT_TIME_B 0, 0x10000),(Reg.PRT_STATE 0, 0x10), (Reg.PRT_CFG 0, 0x22)] (fun x => { x with stepAt := some 5 })) (fun d => d.modMot 16 mv);
      let d : Dev := s.dev.begin; d.engRun p = true ∧ d.enabled p = true ∧ d.drives p = true ∧ d.portal[p].stepAt = some t0
      ∧ d.pst p ≠ psFault ∧ d.pst p ≠ psIsolated
      ∧ ((d.upTo (d.hkAt (t0 + d.rdF (Reg.PRT_TIME_B ↑p) 23 16 * 20000000))).hkPrepare p).portal[p].evaluated = true
      ∧ ((d.upTo (d.hkAt (t0 + d.rdF (Reg.PRT_TIME_B ↑p) 23 16 * 20000000))).hkPrepare p).roleOn p roIsolate = false
      ∧ ((d.upTo (d.hkAt (t0 + d.rdF (Reg.PRT_TIME_B ↑p) 23 16 * 20000000))).hkPrepare p).portal[p].isoHost = false
      ∧ ((d.upTo (d.hkAt (t0 + d.rdF (Reg.PRT_TIME_B ↑p) 23 16 * 20000000))).hkPrepare p).portal[p].holdNs = false
      ∧ ((d.upTo (d.hkAt (t0 + d.rdF (Reg.PRT_TIME_B ↑p) 23 16 * 20000000))).hkPrepare p).activeCause p = 10)
    ∧ (let p : Slot := 0; let t0 : Nat := 5;
      let s : State := P 4 [(Reg.PRT_TIME_B 0, 0x1000000),(Reg.PRT_INPUT_MAP 0 0, 0x7F7F7F00)] (fun x => { x with quals := some 5 :: List.replicate 13 none });
      let d : Dev := s.dev.begin; d.engRun p = true ∧ d.enabled p = true ∧ d.drives p = true
      ∧ (List.filterMap id d.portal[p].quals).min? = some t0 ∧ d.pst p ≠ psFault ∧ d.pst p ≠ psIsolated
      ∧ ((d.upTo (d.hkAt (t0 + d.rdF (Reg.PRT_TIME_B ↑p) 31 24 * 2000000))).hkPrepare p).portal[p].evaluated = true
      ∧ ((d.upTo (d.hkAt (t0 + d.rdF (Reg.PRT_TIME_B ↑p) 31 24 * 2000000))).hkPrepare p).roleOn p roIsolate = false
      ∧ ((d.upTo (d.hkAt (t0 + d.rdF (Reg.PRT_TIME_B ↑p) 31 24 * 2000000))).hkPrepare p).portal[p].isoHost = false
      ∧ ((d.upTo (d.hkAt (t0 + d.rdF (Reg.PRT_TIME_B ↑p) 31 24 * 2000000))).hkPrepare p).portal[p].holdNs = false
      ∧ ((d.upTo (d.hkAt (t0 + d.rdF (Reg.PRT_TIME_B ↑p) 31 24 * 2000000))).hkPrepare p).activeCause p = 14)
    ∧ (let p : Slot := 0; let t0 : Nat := 5;
      let s : State := P 4 [(Reg.PRT_TIME_A 0, 1)] (fun x => { x with warnAt := some 5, closeLatch := true });
      let d : Dev := s.dev.begin; d.engRun p = true ∧ d.enabled p = true ∧ d.drives p = true ∧ d.portal[p].cmd = none ∧ d.pst p = psOpen
      ∧ d.portal[p].warnAt = some t0
      ∧ ((d.upTo (d.hkAt (t0 + d.rdF (Reg.PRT_TIME_A ↑p) 9 0 * 2000000))).hkPrepare p).portal[p].evaluated = true
      ∧ ((d.upTo (d.hkAt (t0 + d.rdF (Reg.PRT_TIME_A ↑p) 9 0 * 2000000))).hkPrepare p).roleOn p roIsolate = false
      ∧ ((d.upTo (d.hkAt (t0 + d.rdF (Reg.PRT_TIME_A ↑p) 9 0 * 2000000))).hkPrepare p).portal[p].isoHost = false
      ∧ ((d.upTo (d.hkAt (t0 + d.rdF (Reg.PRT_TIME_A ↑p) 9 0 * 2000000))).hkPrepare p).activeCause p = 0
      ∧ ((d.upTo (d.hkAt (t0 + d.rdF (Reg.PRT_TIME_A ↑p) 9 0 * 2000000))).hkPrepare p).prtB p 20 = false
      ∧ ((d.upTo (d.hkAt (t0 + d.rdF (Reg.PRT_TIME_A ↑p) 9 0 * 2000000))).hkPrepare p).closeInForce p = true
      ∧ ((d.upTo (d.hkAt (t0 + d.rdF (Reg.PRT_TIME_A ↑p) 9 0 * 2000000))).hkPrepare p).doorwayBlocked p = false)
    ∧ (let p : Slot := 0; let t0 : Nat := 5;
      let s : State := P 4 [(Reg.PRT_TIME_A 0, 1), (Reg.PRT_CFG 0, 1)] (fun x => { x with warnAt := some 5, closeLatch := true });
      let d : Dev := s.dev.begin; d.engRun p = true ∧ d.enabled p = true ∧ d.drives p = true ∧ d.portal[p].cmd = none ∧ d.pst p = psOpen
      ∧ d.portal[p].warnAt = some t0
      ∧ ((d.upTo (d.hkAt (t0 + d.rdF (Reg.PRT_TIME_A ↑p) 9 0 * 2000000))).hkPrepare p).portal[p].evaluated = true
      ∧ ((d.upTo (d.hkAt (t0 + d.rdF (Reg.PRT_TIME_A ↑p) 9 0 * 2000000))).hkPrepare p).roleOn p roIsolate = false
      ∧ ((d.upTo (d.hkAt (t0 + d.rdF (Reg.PRT_TIME_A ↑p) 9 0 * 2000000))).hkPrepare p).portal[p].isoHost = false
      ∧ ((d.upTo (d.hkAt (t0 + d.rdF (Reg.PRT_TIME_A ↑p) 9 0 * 2000000))).hkPrepare p).activeCause p = 0
      ∧ ((d.upTo (d.hkAt (t0 + d.rdF (Reg.PRT_TIME_A ↑p) 9 0 * 2000000))).hkPrepare p).prtB p 20 = false
      ∧ ((d.upTo (d.hkAt (t0 + d.rdF (Reg.PRT_TIME_A ↑p) 9 0 * 2000000))).hkPrepare p).closeInForce p = true
      ∧ ((d.upTo (d.hkAt (t0 + d.rdF (Reg.PRT_TIME_A ↑p) 9 0 * 2000000))).hkPrepare p).doorwayBlocked p = false)
    ∧ (let p : Slot := 0; let t0 : Nat := 5; let s : State := P 4 [(Reg.PRT_TIME_A 0, 0x10000)] (fun x => { x with enteredAt := 5 });
      let d : Dev := s.dev.begin; d.engRun p = true ∧ d.enabled p = true ∧ d.drives p = true ∧ d.portal[p].cmd = none ∧ d.pst p = psOpen
      ∧ d.portal[p].enteredAt = t0 ∧ d.rdF (Reg.PRT_TIME_A ↑p) 25 16 ≠ 0
      ∧ ((d.upTo (d.hkAt (t0 + d.rdF (Reg.PRT_TIME_A ↑p) 25 16 * 200000000))).hkPrepare p).portal[p].evaluated = true
      ∧ ((d.upTo (d.hkAt (t0 + d.rdF (Reg.PRT_TIME_A ↑p) 25 16 * 200000000))).hkPrepare p).roleOn p roIsolate = false
      ∧ ((d.upTo (d.hkAt (t0 + d.rdF (Reg.PRT_TIME_A ↑p) 25 16 * 200000000))).hkPrepare p).portal[p].isoHost = false
      ∧ ((d.upTo (d.hkAt (t0 + d.rdF (Reg.PRT_TIME_A ↑p) 25 16 * 200000000))).hkPrepare p).activeCause p = 0
      ∧ ((d.upTo (d.hkAt (t0 + d.rdF (Reg.PRT_TIME_A ↑p) 25 16 * 200000000))).hkPrepare p).prtB p 20 = false
      ∧ ((d.upTo (d.hkAt (t0 + d.rdF (Reg.PRT_TIME_A ↑p) 25 16 * 200000000))).hkPrepare p).tlClose = false)
    ∧ (let p : Slot := 0; let t0 : Nat := 5;
      let s : State := P 4 [(Reg.PRT_TIME_A 0, 0x10001), (Reg.PRT_CFG 0, 0)] (fun x => { x with enteredAt := 5 });
      let d : Dev := s.dev.begin; d.engRun p = true ∧ d.enabled p = true ∧ d.drives p = true ∧ d.portal[p].cmd = none ∧ d.pst p = psOpen
      ∧ d.portal[p].enteredAt = t0 ∧ d.rdF (Reg.PRT_TIME_A ↑p) 25 16 ≠ 0
      ∧ ((d.upTo (d.hkAt (t0 + d.rdF (Reg.PRT_TIME_A ↑p) 25 16 * 200000000))).hkPrepare p).portal[p].evaluated = true
      ∧ ((d.upTo (d.hkAt (t0 + d.rdF (Reg.PRT_TIME_A ↑p) 25 16 * 200000000))).hkPrepare p).roleOn p roIsolate = false
      ∧ ((d.upTo (d.hkAt (t0 + d.rdF (Reg.PRT_TIME_A ↑p) 25 16 * 200000000))).hkPrepare p).portal[p].isoHost = false
      ∧ ((d.upTo (d.hkAt (t0 + d.rdF (Reg.PRT_TIME_A ↑p) 25 16 * 200000000))).hkPrepare p).activeCause p = 0
      ∧ ((d.upTo (d.hkAt (t0 + d.rdF (Reg.PRT_TIME_A ↑p) 25 16 * 200000000))).hkPrepare p).prtB p 20 = false
      ∧ ((d.upTo (d.hkAt (t0 + d.rdF (Reg.PRT_TIME_A ↑p) 25 16 * 200000000))).hkPrepare p).tlClose = false)
    ∧ (let p : Slot := 0; let t0 : Nat := 5;
      let s : State := P 5 [(Reg.PRT_TIME_C 0, 0x10000), (Reg.PRT_STATE 0, 0x200075)] (fun x => { x with curtAt := some 5 });
      let d : Dev := s.dev.begin; d.engRun p = true ∧ d.enabled p = true ∧ d.drives p = true ∧ d.portal[p].cmd = none
      ∧ d.pst p = psClosing ∧ d.prtB p 21 = true ∧ d.portal[p].curtAt = some t0 ∧ d.rdF (Reg.PRT_TIME_C ↑p) 23 16 ≠ 0
      ∧ ((d.upTo (d.hkAt (t0 + d.rdF (Reg.PRT_TIME_C ↑p) 23 16 * 200000000))).hkPrepare p).portal[p].evaluated = true
      ∧ ((d.upTo (d.hkAt (t0 + d.rdF (Reg.PRT_TIME_C ↑p) 23 16 * 200000000))).hkPrepare p).roleOn p roIsolate = false
      ∧ ((d.upTo (d.hkAt (t0 + d.rdF (Reg.PRT_TIME_C ↑p) 23 16 * 200000000))).hkPrepare p).portal[p].isoHost = false
      ∧ ((d.upTo (d.hkAt (t0 + d.rdF (Reg.PRT_TIME_C ↑p) 23 16 * 200000000))).hkPrepare p).activeCause p = 0)
    ∧ (let p : Slot := 0; let t0 : Nat := 5;
      let s : State := P 4 [(Reg.PRT_TIME_C 0, 0x10000), (Reg.PRT_INPUT_MAP 0 2, 0x7F7F007F)] (fun x => { x with curtAt := some 5, closeLatch := true }) [(Reg.ILK_STATUS, 4),(Reg.FIN_IN_QUAL 0, 1)];
      let d : Dev := s.dev.begin; d.engRun p = true ∧ d.enabled p = true ∧ d.drives p = true ∧ d.portal[p].cmd = none ∧ d.pst p = psOpen
      ∧ d.portal[p].curtAt = some t0 ∧ d.rdF (Reg.PRT_TIME_C ↑p) 23 16 ≠ 0
      ∧ ((d.upTo (d.hkAt (t0 + d.rdF (Reg.PRT_TIME_C ↑p) 23 16 * 200000000))).hkPrepare p).portal[p].evaluated = true
      ∧ ((d.upTo (d.hkAt (t0 + d.rdF (Reg.PRT_TIME_C ↑p) 23 16 * 200000000))).hkPrepare p).roleOn p roIsolate = false
      ∧ ((d.upTo (d.hkAt (t0 + d.rdF (Reg.PRT_TIME_C ↑p) 23 16 * 200000000))).hkPrepare p).portal[p].isoHost = false
      ∧ ((d.upTo (d.hkAt (t0 + d.rdF (Reg.PRT_TIME_C ↑p) 23 16 * 200000000))).hkPrepare p).activeCause p = 0
      ∧ ((d.upTo (d.hkAt (t0 + d.rdF (Reg.PRT_TIME_C ↑p) 23 16 * 200000000))).hkPrepare p).prtB p 20 = false
      ∧ ((d.upTo (d.hkAt (t0 + d.rdF (Reg.PRT_TIME_C ↑p) 23 16 * 200000000))).hkPrepare p).closeInForce p = true
      ∧ ((d.upTo (d.hkAt (t0 + d.rdF (Reg.PRT_TIME_C ↑p) 23 16 * 200000000))).hkPrepare p).doorwayBlocked p = true)
    ∧ (let p : Slot := 0; let t0 : Nat := 5;
      let s : State := P 4 [(Reg.PRT_TIME_C 0, 0x10000), (Reg.PRT_INPUT_MAP 0 2, 0x7F7F007F)] (fun x => { x with curtAt := some 5, closeLatch := true }) [(Reg.ILK_STATUS, 4),(Reg.FIN_IN_QUAL 0, 1)];
      let d : Dev := s.dev.begin; d.engRun p = true ∧ d.enabled p = true ∧ d.drives p = true ∧ d.portal[p].cmd = none ∧ d.pst p = psOpen
      ∧ d.portal[p].curtAt = some t0 ∧ d.rdF (Reg.PRT_TIME_C ↑p) 23 16 ≠ 0
      ∧ ((d.upTo (d.hkAt (t0 + d.rdF (Reg.PRT_TIME_C ↑p) 23 16 * 200000000))).hkPrepare p).portal[p].evaluated = true
      ∧ ((d.upTo (d.hkAt (t0 + d.rdF (Reg.PRT_TIME_C ↑p) 23 16 * 200000000))).hkPrepare p).roleOn p roIsolate = false
      ∧ ((d.upTo (d.hkAt (t0 + d.rdF (Reg.PRT_TIME_C ↑p) 23 16 * 200000000))).hkPrepare p).portal[p].isoHost = false
      ∧ ((d.upTo (d.hkAt (t0 + d.rdF (Reg.PRT_TIME_C ↑p) 23 16 * 200000000))).hkPrepare p).activeCause p = 0
      ∧ ((d.upTo (d.hkAt (t0 + d.rdF (Reg.PRT_TIME_C ↑p) 23 16 * 200000000))).hkPrepare p).prtB p 20 = false
      ∧ ((d.upTo (d.hkAt (t0 + d.rdF (Reg.PRT_TIME_C ↑p) 23 16 * 200000000))).hkPrepare p).closeInForce p = true
      ∧ ((d.upTo (d.hkAt (t0 + d.rdF (Reg.PRT_TIME_C ↑p) 23 16 * 200000000))).hkPrepare p).doorwayBlocked p = true)
    ∧ (let p : Slot := 0; let t0 : Nat := 5; let s : State := P 6 [(Reg.PRT_OBS_REACT 0, 0x10000)] (fun x => { x with waitAt := some 5 });
      let d : Dev := s.dev.begin; d.engRun p = true ∧ d.enabled p = true ∧ d.drives p = true ∧ d.portal[p].cmd = none
      ∧ d.pst p = psReversing ∧ d.portal[p].waitAt = some t0 ∧ d.portal[p].revMove = false
      ∧ ((d.upTo (d.hkAt (t0 + d.rdF (Reg.PRT_OBS_REACT ↑p) 23 16 * 20000000))).hkPrepare p).portal[p].evaluated = true
      ∧ ((d.upTo (d.hkAt (t0 + d.rdF (Reg.PRT_OBS_REACT ↑p) 23 16 * 20000000))).hkPrepare p).roleOn p roIsolate = false
      ∧ ((d.upTo (d.hkAt (t0 + d.rdF (Reg.PRT_OBS_REACT ↑p) 23 16 * 20000000))).hkPrepare p).portal[p].isoHost = false
      ∧ ((d.upTo (d.hkAt (t0 + d.rdF (Reg.PRT_OBS_REACT ↑p) 23 16 * 20000000))).hkPrepare p).activeCause p = 0
      ∧ ((d.upTo (d.hkAt (t0 + d.rdF (Reg.PRT_OBS_REACT ↑p) 23 16 * 20000000))).hkPrepare p).tlClose = false
      ∧ ((d.upTo (d.hkAt (t0 + d.rdF (Reg.PRT_OBS_REACT ↑p) 23 16 * 20000000))).hkPrepare p).portal[p].closeLatch = false
      ∧ (((d.upTo (d.hkAt (t0 + d.rdF (Reg.PRT_OBS_REACT ↑p) 23 16 * 20000000))).hkPrepare p).rdB (Reg.PRT_CFG ↑p) 10 = true → ((d.upTo (d.hkAt (t0 + d.rdF (Reg.PRT_OBS_REACT ↑p) 23 16 * 20000000))).hkPrepare p).release p = true)
      ∧ ((d.upTo (d.hkAt (t0 + d.rdF (Reg.PRT_OBS_REACT ↑p) 23 16 * 20000000))).hkPrepare p).roleOn p roBtnClose = false)
    ∧ (let p : Slot := 0; let t0 : Nat := 5;
      let s : State := P 2 [(Reg.PRT_TIME_B 0, 1),(Reg.PRT_INPUT_MAP 0 0, 0x7F80007F)] (fun x => { x with lockAt := some 5 });
      let d : Dev := s.dev.begin; d.engRun p = true ∧ d.enabled p = true ∧ d.drives p = true ∧ d.portal[p].cmd = none
      ∧ d.portal[p].evaluated = true ∧ d.roleOn p roIsolate = false ∧ d.portal[p].isoHost = false ∧ d.portal[p].holdNs = false
      ∧ d.pst p = psUnlocking ∧ d.portal[p].lockAt = some t0 ∧ d.unlockedAll p = false ∧ d.release p = true ∧ d.closeInForce p = false)
    ∧ (let p : Slot := 0; let t0 : Nat := 5;
      let s : State := P 8 [(Reg.PRT_TIME_B 0, 0x100),(Reg.PRT_INPUT_MAP 0 0, 0x7F007F7F)] (fun x => { x with lockAt := some 5 });
      let d : Dev := s.dev.begin; d.engRun p = true ∧ d.enabled p = true ∧ d.drives p = true ∧ d.portal[p].cmd = none
      ∧ d.portal[p].evaluated = true ∧ d.roleOn p roIsolate = false ∧ d.portal[p].isoHost = false ∧ d.portal[p].holdNs = false
      ∧ d.pst p = psLocking ∧ d.portal[p].lockAt = some t0 ∧ d.lockedMade p = false ∧ d.prtB p 27 = false ∧ d.lockShared p = false)
    ∧ (let p : Slot := 0; let t0 : Nat := 5; let s : State := P 3 [(Reg.PRT_TIME_C 0, 1)] (fun x => { x with enteredAt := 5 });
      let d : Dev := s.dev.begin; d.engRun p = true ∧ d.enabled p = true ∧ d.drives p = true ∧ d.portal[p].cmd = none
      ∧ d.portal[p].evaluated = true ∧ d.roleOn p roIsolate = false ∧ d.portal[p].isoHost = false ∧ d.portal[p].holdNs = false
      ∧ d.pst p = psOpening ∧ d.portal[p].enteredAt = t0)
    ∧ (let p : Slot := 0; let t0 : Nat := 5;
      let s : State := P 3 [(Reg.PRT_TIME_C 0, 1), (Reg.PRT_CFG 0, 1)] (fun x => { x with enteredAt := 5, cycOn := true });
      let d : Dev := s.dev.begin; d.engRun p = true ∧ d.enabled p = true ∧ d.drives p = true ∧ d.portal[p].cmd = none
      ∧ d.portal[p].evaluated = true ∧ d.roleOn p roIsolate = false ∧ d.portal[p].isoHost = false ∧ d.portal[p].holdNs = false
      ∧ d.pst p = psOpening ∧ d.portal[p].enteredAt = t0)
    ∧ (let p : Slot := 0; let t0 : Nat := 5;
      let s : State := P 5 [(Reg.PRT_TIME_C 0, 0x100)] (fun x => { x with enteredAt := 3, paused := 2, cycOn := true });
      let d : Dev := s.dev.begin; d.engRun p = true ∧ d.enabled p = true ∧ d.drives p = true ∧ d.portal[p].cmd = none
      ∧ d.portal[p].evaluated = true ∧ d.roleOn p roIsolate = false ∧ d.portal[p].isoHost = false ∧ d.portal[p].holdNs = false
      ∧ d.pst p = psClosing ∧ d.prtB p 21 = false ∧ d.portal[p].enteredAt + d.portal[p].paused = t0)
    ∧ (let p : Slot := 0; let t0 : Nat := 5; let n : Stx := 0;
      let s : State := M' (P 4 [(Reg.PRT_EDGE_MAP 0, 0x1F1F), (Reg.PRT_INPUT_MAP 0 0, 0x7F7F7F7F), (Reg.PRT_INPUT_MAP 0 1, 0x7F7F7F7F), (Reg.PRT_INPUT_MAP 0 2, 0x7F7F7F7F), (Reg.PRT_INPUT_MAP 0 3, 0x7F7F7F7F), (Reg.PRT_TIME_B 0, 0x10000),(Reg.PRT_STATE 0, 0x14), (Reg.PRT_CFG 0, 0x22)] (fun x => { x with stepAt := some 5 })) (fun d => d.modMot 16 mv);
      let d : Dev := s.dev.begin; d.engRun p = true ∧ d.enabled p = true ∧ d.drives p = true ∧ d.portal[p].cmd = none
      ∧ d.portal[p].evaluated = true ∧ d.roleOn p roIsolate = false ∧ d.portal[p].isoHost = false ∧ d.portal[p].holdNs = false
      ∧ d.pst p = psOpen ∧ d.switchDisagree p = false ∧ (∀ a ∈ d.doorAxes p, d.uncSeen a = false)
      ∧ (∀ n ∈ d.servosOf p, d.rdB (Reg.SAX_STATUS ↑n) 1 = false) ∧ d.roleOn p roEgress = false
      ∧ (∀ (b : Bool), d.edgeNo p b < 24 → d.snBand (d.edgeNo p b) = 0) ∧ d.portal[p].stepAt = some t0 ∧ d.stepAx p = some n
      ∧ d.axisQuiet (Stx.axis n) = false ∧ (d.sst p = ssExtending ∨ d.sst p = ssRetracting))
    ∧ (let p : Slot := 0; let t0 : Nat := 5;
      let s : State := P 4 [(Reg.PRT_EDGE_MAP 0, 0x1F1F), (Reg.PRT_INPUT_MAP 0 0, 0x7F7F7F7F), (Reg.PRT_INPUT_MAP 0 1, 0x7F7F7F7F), (Reg.PRT_INPUT_MAP 0 2, 0x7F7F7F7F), (Reg.PRT_INPUT_MAP 0 3, 0x7F7F7F7F), (Reg.PRT_TIME_B 0, 0x1000000),(Reg.PRT_INPUT_MAP 0 0, 0x7F7F7F00)] (fun x => { x with quals := some 5 :: List.replicate 13 none });
      let d : Dev := s.dev.begin; d.engRun p = true ∧ d.enabled p = true ∧ d.drives p = true ∧ d.portal[p].cmd = none
      ∧ d.portal[p].evaluated = true ∧ d.roleOn p roIsolate = false ∧ d.portal[p].isoHost = false ∧ d.portal[p].holdNs = false
      ∧ d.pst p = psOpen ∧ d.switchDisagree p = false ∧ (∀ a ∈ d.doorAxes p, d.uncSeen a = false)
      ∧ (∀ n ∈ d.servosOf p, d.rdB (Reg.SAX_STATUS ↑n) 1 = false) ∧ d.roleOn p roEgress = false
      ∧ (∀ (b : Bool), d.edgeNo p b < 24 → d.snBand (d.edgeNo p b) = 0) ∧ d.sst p ≠ ssStalled ∧ d.portal[p].stallMark = false
      ∧ d.portal[p].stepAt = none ∧ (List.filterMap id d.portal[p].quals).min? = some t0
      ∧ (∃ k < 16, d.portal[p].quals[k]? = some (some t0) ∧ (d.invalidInputs p)[k]? = some true))
    ∧ (let p : Slot := 0; let t0 : Nat := 5;
      let s : State := P 4 [(Reg.PRT_EDGE_MAP 0, 0x1F1F), (Reg.PRT_INPUT_MAP 0 0, 0x7F7F7F7F), (Reg.PRT_INPUT_MAP 0 1, 0x7F7F7F7F), (Reg.PRT_INPUT_MAP 0 2, 0x7F7F7F7F), (Reg.PRT_INPUT_MAP 0 3, 0x7F7F7F7F), (Reg.PRT_TIME_A 0, 1)] (fun x => { x with warnAt := some 5, closeLatch := true });
      let d : Dev := s.dev.begin; d.engRun p = true ∧ d.enabled p = true ∧ d.drives p = true ∧ d.portal[p].cmd = none
      ∧ d.portal[p].evaluated = true ∧ d.roleOn p roIsolate = false ∧ d.portal[p].isoHost = false ∧ d.portal[p].holdNs = false
      ∧ d.pst p = psOpen ∧ d.switchDisagree p = false ∧ (∀ a ∈ d.doorAxes p, d.uncSeen a = false)
      ∧ (∀ n ∈ d.servosOf p, d.rdB (Reg.SAX_STATUS ↑n) 1 = false) ∧ d.roleOn p roEgress = false
      ∧ (∀ (b : Bool), d.edgeNo p b < 24 → d.snBand (d.edgeNo p b) = 0) ∧ d.sst p ≠ ssStalled ∧ d.portal[p].stallMark = false
      ∧ d.portal[p].stepAt = none ∧ (∀ x ∈ d.invalidInputs p, x = false) ∧ d.portal[p].warnAt = some t0 ∧ d.prtB p 20 = false
      ∧ d.closeInForce p = true ∧ d.curtainBlocked p = false)
    ∧ (let p : Slot := 0; let t0 : Nat := 5;
      let s : State := P 4 [(Reg.PRT_EDGE_MAP 0, 0x1F1F), (Reg.PRT_INPUT_MAP 0 0, 0x7F7F7F7F), (Reg.PRT_INPUT_MAP 0 1, 0x7F7F7F7F), (Reg.PRT_INPUT_MAP 0 2, 0x7F7F7F7F), (Reg.PRT_INPUT_MAP 0 3, 0x7F7F7F7F), (Reg.PRT_TIME_A 0, 1), (Reg.PRT_CFG 0, 1)] (fun x => { x with warnAt := some 5, closeLatch := true });
      let d : Dev := s.dev.begin; d.engRun p = true ∧ d.enabled p = true ∧ d.drives p = true ∧ d.portal[p].cmd = none
      ∧ d.portal[p].evaluated = true ∧ d.roleOn p roIsolate = false ∧ d.portal[p].isoHost = false ∧ d.portal[p].holdNs = false
      ∧ d.pst p = psOpen ∧ d.switchDisagree p = false ∧ (∀ a ∈ d.doorAxes p, d.uncSeen a = false)
      ∧ (∀ n ∈ d.servosOf p, d.rdB (Reg.SAX_STATUS ↑n) 1 = false) ∧ d.roleOn p roEgress = false
      ∧ (∀ (b : Bool), d.edgeNo p b < 24 → d.snBand (d.edgeNo p b) = 0) ∧ d.sst p ≠ ssStalled ∧ d.portal[p].stallMark = false
      ∧ d.portal[p].stepAt = none ∧ (∀ x ∈ d.invalidInputs p, x = false) ∧ d.portal[p].warnAt = some t0 ∧ d.prtB p 20 = false
      ∧ d.closeInForce p = true ∧ d.curtainBlocked p = false)
    ∧ (let p : Slot := 0; let t0 : Nat := 5;
      let s : State := P 4 [(Reg.PRT_EDGE_MAP 0, 0x1F1F), (Reg.PRT_INPUT_MAP 0 0, 0x7F7F7F7F), (Reg.PRT_INPUT_MAP 0 1, 0x7F7F7F7F), (Reg.PRT_INPUT_MAP 0 2, 0x7F7F7F7F), (Reg.PRT_INPUT_MAP 0 3, 0x7F7F7F7F), (Reg.PRT_TIME_A 0, 0x10000)] (fun x => { x with enteredAt := 5 });
      let d : Dev := s.dev.begin; d.engRun p = true ∧ d.enabled p = true ∧ d.drives p = true ∧ d.portal[p].cmd = none
      ∧ d.portal[p].evaluated = true ∧ d.roleOn p roIsolate = false ∧ d.portal[p].isoHost = false ∧ d.portal[p].holdNs = false
      ∧ d.pst p = psOpen ∧ d.switchDisagree p = false ∧ (∀ a ∈ d.doorAxes p, d.uncSeen a = false)
      ∧ (∀ n ∈ d.servosOf p, d.rdB (Reg.SAX_STATUS ↑n) 1 = false) ∧ d.roleOn p roEgress = false
      ∧ (∀ (b : Bool), d.edgeNo p b < 24 → d.snBand (d.edgeNo p b) = 0) ∧ d.sst p ≠ ssStalled ∧ d.portal[p].stallMark = false
      ∧ d.portal[p].stepAt = none ∧ (∀ x ∈ d.invalidInputs p, x = false) ∧ d.portal[p].enteredAt = t0
      ∧ d.rdF (Reg.PRT_TIME_A ↑p) 25 16 ≠ 0 ∧ d.prtB p 20 = false ∧ d.tlClose = false)
    ∧ (let p : Slot := 0; let t0 : Nat := 5;
      let s : State := P 4 [(Reg.PRT_EDGE_MAP 0, 0x1F1F), (Reg.PRT_INPUT_MAP 0 0, 0x7F7F7F7F), (Reg.PRT_INPUT_MAP 0 1, 0x7F7F7F7F), (Reg.PRT_INPUT_MAP 0 2, 0x7F7F7F7F), (Reg.PRT_INPUT_MAP 0 3, 0x7F7F7F7F), (Reg.PRT_TIME_A 0, 0x10001), (Reg.PRT_CFG 0, 0)] (fun x => { x with enteredAt := 5 });
      let d : Dev := s.dev.begin; d.engRun p = true ∧ d.enabled p = true ∧ d.drives p = true ∧ d.portal[p].cmd = none
      ∧ d.portal[p].evaluated = true ∧ d.roleOn p roIsolate = false ∧ d.portal[p].isoHost = false ∧ d.portal[p].holdNs = false
      ∧ d.pst p = psOpen ∧ d.switchDisagree p = false ∧ (∀ a ∈ d.doorAxes p, d.uncSeen a = false)
      ∧ (∀ n ∈ d.servosOf p, d.rdB (Reg.SAX_STATUS ↑n) 1 = false) ∧ d.roleOn p roEgress = false
      ∧ (∀ (b : Bool), d.edgeNo p b < 24 → d.snBand (d.edgeNo p b) = 0) ∧ d.sst p ≠ ssStalled ∧ d.portal[p].stallMark = false
      ∧ d.portal[p].stepAt = none ∧ (∀ x ∈ d.invalidInputs p, x = false) ∧ d.portal[p].enteredAt = t0
      ∧ d.rdF (Reg.PRT_TIME_A ↑p) 25 16 ≠ 0 ∧ d.prtB p 20 = false ∧ d.tlClose = false)
    ∧ (let p : Slot := 0; let t0 : Nat := 5;
      let s : State := P 5 [(Reg.PRT_EDGE_MAP 0, 0x1F1F), (Reg.PRT_INPUT_MAP 0 0, 0x7F7F7F7F), (Reg.PRT_INPUT_MAP 0 1, 0x7F7F7F7F), (Reg.PRT_INPUT_MAP 0 2, 0x7F7F7F7F), (Reg.PRT_INPUT_MAP 0 3, 0x7F7F7F7F), (Reg.PRT_TIME_C 0, 0x10000), (Reg.PRT_STATE 0, 0x200075)] (fun x => { x with curtAt := some 5 });
      let d : Dev := s.dev.begin; d.engRun p = true ∧ d.enabled p = true ∧ d.drives p = true ∧ d.portal[p].cmd = none
      ∧ d.portal[p].evaluated = true ∧ d.roleOn p roIsolate = false ∧ d.portal[p].isoHost = false ∧ d.portal[p].holdNs = false
      ∧ d.pst p = psClosing ∧ d.switchDisagree p = false ∧ (∀ a ∈ d.doorAxes p, d.uncSeen a = false)
      ∧ (∀ n ∈ d.servosOf p, d.rdB (Reg.SAX_STATUS ↑n) 1 = false) ∧ d.roleOn p roEgress = false
      ∧ (∀ (b : Bool), d.edgeNo p b < 24 → d.snBand (d.edgeNo p b) = 0) ∧ d.sst p ≠ ssStalled ∧ d.portal[p].stallMark = false
      ∧ d.portal[p].stepAt = none ∧ (∀ x ∈ d.invalidInputs p, x = false) ∧ d.prtB p 21 = true ∧ d.portal[p].curtAt = some t0
      ∧ d.rdF (Reg.PRT_TIME_C ↑p) 23 16 ≠ 0)
    ∧ (let p : Slot := 0; let t0 : Nat := 5;
      let s : State := P 6 [(Reg.PRT_EDGE_MAP 0, 0x1F1F), (Reg.PRT_INPUT_MAP 0 0, 0x7F7F7F7F), (Reg.PRT_INPUT_MAP 0 1, 0x7F7F7F7F), (Reg.PRT_INPUT_MAP 0 2, 0x7F7F7F7F), (Reg.PRT_INPUT_MAP 0 3, 0x7F7F7F7F), (Reg.PRT_OBS_REACT 0, 0x10000)] (fun x => { x with waitAt := some 5 });
      let d : Dev := s.dev.begin; d.engRun p = true ∧ d.enabled p = true ∧ d.drives p = true ∧ d.portal[p].cmd = none
      ∧ d.portal[p].evaluated = true ∧ d.roleOn p roIsolate = false ∧ d.portal[p].isoHost = false ∧ d.portal[p].holdNs = false
      ∧ d.pst p = psReversing ∧ d.switchDisagree p = false ∧ (∀ a ∈ d.doorAxes p, d.uncSeen a = false)
      ∧ (∀ n ∈ d.servosOf p, d.rdB (Reg.SAX_STATUS ↑n) 1 = false) ∧ d.roleOn p roEgress = false
      ∧ (∀ (b : Bool), d.edgeNo p b < 24 → d.snBand (d.edgeNo p b) = 0) ∧ d.sst p ≠ ssStalled ∧ d.portal[p].stallMark = false
      ∧ d.portal[p].stepAt = none ∧ (∀ x ∈ d.invalidInputs p, x = false) ∧ d.portal[p].waitAt = some t0 ∧ d.portal[p].revMove = false
      ∧ d.tlClose = false ∧ d.portal[p].closeLatch = false ∧ (d.rdB (Reg.PRT_CFG ↑p) 10 = true → d.release p = true)
      ∧ d.roleOn p roBtnClose = false) := by
  repeat refine ⟨by decide +kernel, ?_⟩
  decide +kernel

theorem witness_SecuredAndLoopOkFormulas :
    (let d : Dev := (P 8 [(Reg.PRT_INPUT_MAP 0 0, 0x7F7F7F00)]).dev; let p : Slot := 0; d.pst p = psLocking ∧ d.secured p = false)
    ∧ (let d : Dev := (P 8).dev; d.ilk.map = none)
    ∧ (let d : Dev := (S ((dv [(Reg.ILK_STATUS, 0x40000000)]).modIlk (fun i => { i with map := some mpA }))).dev; let m : IlkMap := mpA;
      d.ilk.map = some m)
    ∧ (let d : Dev := (S ((dv [(Reg.ILK_STATUS, 0x40000000), (Reg.FIN_IN_LVL 0, 7),(Reg.FIN_IN_QUAL 0, 7)]).modIlk (fun i => { i with map := some mpA }))).dev;
      let m : IlkMap := mpA; d.ilk.map = some m) := by
  repeat refine ⟨by decide +kernel, ?_⟩
  decide +kernel

theorem witness_CycleEnds :
    (let d : Dev := (P 4 [(Reg.PRT_CYCLES 0, 0xFFFFFFFF)] (fun x => { x with cycOn := true })).dev; let p : Slot := 0;
      d.portal[p].cycOn = true)
    ∧ (let d : Dev := (P 4 [(Reg.PRT_CYCLES 0, 0xFFFFFF)] (fun x => { x with cycOn := true })).dev; let p : Slot := 0; let i : Nat := 11;
      let q : Slot := 11; d.portal[p].cycOn = true ∧ i < 12 ∧ q ≠ p)
    ∧ (let d : Dev := (P 4 [(Reg.PRT_CYCLES 0, 0xFFFFFF)] (fun x => { x with cycOn := false })).dev; let p : Slot := 0;
      d.portal[p].cycOn = false) := by
  repeat refine ⟨by decide +kernel, ?_⟩
  decide +kernel

theorem witness_TrainLineChannels :
    (let t : Nat := 77; let ch : Fin 9 := 8; let lvl : Bool := true; let before : List Bool := List.replicate 98 true;
      let s : State := P 4 [(Reg.ILK_CFG, 1)];
      (2000 * (List.takeWhile (fun v => v == lvl) before).length < 200000 * s.dev.begin.rdF Reg.ILK_CFG 7 0 ∨ ¬(s.dev.begin.ilk.tlLvl.getD (↑ch) false ≠ lvl ∨ s.dev.begin.ilk.tlQual.getD (↑ch) false = false) ∨ s.dev.begin.fio.sag = true ∨ s.dev.begin.fio.sagEnd ≠ 0
      ∧ max s.dev.begin.now t ≤ s.dev.begin.fio.sagEnd + 200000 * s.dev.begin.rdF Reg.ILK_CFG 7 0))
    ∧ (let t : Nat := 77; let ch : Fin 9 := 0; let lvl : Bool := true; let before : List Bool := []; let s : State := P 4;
      let d : Dev := s.dev.begin; 200000 * d.rdF Reg.ILK_CFG 7 0 ≤ 2000 * (List.takeWhile (fun v => v == lvl) before).length
      ∧ (d.ilk.tlLvl.getD (↑ch) false ≠ lvl ∨ d.ilk.tlQual.getD (↑ch) false = false) ∧ d.fio.sag = false
      ∧ (d.fio.sagEnd = 0 ∨ d.fio.sagEnd + 2000 * before.length < max d.now t) ∧ d.ilk.tlLvl.length = 9 ∧ d.ilk.tlQual.length = 9
      ∧ d.ilk.pairs.length = 4)
    ∧ (let t : Nat := 77; let ch : Fin 9 := 0; let lvl : Bool := false; let before : List Bool := [true];
      let s : State := S ((up []).modIlk (fun i => { i with tlLvl := [true,false,false,false,true,true,false,false,false], tlQual := List.replicate 9 true, pairs := [.discrepant, .absent, .present, .absent], discAt := [none, none, none, none]}));
      let d : Dev := s.dev.begin; 200000 * d.rdF Reg.ILK_CFG 7 0 ≤ 2000 * (List.takeWhile (fun v => v == lvl) before).length
      ∧ (d.ilk.tlLvl.getD (↑ch) false ≠ lvl ∨ d.ilk.tlQual.getD (↑ch) false = false) ∧ d.fio.sag = false
      ∧ (d.fio.sagEnd = 0 ∨ d.fio.sagEnd + 2000 * before.length < max d.now t) ∧ d.ilk.tlLvl.length = 9 ∧ d.ilk.tlQual.length = 9
      ∧ d.ilk.pairs.length = 4) := by
  repeat refine ⟨by decide +kernel, ?_⟩
  decide +kernel

theorem witness_DoorLoopTimersAndStaleInputs :
    (let i : Fin 4 := 3; let t0 : Nat := 9;
      let s : State := S ((up [(Reg.ILK_CFG,0x10100)]).modIlk (fun i => { i with pairs := [.absent, .absent, .absent, .transit], discAt := [none, none, none, some 9]}));
      let d : Dev := s.dev.begin; d.ilk.pairs.length = 4 ∧ d.ilk.discAt.getD (↑i) none = some t0)
    ∧ (let t0 : Nat := 9; let s : State := S ((up [(Reg.ILK_CFG,0x10100)]).modIlk (fun i => { i with killAt := some 9}));
      s.dev.begin.ilk.killAt = some t0)
    ∧ (let t0 : Nat := 9; let s : State := S ((up [(Reg.ILK_CFG,0x10100)]).modIlk (fun i => { i with openAt := some 9}));
      s.dev.begin.ilk.openAt = some t0)
    ∧ (let k : Fin 8 := 0;
      let s : State := S (((up [(Reg.ILK_LOCK_CLASS, 1)])).modFio (fun f => { f with hs := f.hs.set 40 { diag := 5 } }));
      let d : Dev := s.dev.begin; d.lockClass (⟨40 + k.val, by omega⟩ : Ch) = true
      ∧ d.perm (d.lockSide (⟨40 + k.val, by omega⟩ : Ch) == 2) = false ∧ d.fio.hs[40 + k.val].diag = 5)
    ∧ (let k : Fin 8 := 0;
      let s : State := S (((up [(Reg.ILK_LOCK_CLASS, 1)])).modFio (fun f => { f with hs := f.hs.set 40 { diag := 5 } }));
      let d : Dev := s.dev.begin; d.lockClass (⟨40 + k.val, by omega⟩ : Ch) = true
      ∧ d.perm (d.lockSide (⟨40 + k.val, by omega⟩ : Ch) == 2) = false ∧ d.fio.hs[40 + k.val].diag = 5)
    ∧ (let i : Din := 1; let m : IlkMap := mp;
      let s : State := S ((up [(Reg.ILK_STATUS, 0x4C000000)]).modIlk (fun i => { i with map := some mp})); let d : Dev := s.dev.begin;
      d.ilk.map = some m ∧ ↑i ∈ m.dins ∧ d.fio.dins[i].inv = true ∧ ↑i ∉ d.ilk.stale)
    ∧ (let i : Din := 2; let m : IlkMap := mp;
      let s : State := S ((up [(Reg.ILK_STATUS, 0x4C000000), (Reg.FIN_IN_LVL 0, 7),(Reg.FIN_IN_QUAL 0, 3)]).modIlk (fun i => { i with map := some mp}));
      let d : Dev := s.dev.begin; d.ilk.map = some m ∧ ↑i ∈ m.dins ∧ d.fio.dins[i].inv = true ∧ ↑i ∉ d.ilk.stale) := by
  repeat refine ⟨by decide +kernel, ?_⟩
  decide +kernel

theorem witness_MovesQueuedOrRefused :
    (let a : Axis := 0; let tgt : Word := 100; let attr : Word := 0x100; let tgt2 : Word := 0; let s : State := M 0;
      let d : Dev := s.dev.begin; d.hostUp = true ∧ d.drivesAx a = true ∧ d.mcmdDead a = false ∧ d.mot[a].mcmdCnt < 8 ∧ d.axEn a = true
      ∧ d.follow a = false ∧ d.mot[a].slaveOf = none ∧ d.mot[a].home = HomeStep.idle ∧ fld attr 16 8 ≠ 0 ∧ d.limitsSet a = true
      ∧ d.mot[a].silenced = false ∧ d.mot[a].alignDue = false ∧ (bit attr 18 = true → d.coordOk a = true ∧ d.swingOf a ≠ some a)
      ∧ (d.profileDone a).mot[a].queue.length < 8)
    ∧ (let a : Axis := 16; let tgt : Word := 200; let attr : Word := 0x10000; let tgt2 : Word := 50;
      let s : State := M 16 [] (fun x => { x with running := true, lastTgt := 256, sp := 250, queue := [⟨25600, 256, false, false, 0, none, false⟩] });
      let d : Dev := s.dev.begin; d.hostUp = true ∧ d.drivesAx a = true ∧ d.mcmdDead a = false ∧ d.mot[a].mcmdCnt < 8 ∧ d.axEn a = true
      ∧ d.follow a = false ∧ d.mot[a].slaveOf = none ∧ d.mot[a].home = HomeStep.idle ∧ fld attr 16 8 ≠ 0 ∧ d.limitsSet a = true
      ∧ d.mot[a].silenced = false ∧ d.mot[a].alignDue = false ∧ (bit attr 18 = true → d.coordOk a = true ∧ d.swingOf a ≠ some a)
      ∧ (d.profileDone a).mot[a].queue.length < 8)
    ∧ (let a : Axis := 16; let attr : Word := 0x10000; let s : State := M 16 [] mv; let d : Dev := s.dev.begin; d.hostUp = true
      ∧ d.drivesAx a = true ∧ d.mcmdDead a = false ∧ d.mot[a].mcmdCnt < 8 ∧ d.axEn a = true ∧ d.follow a = false ∧ d.mot[a].slaveOf = none
      ∧ d.mot[a].home = HomeStep.idle ∧ fld attr 16 8 ≠ 0 ∧ d.limitsSet a = true ∧ d.mot[a].silenced = false ∧ d.mot[a].alignDue = false
      ∧ (bit attr 18 = true → d.coordOk a = true ∧ d.swingOf a ≠ some a))
    ∧ (let a : Axis := 0; let tgt : Word := 100; let attr : Word := 0x100; let tgt2 : Word := 0; let i : Instr := .push 0 100 0x100 0;
      let s : State := M2 0 [(Reg.PRT_STATE 0, 0x10000)]; let d : Dev := s.dev.begin;
      i ∈ [Instr.push a tgt attr tgt2, Instr.retarget a tgt attr tgt2, Instr.stop a, Instr.qstop a, Instr.halt a, Instr.realign a, Instr.home a]
      ∧ d.hostUp = true ∧ (d.drivesAx a = false ∨ d.mcmdDead a = true ∨ 8 ≤ d.mot[a].mcmdCnt))
    ∧ (let a : Axis := 0; let tgt : Word := 100; let attr : Word := 0x100; let tgt2 : Word := 0; let i : Instr := .home 0;
      let s : State := M2 0 [] (fun x => { x with mcmdCnt := 8 }); let d : Dev := s.dev.begin;
      i ∈ [Instr.push a tgt attr tgt2, Instr.retarget a tgt attr tgt2, Instr.stop a, Instr.qstop a, Instr.halt a, Instr.realign a, Instr.home a]
      ∧ d.hostUp = true ∧ (d.drivesAx a = false ∨ d.mcmdDead a = true ∨ 8 ≤ d.mot[a].mcmdCnt))
    ∧ (let a : Axis := 0; let tgt : Word := 100; let attr : Word := 0x100; let tgt2 : Word := 0; let i : Instr := .retarget 0 100 0x100 0;
      let s : State := M2 0 [(Reg.SAX_CTRL 0, 0)]; let d : Dev := s.dev.begin;
      i ∈ [Instr.retarget a tgt attr tgt2, Instr.stop a, Instr.qstop a, Instr.halt a, Instr.realign a, Instr.home a] ∧ d.hostUp = true
      ∧ (¬(d.drivesAx a = false ∨ d.mcmdDead a = true ∨ 8 ≤ d.mot[a].mcmdCnt)) ∧ d.axEn a = false)
    ∧ (let a : Axis := 16; let tgt : Word := 100; let attr : Word := 0x100; let tgt2 : Word := 0; let i : Instr := .home 16;
      let s : State := M2 0 [(Reg.STX_CTRL 0, 0)]; let d : Dev := s.dev.begin;
      i ∈ [Instr.retarget a tgt attr tgt2, Instr.stop a, Instr.qstop a, Instr.halt a, Instr.realign a, Instr.home a] ∧ d.hostUp = true
      ∧ (¬(d.drivesAx a = false ∨ d.mcmdDead a = true ∨ 8 ≤ d.mot[a].mcmdCnt)) ∧ d.axEn a = false)
    ∧ (let a : Axis := 0; let s : State := M2 0 [(Reg.SAX_CTRL 0, 0)] mv; let d : Dev := s.dev.begin; d.hostUp = true
      ∧ (¬(d.drivesAx a = false ∨ d.mcmdDead a = true ∨ 8 ≤ d.mot[a].mcmdCnt)) ∧ d.axEn a = false)
    ∧ (let a : Axis := 0;
      let s : State := M2 0 [] (fun x => { mv x with queue := List.replicate 8 ⟨25600, 256, false, false, 0, none, false⟩ });
      let d : Dev := s.dev.begin; d.hostUp = true ∧ (¬(d.drivesAx a = false ∨ d.mcmdDead a = true ∨ 8 ≤ d.mot[a].mcmdCnt))
      ∧ d.axEn a = true ∧ d.mot[a].alignDue = false ∧ d.mot[a].segs ≠ [] ∧ 8 ≤ d.mot[a].queue.length)
    ∧ (let a : Axis := 0; let i : Instr := .halt 0; let s : State := M2 0 [] mv; let d : Dev := s.dev.begin; ↑a < 16
      ∧ i ∈ [Instr.halt a, Instr.home a] ∧ d.hostUp = true ∧ (¬(d.drivesAx a = false ∨ d.mcmdDead a = true ∨ 8 ≤ d.mot[a].mcmdCnt))
      ∧ d.axEn a = true ∧ d.mot[a].alignDue = false)
    ∧ (let a : Axis := 0; let i : Instr := .home 0; let s : State := M2 0; let d : Dev := s.dev.begin; ↑a < 16
      ∧ i ∈ [Instr.halt a, Instr.home a] ∧ d.hostUp = true ∧ (¬(d.drivesAx a = false ∨ d.mcmdDead a = true ∨ 8 ≤ d.mot[a].mcmdCnt))
      ∧ d.axEn a = true ∧ d.mot[a].alignDue = false) := by
  repeat refine ⟨by decide +kernel, ?_⟩
  decide +kernel

theorem witness_AxesStopAndAlign :
    (let a : Axis := 0; let s : State := M2 0 [] mv; let d : Dev := s.dev.begin; d.hostUp = true ∧ d.drivesAx a = true
      ∧ d.mcmdDead a = false ∧ d.mot[a].mcmdCnt < 8 ∧ d.axEn a = true ∧ d.mot[a].alignDue = false ∧ d.mot[a].home = HomeStep.idle
      ∧ d.swingOf a ≠ some a ∧ d.mot[a].busy = true)
    ∧ (let a : Axis := 16; let n : Stx := 0; let s : State := M 16 [] mv; let d : Dev := s.dev.begin; d.hostUp = true ∧ d.drivesAx a = true
      ∧ d.mcmdDead a = false ∧ d.mot[a].mcmdCnt < 8 ∧ d.axEn a = true ∧ d.mot[a].alignDue = false ∧ d.mot[a].home = HomeStep.idle
      ∧ d.swingOf a ≠ some a ∧ d.mot[a].busy = true ∧ a = Stx.axis n)
    ∧ (let a : Axis := 16; let n : Stx := 0; let s : State := M 16; let d : Dev := s.dev.begin; a = Stx.axis n ∧ d.hostUp = true
      ∧ d.drivesAx a = true ∧ d.mcmdDead a = false ∧ d.mot[a].mcmdCnt < 8 ∧ d.axEn a = true ∧ d.mot[a].alignDue = false
      ∧ d.mot[a].home = HomeStep.idle ∧ d.swingOf a ≠ some a ∧ (d.mot[a].silenced = true ∨ d.mot[a].busy = false
      ∧ d.mot[a].home = HomeStep.idle))
    ∧ (let a : Axis := 0; let s : State := M2 0 [] (fun x => { mv x with segs := [] }); let d : Dev := s.dev.begin; d.mot[a].running = true
      ∧ d.mot[a].segs = [] ∧ (d.follow a = true → d.mot[a].queue = [] → d.mot[a].home ≠ HomeStep.idle))
    ∧ (let a : Axis := 16; let s : State := M2 16 [] (fun x => { mv x with segs := [] }); let d : Dev := s.dev.begin;
      d.mot[a].running = true ∧ d.mot[a].segs = [] ∧ (d.follow a = true → d.mot[a].queue = [] → d.mot[a].home ≠ HomeStep.idle))
    ∧ (let a : Axis := 0; let s : State := M2 0; let d : Dev := s.dev.begin; d.hostUp = true ∧ d.drivesAx a = true ∧ d.mcmdDead a = false
      ∧ d.mot[a].mcmdCnt < 8 ∧ d.axEn a = true ∧ d.mot[a].alignDue = false ∧ (d.mot[a].silenced = true ∨ d.mot[a].busy = false
      ∧ d.mot[a].home = HomeStep.idle))
    ∧ (let s : State := M 0; s.dev.begin.hostUp = true)
    ∧ (let a : Axis := 0; let i : Fin 4 := 3; let s : State := M 0 [(Reg.MOT_CMP_CTRL 0 3, 0x43F)]; let d : Dev := s.dev.begin;
      d.hostUp = true ∧ d.cmpArmFails a ↑i = true ∧ ↑i ∉ d.mot[a].cmpArm)
    ∧ (let a : Axis := 16; let i : Fin 4 := 3; let s : State := M 16 [(Reg.MOT_CMP_CTRL 16 3, 0x401)]; let d : Dev := s.dev.begin;
      d.hostUp = true ∧ d.cmpArmFails a ↑i = true ∧ ↑i ∉ d.mot[a].cmpArm)
    ∧ (let a : Axis := 0; let i : Fin 4 := 3; let s : State := M 0 [(Reg.MOT_CMP_CTRL 0 3, 0x1000), (Reg.MOT_CMP_POS 0 3, 10)];
      let d : Dev := s.dev.begin; d.hostUp = true ∧ d.cmpArmFails a ↑i = false ∧ d.cmpDir a ↑i = 1)
    ∧ (let a : Axis := 0; let i : Fin 4 := 3;
      let s : State := M 0 [(Reg.MOT_CMP_CTRL 0 3, 0x1000), (Reg.MOT_CMP_POS 0 3, 10), (Reg.ENC_COUNT 0, 33), (Reg.ENC_SPEED 0, 33)];
      let d : Dev := s.dev.begin; d.hostUp = true ∧ d.cmpArmFails a ↑i = false ∧ d.cmpDir a ↑i = 1)
    ∧ (let a : Axis := 0; let i : Fin 4 := 3;
      let s : State := M 0 [(Reg.MOT_CMP_CTRL 0 3, 0x6000), (Reg.MOT_CMP_POS 0 3, 10), (Reg.ENC_COUNT 0, 33)];
      let d : Dev := s.dev.begin; d.hostUp = true ∧ d.cmpArmFails a ↑i = false ∧ d.cmpDir a ↑i = 2)
    ∧ (let a : Axis := 0; let i : Fin 4 := 3;
      let s : State := M 0 [(Reg.MOT_CMP_CTRL 0 3, 0x2000), (Reg.MOT_CMP_POS 0 3, 100), (Reg.ENC_COUNT 0, 33), (Reg.ENC_SPEED 0, 0xFFFFFF00)];
      let d : Dev := s.dev.begin; d.hostUp = true ∧ d.cmpArmFails a ↑i = false ∧ d.cmpDir a ↑i = 2)
    ∧ (let a : Axis := 0; let i : Fin 4 := 3;
      let s : State := M 0 [(Reg.MOT_CMP_CTRL 0 3, 0x0000), (Reg.MOT_CMP_POS 0 3, 10), (Reg.ENC_COUNT 0, 33)];
      let d : Dev := s.dev.begin; d.hostUp = true ∧ d.cmpArmFails a ↑i = false ∧ d.cmpDir a ↑i = 0)
    ∧ (let a : Axis := 0; let i : Fin 4 := 3;
      let s : State := M 0 [(Reg.MOT_CMP_CTRL 0 3, 0x3000), (Reg.MOT_CMP_POS 0 3, 10), (Reg.ENC_COUNT 0, 33)];
      let d : Dev := s.dev.begin; d.hostUp = true ∧ d.cmpArmFails a ↑i = false ∧ d.cmpDir a ↑i = 3)
    ∧ (let a : Axis := 16; let i : Fin 4 := 3;
      let s : State := M 16 [(Reg.MOT_CMP_CTRL 16 3, 0x7400), (Reg.MOT_CMP_POS 16 3, 33), (Reg.ENC_COUNT 0, 33)];
      let d : Dev := s.dev.begin; d.hostUp = true ∧ d.cmpArmFails a ↑i = false ∧ d.cmpDir a ↑i = 3) := by
  repeat refine ⟨by decide +kernel, ?_⟩
  decide +kernel

theorem witness_LatchesAndHoming :
    (let s : State := M 0; s.dev.begin.hostUp = true)
    ∧ (let s : State := M 0 [(Reg.MOT_LATCH_CFG 0, 0xFFFF)]; s.dev.begin.hostUp = true)
    ∧ (let a : Axis := 0; let l : LatchPend := lpp; let rest : List LatchPend := []; let t : Nat := 7;
      let s : State := (let s := M 0 [(Reg.MOT_LATCH_CFG 0, 0x8000)] (fun x => { x with latch := [lpp], hist := [(3, 10), (1, 2)] });
      { s with dev := s.dev.modTime (fun t => { t with periodStart := 8 }) }); let d : Dev := s.dev.begin; d.mot[a].latch = l :: rest
      ∧ l.seenAt = some t ∧ t < d.time.periodStart ∧ d.mot[a].home ≠ HomeStep.approach)
    ∧ (let a : Axis := 0; let l : LatchPend := lpp; let rest : List LatchPend := [lpp]; let t : Nat := 7;
      let s : State := (let s := M 0 [(Reg.MOT_LATCH_CFG 0, 0xC000), (Reg.MOT_MCFG 0, 8), (Reg.MOT_LATCH_REF 0, 500)] (fun x => { mv x with latch := [lpp, lpp], hist := [(3, 10), (1, 2)] });
      { s with dev := s.dev.modTime (fun t => { t with periodStart := 8 }) }); let d : Dev := s.dev.begin; d.mot[a].latch = l :: rest
      ∧ l.seenAt = some t ∧ t < d.time.periodStart ∧ d.mot[a].home ≠ HomeStep.approach)
    ∧ (let a : Axis := 16; let l : LatchPend := lpp; let rest : List LatchPend := []; let t : Nat := 7;
      let s : State := (let s := M 16 [(Reg.MOT_LATCH_CFG 16, 0x8000)] (fun x => { mv x with home := .approach, latch := [lpp], hist := [(3, 10), (1, 2)] });
      { s with dev := s.dev.modTime (fun t => { t with periodStart := 8 }) }); let d : Dev := s.dev.begin; d.mot[a].latch = l :: rest
      ∧ l.seenAt = some t ∧ t < d.time.periodStart ∧ d.mot[a].home = HomeStep.approach ∧ l.made = true)
    ∧ (let a : Axis := 16; let l : LatchPend := lpp; let rest : List LatchPend := []; let t : Nat := 7;
      let s : State := (let s := M 16 [(Reg.MOT_LATCH_CFG 16, 0x8000)] (fun x => { mv x with home := .approach, latch := [lpp], hist := [(3, 10), (1, 2)] });
      { s with dev := s.dev.modTime (fun t => { t with periodStart := 8 }) }); let d : Dev := s.dev.begin; d.mot[a].latch = l :: rest
      ∧ l.seenAt = some t ∧ t < d.time.periodStart ∧ d.mot[a].home = HomeStep.approach ∧ l.made = true)
    ∧ (let n : Stx := 0; let s : State := M 16 hm; let d : Dev := s.dev.begin; d.hostUp = true ∧ d.drivesAx (Stx.axis n) = true
      ∧ d.mcmdDead (Stx.axis n) = false ∧ d.mot[Stx.axis n].mcmdCnt < 8 ∧ d.axEn (Stx.axis n) = true ∧ d.mot[Stx.axis n].alignDue = false
      ∧ (d.profileDone (Stx.axis n)).mot[Stx.axis n].busy = false ∧ d.mot[Stx.axis n].home = HomeStep.idle
      ∧ d.mot[Stx.axis n].silenced = false ∧ d.mot[Stx.axis n].slaveOf = none ∧ d.rdF (Reg.MOT_LATCH_CFG ↑(Stx.axis n)) 6 0 < 96
      ∧ (∀ (p : Slot), d.portalOf (Stx.axis n) = some p → d.rdF (Reg.MOT_LATCH_CFG ↑(Stx.axis n)) 6 0 = d.rdF (Reg.PRT_INPUT_MAP (↑p) 1) 14 8)
      ∧ ↑(BitVec.toNat (d.rd (Reg.MOT_HOME_SEEK_V ↑(Stx.axis n)))) ≠ 0 ∧ ↑(BitVec.toNat (d.rd (Reg.MOT_HOME_CREEP_V ↑(Stx.axis n)))) ≠ 0
      ∧ ↑(BitVec.toNat (d.rd (Reg.MOT_HOME_BACKOFF ↑(Stx.axis n)))) ≠ 0 ∧ ↑(BitVec.toNat (d.rd (Reg.MOT_HOME_MAX ↑(Stx.axis n)))) ≠ 0)
    ∧ (let n : Stx := 0; let s : State := made (M 16 hm (fun x => { mv x with segs := [], queue := [] })); let d : Dev := s.dev.begin;
      d.hostUp = true ∧ d.drivesAx (Stx.axis n) = true ∧ d.mcmdDead (Stx.axis n) = false ∧ d.mot[Stx.axis n].mcmdCnt < 8
      ∧ d.axEn (Stx.axis n) = true ∧ d.mot[Stx.axis n].alignDue = false ∧ (d.profileDone (Stx.axis n)).mot[Stx.axis n].busy = false
      ∧ d.mot[Stx.axis n].home = HomeStep.idle ∧ d.mot[Stx.axis n].silenced = false ∧ d.mot[Stx.axis n].slaveOf = none
      ∧ d.rdF (Reg.MOT_LATCH_CFG ↑(Stx.axis n)) 6 0 < 96
      ∧ (∀ (p : Slot), d.portalOf (Stx.axis n) = some p → d.rdF (Reg.MOT_LATCH_CFG ↑(Stx.axis n)) 6 0 = d.rdF (Reg.PRT_INPUT_MAP (↑p) 1) 14 8)
      ∧ ↑(BitVec.toNat (d.rd (Reg.MOT_HOME_SEEK_V ↑(Stx.axis n)))) ≠ 0 ∧ ↑(BitVec.toNat (d.rd (Reg.MOT_HOME_CREEP_V ↑(Stx.axis n)))) ≠ 0
      ∧ ↑(BitVec.toNat (d.rd (Reg.MOT_HOME_BACKOFF ↑(Stx.axis n)))) ≠ 0 ∧ ↑(BitVec.toNat (d.rd (Reg.MOT_HOME_MAX ↑(Stx.axis n)))) ≠ 0)
    ∧ (let n : Stx := 0; let s : State := made (M 16 hm (fun x => { mv x with home := .seek })); let d : Dev := s.dev.begin;
      d.mot[Stx.axis n].home = HomeStep.seek ∧ d.retMade (Stx.axis n) = true)
    ∧ (let n : Stx := 0; let s : State := made (M 16 hm (fun x => { mv x with home := .seek })); let d : Dev := s.dev.begin;
      d.mot[Stx.axis n].home = HomeStep.seek ∧ d.retMade (Stx.axis n) = true)
    ∧ (let n : Stx := 0; let s : State := M 16 hm (fun x => { mv x with home := .seek, segs := [] }); let d : Dev := s.dev.begin;
      d.mot[Stx.axis n].home = HomeStep.seek ∧ d.mot[Stx.axis n].segs = [] ∧ d.retMade (Stx.axis n) = false)
    ∧ (let n : Stx := 0; let s : State := M 16 hm (fun x => { mv x with home := .seek, segs := [] }); let d : Dev := s.dev.begin;
      d.mot[Stx.axis n].home = HomeStep.seek ∧ d.mot[Stx.axis n].segs = [] ∧ d.retMade (Stx.axis n) = false)
    ∧ (let n : Stx := 0; let s : State := M 16 hm (fun x => { mv x with home := .seekStop, segs := [] }); let d : Dev := s.dev.begin;
      d.mot[Stx.axis n].home = HomeStep.seekStop ∧ d.mot[Stx.axis n].segs = [])
    ∧ (let n : Stx := 0; let s : State := M 16 hm (fun x => { mv x with home := .seekStop, segs := [] }); let d : Dev := s.dev.begin;
      d.mot[Stx.axis n].home = HomeStep.seekStop ∧ d.mot[Stx.axis n].segs = [])
    ∧ (let n : Stx := 0; let s : State := made (M 16 hm (fun x => { mv x with home := .backOff, segs := [] })); let d : Dev := s.dev.begin;
      d.mot[Stx.axis n].home = HomeStep.backOff ∧ d.mot[Stx.axis n].segs = [] ∧ d.retMade (Stx.axis n) = true)
    ∧ (let n : Stx := 0; let s : State := made (M 16 hm (fun x => { mv x with home := .backOff, segs := [] })); let d : Dev := s.dev.begin;
      d.mot[Stx.axis n].home = HomeStep.backOff ∧ d.mot[Stx.axis n].segs = [] ∧ d.retMade (Stx.axis n) = true)
    ∧ (let n : Stx := 0; let s : State := M 16 hm (fun x => { mv x with home := .backOff, segs := [] }); let d : Dev := s.dev.begin;
      d.mot[Stx.axis n].home = HomeStep.backOff ∧ d.mot[Stx.axis n].segs = [] ∧ d.retMade (Stx.axis n) = false)
    ∧ (let n : Stx := 0; let s : State := M 16 hm (fun x => { mv x with home := .backOff, segs := [] }); let d : Dev := s.dev.begin;
      d.mot[Stx.axis n].home = HomeStep.backOff ∧ d.mot[Stx.axis n].segs = [] ∧ d.retMade (Stx.axis n) = false)
    ∧ (let n : Stx := 0; let s : State := M 16 hm (fun x => { mv x with home := .approach, segs := [] }); let d : Dev := s.dev.begin;
      d.mot[Stx.axis n].home = HomeStep.approach ∧ d.mot[Stx.axis n].segs = [])
    ∧ (let n : Stx := 0; let s : State := M 16 hm (fun x => { mv x with home := .approach, segs := [] }); let d : Dev := s.dev.begin;
      d.mot[Stx.axis n].home = HomeStep.approach ∧ d.mot[Stx.axis n].segs = [])
    ∧ (let n : Stx := 0; let s : State := M 16 hm (fun x => { mv x with home := .approachStop, segs := [] }); let d : Dev := s.dev.begin;
      d.mot[Stx.axis n].home = HomeStep.approachStop ∧ d.mot[Stx.axis n].segs = [])
    ∧ (let n : Stx := 0; let s : State := M 16 hm (fun x => { mv x with home := .approachStop, segs := [] }); let d : Dev := s.dev.begin;
      d.mot[Stx.axis n].home = HomeStep.approachStop ∧ d.mot[Stx.axis n].segs = [])
    ∧ (let n : Stx := 0; let s : State := M 16 hm (fun x => { mv x with home := .park, segs := [] }); let d : Dev := s.dev.begin;
      d.mot[Stx.axis n].home = HomeStep.park ∧ d.mot[Stx.axis n].segs = [])
    ∧ (let n : Stx := 0; let s : State := M 16 hm (fun x => { mv x with home := .park, segs := [] }); let d : Dev := s.dev.begin;
      d.mot[Stx.axis n].home = HomeStep.park ∧ d.mot[Stx.axis n].segs = []) := by
  repeat refine ⟨by decide +kernel, ?_⟩
  decide +kernel

theorem witness_QuadratureDecoder :
    (let s : EncSample := ⟨⟨true,false⟩,⟨false,true⟩,⟨true,false⟩⟩;
      let s : State := S ((up [(Reg.ENC_CFG 0, 1)] (({} : Dev).modPwr (fun p => { p with st := .dormant }))).modEnc 0 (fun e => { e with sampAt := 76 }));
      s.dev.begin.pwr.st = PwrSt.dormant)
    ∧ (let t : Nat := 77; let s : EncSample := ⟨⟨true,false⟩,⟨false,true⟩,⟨true,false⟩⟩;
      let s : State := S ((up [(Reg.ENC_CFG 0, 1), (Reg.TBS_STATUS, 1)] (({} : Dev).modTime (fun t => { t with now := 50, nextValley := 60, tc0 := some 5 }))).modEnc 0 (fun e => { e with sampAt := 76 }));
      let d : Dev := s.dev.begin; d.pwr.st ≠ PwrSt.dormant ∧ d.ticking = true ∧ d.time.nextValley ≤ t)
    ∧ (let c : Enc := 0; let t : Nat := 77; let s : EncSample := ⟨⟨false,true⟩,⟨false,true⟩,⟨true,false⟩⟩;
      let s : State := S ((up [(Reg.ENC_CFG 0, 0), (Reg.ENC_STATUS 0, 0), (Reg.ENC_ILL_TOTAL 0, 0xFFFFFFFF), (Reg.SAX_CTRL 0, 1)] (({} : Dev).modTime (fun t => { t with now := 50, nextValley := 1000, tc0 := some 5 }))).modEnc 0 (fun e => { e with sampAt := 76, lvl := [false,false,true], run := [1,4,3] }));
      let d : Dev := s.dev.begin; d.pwr.st ≠ PwrSt.dormant ∧ (d.ticking = false ∨ t < d.time.nextValley) ∧ t ≤ d.enc[c].sampAt + 2
      ∧ d.enc[c].lvl.length = 3 ∧ d.enc[c].run.length = 3)
    ∧ (let c : Enc := 0; let t : Nat := 77; let s : EncSample := ⟨⟨true,false⟩,⟨false,true⟩,⟨true,false⟩⟩;
      let s : State := S ((up [(Reg.ENC_CFG 0, 1), (Reg.MOT_CMP_CTRL 0 0, 0x9880), (Reg.MOT_CMP_CTRL 0 1, 0x9C8F), (Reg.MOT_CMP_POS 0 0, 1), (Reg.MOT_CMP_POS 0 1, 1)] (({} : Dev).modTime (fun t => { t with now := 50, nextValley := 1000, tc0 := some 5 }))).modEnc 0 (fun e => { e with sampAt := 76, lvl := [true,true,true] }));
      let d : Dev := s.dev.begin; d.pwr.st ≠ PwrSt.dormant ∧ (d.ticking = false ∨ t < d.time.nextValley) ∧ t ≤ d.enc[c].sampAt + 2
      ∧ d.enc[c].lvl.length = 3 ∧ d.enc[c].run.length = 3) := by
  repeat refine ⟨by decide +kernel, ?_⟩
  decide +kernel

theorem witness_EncoderEventsIndexAndHall :
    (let c : Enc := 0; let line : Fin 3 := 0;
      let d : Dev := (M' (M2 0 [(Reg.MOT_MSTAT 0, 0x180), (Reg.ENC_STATUS 0, 0x300)]) (fun d => d.modEnc 0 (fun e => { e with uncReq := false, latchKnown := true }))).dev;
      let s : State := S ((up [(Reg.ENC_STATUS 0, 0x700)]).modTime (fun t => { t with posRun := 30 }));
      s.dev.begin.enc[c].winAt + s.dev.begin.rdF (Reg.ENC_CFG ↑c) 23 18 ≤ s.dev.begin.time.posRun ∧ (↑line = 2 → ↑c < 16)
      ∧ d.enc[c].uncReq = false)
    ∧ (let c : Enc := 20; let line : Fin 3 := 1; let s : State := S (up [(Reg.ENC_CFG 20, 1)]);
      s.dev.begin.enc[c].winAt + s.dev.begin.rdF (Reg.ENC_CFG ↑c) 23 18 ≤ s.dev.begin.time.posRun ∧ (↑line = 2 → ↑c < 16) ∧ 16 ≤ ↑c)
    ∧ (let c : Enc := 0;
      let d : Dev := (M' (M 0 [(Reg.ENC_STATUS 0, 32)]) (fun d => d.modEnc 0 (fun e => { e with uncReq := false, latchKnown := true }))).dev;
      let s : State := S (up [(Reg.ENC_CFG 0, 0x140000)]);
      s.dev.begin.time.posRun < s.dev.begin.enc[c].winAt + s.dev.begin.rdF (Reg.ENC_CFG ↑c) 23 18 ∧ d.enc[c].uncReq = false)
    ∧ (let c : Enc := 0;
      let d : Dev := (M' (M2 0 [(Reg.MOT_MSTAT 0, 0x180), (Reg.ENC_STATUS 0, 0x300)]) (fun d => d.modEnc 0 (fun e => { e with uncReq := true, latchKnown := true }))).dev;
      let s : State := S (up []); ↑c < 16 ∧ s.dev.begin.hostUp = true ∧ d.enc[c].uncReq = true ∧ d.drivesAx c = true
      ∧ d.rdB (Reg.ENC_STATUS ↑c) 4 = false ∧ d.rdB (Reg.ENC_STATUS ↑c) 5 = false ∧ (d.mot[c].silenced = true ∨ d.mot[c].busy = false))
    ∧ (let c : Enc := 20; let s : State := S (up []); 16 ≤ ↑c ∧ s.dev.begin.hostUp = true)
    ∧ (let c : Enc := 0;
      let d : Dev := (M' (M2 0 [] (fun x => { mv x with silenced := true })) (fun d => d.modEnc 0 (fun e => { e with uncReq := true, latchKnown := true }))).dev;
      let s : State := S (up [(Reg.ENC_DRIFT_SUM 0, 6)]); d.enc[c].uncReq = true ∧ ↑c < 16 ∧ d.drivesAx c = true
      ∧ d.rdB (Reg.ENC_STATUS ↑c) 4 = false ∧ d.rdB (Reg.ENC_STATUS ↑c) 5 = false ∧ (d.mot[c].silenced = true ∨ d.mot[c].busy = false)
      ∧ s.dev.begin.hostUp = true)
    ∧ (let c : Enc := 0;
      let d : Dev := (M' (M2 0 [] mv) (fun d => d.modEnc 0 (fun e => { e with uncReq := true, latchKnown := true }))).dev;
      let t : Nat := 7;
      let s : State := S ((up [(Reg.ENC_CFG 0, 0x20005), (Reg.ENC_STATUS 0, 5), (Reg.ENC_COUNT 0, 1003), (Reg.ENC_INDEX_LATCH 0, 0), (Reg.ENC_INDEX_CFG 0, 1000), (Reg.ENC_DRIFT_SUM 0, 3)]).modEnc 0 (fun e => { e with latchKnown := true, illAt := none, lvl := [true, false, true], run := [4, 4, 4] }));
      let dev : Dev := s.dev.begin; d.enc[c].uncReq = true ∧ (¬((↑c < 16 ∧ d.drivesAx c = true) ∧ d.rdB (Reg.ENC_STATUS ↑c) 4 = false
      ∧ d.rdB (Reg.ENC_STATUS ↑c) 5 = false ∧ (d.mot[c].silenced = true ∨ d.mot[c].busy = false))) ∧ ↑c < 16 ∧ dev.pwr.st ≠ PwrSt.dormant
      ∧ (dev.ticking = false ∨ t < dev.time.nextValley) ∧ (t < dev.enc[c].sampAt + 2 ∨ dev.encUnsettled c = false)
      ∧ dev.rdB (Reg.ENC_STATUS ↑c) 2 = true ∧ dev.rdB (Reg.ENC_CFG ↑c) 0 = true ∧ dev.rdB (Reg.ENC_CFG ↑c) 2 = true
      ∧ dev.rdB (Reg.ENC_STATUS ↑c) 6 = false ∧ dev.enc[c].zArmed = true ∧ dev.rdB (Reg.ENC_STATUS ↑c) 0 = dev.rdB (Reg.ENC_CFG ↑c) 17
      ∧ dev.rdB (Reg.ENC_STATUS ↑c) 1 = dev.rdB (Reg.ENC_CFG ↑c) 16)
    ∧ (let c : Enc := 0;
      let d : Dev := (M' (M 0 [(Reg.ENC_STATUS 0, 32)]) (fun d => d.modEnc 0 (fun e => { e with uncReq := true, latchKnown := true }))).dev;
      let t : Nat := 7;
      let s : State := S ((up [(Reg.ENC_CFG 0, 0x20005), (Reg.ENC_STATUS 0, 5), (Reg.ENC_COUNT 0, 4294966796), (Reg.ENC_INDEX_LATCH 0, 0), (Reg.ENC_INDEX_CFG 0, 1000), (Reg.ENC_DRIFT_SUM 0, 3)]).modEnc 0 (fun e => { e with latchKnown := true, illAt := none, lvl := [true, false, true], run := [4, 4, 4] }));
      let dev : Dev := s.dev.begin; d.enc[c].uncReq = true ∧ (¬((↑c < 16 ∧ d.drivesAx c = true) ∧ d.rdB (Reg.ENC_STATUS ↑c) 4 = false
      ∧ d.rdB (Reg.ENC_STATUS ↑c) 5 = false ∧ (d.mot[c].silenced = true ∨ d.mot[c].busy = false))) ∧ ↑c < 16 ∧ dev.pwr.st ≠ PwrSt.dormant
      ∧ (dev.ticking = false ∨ t < dev.time.nextValley) ∧ (t < dev.enc[c].sampAt + 2 ∨ dev.encUnsettled c = false)
      ∧ dev.rdB (Reg.ENC_STATUS ↑c) 2 = true ∧ dev.rdB (Reg.ENC_CFG ↑c) 0 = true ∧ dev.rdB (Reg.ENC_CFG ↑c) 2 = true
      ∧ dev.rdB (Reg.ENC_STATUS ↑c) 6 = false ∧ dev.enc[c].zArmed = true ∧ dev.rdB (Reg.ENC_STATUS ↑c) 0 = dev.rdB (Reg.ENC_CFG ↑c) 17
      ∧ dev.rdB (Reg.ENC_STATUS ↑c) 1 = dev.rdB (Reg.ENC_CFG ↑c) 16)
    ∧ (let c : Enc := 16; let s : State := S (up []); 16 ≤ ↑c ∧ s.dev.begin.hostUp = true)
    ∧ (let c : Enc := 0; let t : Nat := 7;
      let s : State := S ((up [(Reg.ENC_CFG 0, 0x20004), (Reg.ENC_STATUS 0, 5)]).modEnc 0 (fun e => { e with lvl := [true, false, true], run := [4, 4, 4] }));
      let d : Dev := s.dev.begin; ↑c < 16 ∧ d.pwr.st ≠ PwrSt.dormant ∧ (d.ticking = false ∨ t < d.time.nextValley)
      ∧ (t < d.enc[c].sampAt + 2 ∨ d.encUnsettled c = false)
      ∧ (d.rdB (Reg.ENC_CFG ↑c) 0 = false ∨ d.rdB (Reg.ENC_CFG ↑c) 2 = false ∨ d.rdB (Reg.ENC_STATUS ↑c) 6 = true ∨ d.rdB (Reg.ENC_STATUS ↑c) 2 = false ∨ d.enc[c].zArmed = false))
    ∧ (let c : Enc := 0; let t : Nat := 7;
      let s : State := S ((up [(Reg.ENC_CFG 0, 0x20001), (Reg.ENC_STATUS 0, 5)]).modEnc 0 (fun e => { e with lvl := [true, false, true], run := [4, 4, 4] }));
      let d : Dev := s.dev.begin; ↑c < 16 ∧ d.pwr.st ≠ PwrSt.dormant ∧ (d.ticking = false ∨ t < d.time.nextValley)
      ∧ (t < d.enc[c].sampAt + 2 ∨ d.encUnsettled c = false)
      ∧ (d.rdB (Reg.ENC_CFG ↑c) 0 = false ∨ d.rdB (Reg.ENC_CFG ↑c) 2 = false ∨ d.rdB (Reg.ENC_STATUS ↑c) 6 = true ∨ d.rdB (Reg.ENC_STATUS ↑c) 2 = false ∨ d.enc[c].zArmed = false))
    ∧ (let c : Enc := 0;
      let s : State := S ((up [(Reg.ENC_CFG 0, 0x9), (Reg.ENC_HALL 0, 0)]).modEnc 0 (fun e => { e with recent := [(6,12),(2,11)] }));
      let d : Dev := s.dev.begin; ↑c < 16 ∧ d.pwr.st ≠ PwrSt.dormant ∧ d.rdB (Reg.ENC_CFG ↑c) 3 = true)
    ∧ (let c : Enc := 0;
      let s : State := S ((up [(Reg.ENC_CFG 0, 0x19), (Reg.ENC_HALL 0, 0x20)]).modEnc 0 (fun e => { e with recent := [(9,12),(2,11)] }));
      let d : Dev := s.dev.begin; ↑c < 16 ∧ d.pwr.st ≠ PwrSt.dormant ∧ d.rdB (Reg.ENC_CFG ↑c) 3 = true) := by
  repeat refine ⟨by decide +kernel, ?_⟩
  decide +kernel

theorem witness_GateShutOff :
    (let n : Sax := 0; let s : State := M2 0 [] mv; let d : Dev := s.dev.begin; d.swingOf (Sax.axis n) ≠ some (Sax.axis n)
      ∧ d.rdB (Reg.SAX_CFG ↑n) 10 = false ∧ d.servo[n].dsmLatch = false)
    ∧ (let n : Sax := 1; let s : State := M2 1 [] (fun x => { mv x with slaveOf := some 0, queue := [] });
      s.dev.begin.swingOf (Sax.axis n) ≠ some (Sax.axis n))
    ∧ (let n : Sax := 0; let s : State := M2 0 [(Reg.SAX_CFG 0, 0x800), (Reg.SAX_DSM_CFG 0, 0x400)] mv; let d : Dev := s.dev.begin;
      d.solo = true ∧ d.swingOf (Sax.axis n) ≠ some (Sax.axis n) ∧ d.rdB (Reg.SAX_CFG ↑n) 11 = true
      ∧ d.rdF (Reg.SAX_DSM_CFG ↑n) 15 10 ≠ 0)
    ∧ (let n : Sax := 0; let s : State := M2 0 [(Reg.SAX_CFG 0, 0x400)] mv; let d : Dev := s.dev.begin; d.solo = true
      ∧ d.swingOf (Sax.axis n) ≠ some (Sax.axis n) ∧ d.rdB (Reg.SAX_CFG ↑n) 10 = true) := by
  repeat refine ⟨by decide +kernel, ?_⟩
  decide +kernel

theorem witness_ServoEnablingAndBanks :
    (let n : Sax := 0; let d : Dev := (B [(Reg.SAX_CTRL 0, 0), (Reg.MOT_POS_OFFSET 0, 5), (Reg.MOT_MSTAT 0, 0x100)]).dev;
      let b : Bool := true; let s : State := B [(Reg.SAX_CTRL 0, 0)]; let dev : Dev := s.dev.begin; dev.hostUp = true
      ∧ dev.drivesAx (Sax.axis n) = true ∧ d.drivesAx (Sax.axis n) = true ∧ d.causeLatched n = false ∧ d.sealed n (d.bankB n) = true
      ∧ d.heldOff = false ∧ d.rdB (Reg.SAX_CTRL ↑n) 0 = false ∧ dev.bankB n = !b ∧ dev.sealed n b = true
      ∧ dev.rdB (Reg.SAX_BANK_CTRL ↑n) 19 = false ∧ dev.solo = true
      ∧ (dev.rdB (Reg.SAX_CTRL ↑n) 0 = true → ∀ (p : Slot), dev.portalOf (Sax.axis n) = some p → dev.rdF (Reg.PRT_STATE ↑p) 3 0 ∈ [0, 1, 9, 10]))
    ∧ (let n : Sax := 0;
      let d : Dev := (M' (B [(Reg.SAX_CTRL 0, 0), (Reg.ENC_COUNT 0, 77), (Reg.MOT_POS_OFFSET 0, 5)]) (fun d => d.modServo 0 (fun x => { x with silenced := true }))).dev;
      let s : State := B [(Reg.SAX_CTRL 0, 0), (Reg.ENC_COUNT 0, 77), (Reg.MOT_POS_OFFSET 0, 5)]; let dev : Dev := s.dev.begin;
      dev.hostUp = true ∧ dev.drivesAx (Sax.axis n) = true ∧ d.drivesAx (Sax.axis n) = true ∧ d.causeLatched n = false
      ∧ d.sealed n (d.bankB n) = true ∧ d.heldOff = false ∧ d.rdB (Reg.SAX_CTRL ↑n) 0 = false)
    ∧ (let n : Sax := 0; let d : Dev := (B [(Reg.SAX_CTRL 0, 0), (Reg.SAX_STATUS 0, 2)]).dev;
      let s : State := M2 0 [(Reg.PRT_STATE 0, 0x10000)]; let dev : Dev := s.dev.begin; dev.hostUp = true
      ∧ dev.drivesAx (Sax.axis n) = false ∧ d.drivesAx (Sax.axis n) = true
      ∧ (d.causeLatched n = true ∨ d.sealed n (d.bankB n) = false ∨ d.heldOff = true))
    ∧ (let n : Sax := 0; let d : Dev := (M2 0 [(Reg.SAX_CTRL 0, 0)]).dev; let s : State := M2 0 [(Reg.SAX_STATUS 0, 0xFF)] mv;
      let dev : Dev := s.dev.begin; d.drivesAx (Sax.axis n) = true
      ∧ (d.causeLatched n = true ∨ d.sealed n (d.bankB n) = false ∨ d.heldOff = true) ∧ dev.hostUp = true
      ∧ dev.drivesAx (Sax.axis n) = true)
    ∧ (let n : Sax := 0; let d : Dev := (M2 0 [] mv).dev;
      let s : State := M' (M2 0 [(Reg.SAX_STATUS 0, 0xFF)]) (fun d => d.modServo 0 (fun x => { x with dsmLatch := true }));
      let dev : Dev := s.dev.begin; d.drivesAx (Sax.axis n) = true ∧ d.swingOf (Sax.axis n) ≠ some (Sax.axis n)
      ∧ d.rdB (Reg.SAX_CTRL ↑n) 0 = true ∧ dev.hostUp = true ∧ dev.drivesAx (Sax.axis n) = true)
    ∧ (let n : Sax := 0; let d : Dev := (B []).dev;
      let s : State := M' (M2 0 [(Reg.SAX_STATUS 0, 0xF0)]) (fun d => d.modServo 0 (fun x => { x with dsmLatch := true }));
      let dev : Dev := s.dev.begin; d.drivesAx (Sax.axis n) = true ∧ d.swingOf (Sax.axis n) ≠ some (Sax.axis n)
      ∧ d.rdB (Reg.SAX_CTRL ↑n) 0 = true ∧ dev.hostUp = true ∧ dev.drivesAx (Sax.axis n) = true)
    ∧ (let n : Sax := 0;
      let d : Dev := (M2 0 [(Reg.ENC_COUNT 0, 77), (Reg.MOT_POS_OFFSET 0, 5)] (fun x => { x with alignDue := true, silenced := true })).dev;
      let b : Bool := true; let i : Nat := 0; let o : Nat := 0; let s : State := B; let dev : Dev := s.dev.begin;
      d.drivesAx (Sax.axis n) = true ∧ d.axEn (Sax.axis n) = true ∧ d.mot[Sax.axis n].alignDue = true ∧ d.mot[Sax.axis n].mcmds = []
      ∧ d.mot[Sax.axis n].replan = false ∧ (∀ (w : Axis), d.swingOf (Sax.axis n) = some w → d.mot[w].replan = false) ∧ i < 18
      ∧ dev.hostUp = true ∧ dev.bankB n = !b ∧ o < 6144 ∧ o % 4 = 0 ∧ dev.rdB (Reg.SAX_BANK_CTRL ↑n) 19 = false
      ∧ dev.drivesAx (Sax.axis n) = true)
    ∧ (let n : Sax := 1;
      let d : Dev := (M2 1 [(Reg.ENC_COUNT 1, 77), (Reg.MOT_POS_OFFSET 1, 5)] (fun x => { x with alignDue := true })).dev;
      d.drivesAx (Sax.axis n) = true ∧ d.axEn (Sax.axis n) = true ∧ d.mot[Sax.axis n].alignDue = true ∧ d.mot[Sax.axis n].mcmds = []
      ∧ d.mot[Sax.axis n].replan = false ∧ (∀ (w : Axis), d.swingOf (Sax.axis n) = some w → d.mot[w].replan = false))
    ∧ (let n : Sax := 0; let b : Bool := false; let i : Nat := 17; let s : State := B [(Reg.SAX_BANK_CTRL 0, 0x70000)];
      let d : Dev := s.dev.begin; i < 18 ∧ d.hostUp = true ∧ d.bankB n = !b)
    ∧ (let n : Sax := 0; let b : Bool := false; let i : Nat := 17; let s : State := B; let d : Dev := s.dev.begin; i < 18 ∧ d.hostUp = true
      ∧ d.bankB n = b)
    ∧ (let n : Sax := 0; let b : Bool := false; let i : Nat := 0; let s : State := B; let d : Dev := s.dev.begin; i < 18 ∧ d.hostUp = true
      ∧ d.bankB n = b)
    ∧ (let n : Sax := 0; let b : Bool := true; let o : Nat := 0x17FC; let s : State := B; let d : Dev := s.dev.begin; o < 6144 ∧ o % 4 = 0
      ∧ d.hostUp = true ∧ d.bankB n = !b ∧ d.rdB (Reg.SAX_BANK_CTRL ↑n) 19 = false)
    ∧ (let n : Sax := 0; let s : State := B [(Reg.SAX_BANK_CTRL 0, 0xE0000)]; let d : Dev := s.dev.begin; d.hostUp = true
      ∧ d.drivesAx (Sax.axis n) = true)
    ∧ (let n : Sax := 5; let b : Bool := true; let s : State := B [(Reg.SAX_CTRL 5, 1), (Reg.SAX_BANK_CTRL 5, 0x60000)];
      let d : Dev := s.dev.begin; d.hostUp = true ∧ d.drivesAx (Sax.axis n) = true ∧ d.bankB n = !b ∧ d.sealed n b = true
      ∧ d.rdB (Reg.SAX_BANK_CTRL ↑n) 19 = false ∧ d.solo = true
      ∧ (d.rdB (Reg.SAX_CTRL ↑n) 0 = true → ∀ (p : Slot), d.portalOf (Sax.axis n) = some p → d.rdF (Reg.PRT_STATE ↑p) 3 0 ∈ [0, 1, 9, 10]))
    ∧ (let n : Sax := 0; let s : State := B [(Reg.PRT_STATE 0, 0x10000)]; let d : Dev := s.dev.begin; d.hostUp = true
      ∧ d.drivesAx (Sax.axis n) = false)
    ∧ (let n : Sax := 0; let b : Bool := true; let s : State := B [(Reg.SAX_BANK_CTRL 0, 0x20000)]; let d : Dev := s.dev.begin;
      d.hostUp = true ∧ d.drivesAx (Sax.axis n) = true ∧ d.bankB n = !b ∧ d.sealed n b = false)
    ∧ (let n : Sax := 0; let b : Bool := true; let s : State := B [(Reg.PRT_STATE 0, 4)]; let d : Dev := s.dev.begin; d.hostUp = true
      ∧ d.drivesAx (Sax.axis n) = true ∧ d.bankB n = !b ∧ d.sealed n b = true ∧ d.rdB (Reg.SAX_BANK_CTRL ↑n) 19 = false ∧ d.solo = true
      ∧ d.rdB (Reg.SAX_CTRL ↑n) 0 = true
      ∧ (¬∀ (p : Slot), d.portalOf (Sax.axis n) = some p → d.rdF (Reg.PRT_STATE ↑p) 3 0 ∈ [0, 1, 9, 10])) := by
  repeat refine ⟨by decide +kernel, ?_⟩
  decide +kernel

theorem witness_LoopStep :
    (let e : Word := 0x3f800000; let kp : Word := 0x3f800000; let ff : Word := 0x3f800000; let hi : Word := 0;
      let i : Word := 0x40000000; fclt hi (fadd (fma i kp e) ff) = true)
    ∧ (let e : Word := 0xbf800000; let kp : Word := 0x3f800000; let ff : Word := 0xbf800000; let lo : Word := 0x3f800000;
      let hi : Word := 0x40000000; let i : Word := 0xc0000000; fclt hi (fadd (fma i kp e) ff) = false
      ∧ fclt (fadd (fma i kp e) ff) lo = true)
    ∧ (let e : Word := 0x3f800000; let kp : Word := 0x3f800000; let ff : Word := 0x3f800000; let lo : Word := 0;
      let hi : Word := 0x42000000; let i : Word := 0x3f800000; fclt hi (fadd (fma i kp e) ff) = false
      ∧ fclt (fadd (fma i kp e) ff) lo = false) := by
  repeat refine ⟨by decide +kernel, ?_⟩
  decide +kernel

theorem witness_TraceCommands :
    (let s : State := S (up [(Reg.TRC_CTRL, 2), (Reg.TRC_PRE, 0)]); let d : Dev := s.dev.begin; d.hostUp = true
      ∧ d.rdF Reg.TRC_CTRL 1 0 ≠ 0)
    ∧ (let s : State := S (up [(Reg.TRC_CTRL, 0xA01), (Reg.TRC_PRE, 10)]); let d : Dev := s.dev.begin; d.hostUp = true
      ∧ d.rdF Reg.TRC_CTRL 1 0 ≠ 0)
    ∧ (let s : State := S (up [(Reg.TRC_CTRL, 0), (Reg.TRC_PRE, 10), (Reg.TRC_STATUS, 0xFFFFFFFF)] ({} |> (Dev.modTrc · (fun x => { x with st := .post }))));
      let d : Dev := s.dev.begin; d.hostUp = true ∧ d.rdF Reg.TRC_CTRL 1 0 = 0)
    ∧ (let s : State := S (up [(Reg.TRC_CTRL, 0), (Reg.TRC_PRE, 10), (Reg.TRC_STATUS, 0xFFFFFFFF)] ({} |> (Dev.modTrc · (fun x => { x with st := .armed }))));
      let d : Dev := s.dev.begin; d.hostUp = true ∧ (d.trace.st = TrcSt.preTrig ∨ d.trace.st = TrcSt.armed)) := by
  repeat refine ⟨by decide +kernel, ?_⟩
  decide +kernel

theorem witness_EdgesAndConfirmation :
    (let e : Edge := 1; let t : Nat := 8807; let idle : Nat := 0; let uv : Nat := 2500000; let d : Dev := (S {}).dev; let p : Slot := 0;
      let s : State := M' (Ed) (fun d => d.modTime (fun t => { t with tc0 := some 7, periodStart := 7 })); let dev : Dev := s.dev.begin;
      idle ≤ 200000 ∧ uv < 5000000 ∧ (dev.upTo t).edgeReads e t = true ∧ dev.edgeMeasured e = true ∧ d.pwmP ≠ 0
      ∧ d.posT ≤ 200000 * match d.rdF (Reg.PRT_OBS_CFG ↑p) 1 0 with | 0 => 6 | 1 => 10 | x => 20)
    ∧ (let e : Edge := 1; let t : Nat := 8807; let idle : Nat := 200000; let uv : Nat := 3000000;
      let d : Dev := (S (dv [(Reg.PRT_OBS_CFG 0, 2)])).dev; let p : Slot := 0;
      let s : State := M' (Ed [] { cand := 4, marginAt := some 4 }) (fun d => d.modTime (fun t => { t with tc0 := some 7, periodStart := 7 }));
      let dev : Dev := s.dev.begin; idle ≤ 200000 ∧ uv < 5000000 ∧ (dev.upTo t).edgeReads e t = true ∧ dev.edgeMeasured e = true
      ∧ d.pwmP ≠ 0 ∧ d.posT ≤ 200000 * match d.rdF (Reg.PRT_OBS_CFG ↑p) 1 0 with | 0 => 6 | 1 => 10 | x => 20)
    ∧ (let e : Edge := 1; let t : Nat := 8807; let idle : Nat := 200000; let uv : Nat := 5000000;
      let d : Dev := (S (dv [(Reg.PRT_OBS_CFG 0, 1)])).dev; let p : Slot := 0;
      let s : State := M' (Ed [] { cand := 4, marginAt := some 4 }) (fun d => d.modTime (fun t => { t with tc0 := some 7, periodStart := 7 }));
      let dev : Dev := s.dev.begin; idle ≤ 200000 ∧ 5000000 ≤ uv ∧ (dev.upTo t).edgeReads e t = true ∧ dev.edgeMeasured e = true
      ∧ d.pwmP ≠ 0 ∧ d.posT ≤ 200000 * match d.rdF (Reg.PRT_OBS_CFG ↑p) 1 0 with | 0 => 6 | 1 => 10 | x => 20)
    ∧ (let e : Edge := 1; let t : Nat := 8807; let idle : Nat := 200000; let uv : Nat := 6000000;
      let d : Dev := (S (dv [(Reg.PRT_OBS_CFG 0, 1), (Reg.TBS_TICK_CFG, 0xA07D0)])).dev; let p : Slot := 0;
      let s : State := M' (Ed [] { cand := 2, marginAt := some 4 }) (fun d => d.modTime (fun t => { t with tc0 := some 7, periodStart := 7 }));
      let dev : Dev := s.dev.begin; idle ≤ 200000 ∧ 5000000 ≤ uv ∧ (dev.upTo t).edgeReads e t = true ∧ dev.edgeMeasured e = true
      ∧ d.pwmP ≠ 0 ∧ d.posT ≤ 200000 * match d.rdF (Reg.PRT_OBS_CFG ↑p) 1 0 with | 0 => 6 | 1 => 10 | x => 20)
    ∧ (let e : Edge := 1; let t : Nat := 8807; let idle : Nat := 200001;
      let s : State := M' (Ed [] { cand := 2, marginAt := some 4 }) (fun d => d.modTime (fun t => { t with tc0 := some 7, periodStart := 7 }));
      let d : Dev := s.dev.begin; 200000 < idle ∧ (d.upTo t).edgeReads e t = true ∧ d.edgeMeasured e = true)
    ∧ (let e : Edge := 1; let t : Nat := 8807; let idle : Nat := 200001;
      let s : State := M' (M' (Ed [] { cand := 7, foreign := true }) (fun d => d.modFio (fun f => { f with sag := true }))) (fun d => d.modTime (fun t => { t with tc0 := some 7, periodStart := 7 }));
      let d : Dev := s.dev.begin; 200000 < idle ∧ (d.upTo t).edgeReads e t = true ∧ d.edgeMeasured e = true)
    ∧ (let e : Edge := 1; let t : Nat := 8807;
      let s : State := M' (Ed [(Reg.CVN_CFG, 2), (Reg.FED_EDG_STATUS, 1)] { cand := 3, foreign := true }) (fun d => d.modTime (fun t => { t with tc0 := some 7, periodStart := 7 }));
      let d : Dev := s.dev.begin; (d.upTo t).edgeReads e t = true ∧ ¬d.edgeMeasured e = true)
    ∧ (let e : Edge := 1; let t : Nat := 8806;
      let s : State := M' (M' (Ed [] { cand := 7, foreign := true }) (fun d => d.modFio (fun f => { f with sag := true }))) (fun d => d.modTime (fun t => { t with tc0 := some 7, periodStart := 7 }));
      ¬(s.dev.begin.upTo t).edgeReads e t = true)
    ∧ (let e : Edge := 1; let t : Nat := 8806;
      let s : State := M' (Ed [(Reg.CVN_CFG, 2), (Reg.FED_EDG_STATUS, 1)] { cand := 3, foreign := true }) (fun d => d.modTime (fun t => { t with tc0 := some 7, periodStart := 7 }));
      ¬(s.dev.begin.upTo t).edgeReads e t = true)
    ∧ (let e : Edge := 1; let t0 : Nat := 7; let s : State := Ed [] { cand := 3, marginAt := some 7 };
      s.dev.begin.fio.edges[e].marginAt = some t0)
    ∧ (let e : Edge := 1; let t0 : Nat := 7;
      let s : State := Ed [(Reg.PRT_EDGE_MAP 0, 0x0101), (Reg.PRT_CFG 0, 0), (Reg.PRT_CFG 1, 2), (Reg.PRT_EDGE_MAP 1, 0x01)] { cand := 3, marginAt := some 7 };
      s.dev.begin.fio.edges[e].marginAt = some t0) := by
  repeat refine ⟨by decide +kernel, ?_⟩
  decide +kernel

theorem witness_BypassAndDrift :
    (let p : Slot := 0; let s : State := withS (S (up [])); let d : Dev := s.dev.begin; d.hostUp = true ∧ d.hasRight 1 = true
      ∧ d.rdB (Reg.PRT_OBS_STATUS ↑p) 15 = false)
    ∧ (let g : Bool := true; let s : State := S (up []); let d : Dev := s.dev.begin; d.hostUp = true ∧ (g = false ∨ d.hasRight 1 = false))
    ∧ (let g : Bool := false; let s : State := withS (S (up [(Reg.PRT_OBS_STATUS 0, 0x8000)])); let d : Dev := s.dev.begin; d.hostUp = true
      ∧ (g = false ∨ d.hasRight 1 = false))
    ∧ (let s : State := withS (S (up [(Reg.PRT_OBS_STATUS 0, 0x8000), (Reg.PRT_OBS_CTRL 0, 1)])); s.dev.begin.hostUp = true) := by
  repeat refine ⟨by decide +kernel, ?_⟩
  decide +kernel

theorem witness_StepDrives :
    (let n : Stx := 0; let b : Bool := false; let cx : Bool := true;
      let d : Dev := (St [(Reg.STX_CTRL 0, 0)] (fun x => { x with issued := 5 })).dev; let s : State := St [] (ca .blank);
      let dev : Dev := s.dev.begin;
      (if b = true then (dev.stepAt n ((if b = true then dev.stepd[n].coilB else dev.stepd[n].coilA).onAt + 50 * dev.rdF (Reg.STX_CHOP_CFG ↑n) 12 8)).stepd[n].coilB else (dev.stepAt n ((if b = true then dev.stepd[n].coilB else dev.stepd[n].coilA).onAt + 50 * dev.rdF (Reg.STX_CHOP_CFG ↑n) 12 8)).stepd[n].coilA).phase = ChopPhase.blank
      ∧ ¬((!(dev.stepAt n ((if b = true then dev.stepd[n].coilB else dev.stepd[n].coilA).onAt + 50 * dev.rdF (Reg.STX_CHOP_CFG ↑n) 12 8)).rdB (Reg.STX_CFG ↑n) 4) = true
      ∧ cx = true
      ∧ (dev.stepAt n ((if b = true then dev.stepd[n].coilB else dev.stepd[n].coilA).onAt + 50 * dev.rdF (Reg.STX_CHOP_CFG ↑n) 12 8)).rdF (Reg.STX_CHOP_CFG ↑n) 27 24 ≤ (if b = true then (dev.stepAt n ((if b = true then dev.stepd[n].coilB else dev.stepd[n].coilA).onAt + 50 * dev.rdF (Reg.STX_CHOP_CFG ↑n) 12 8)).stepd[n].coilB else (dev.stepAt n ((if b = true then dev.stepd[n].coilB else dev.stepd[n].coilA).onAt + 50 * dev.rdF (Reg.STX_CHOP_CFG ↑n) 12 8)).stepd[n].coilA).shorts + 1)
      ∧ (¬(d.rdB (Reg.STX_STATUS ↑n) 6 = true ∨ d.stepd[n].dsmLatch = true)) ∧ d.heldOff = false ∧ d.rdB (Reg.STX_CTRL ↑n) 0 = false
      ∧ (d.stepd[n].silenced = false ∨ d.stepd[n].zeroed = true))
    ∧ (let n : Stx := 0; let b : Bool := true; let cx : Bool := true;
      let d : Dev := (St [(Reg.STX_CTRL 0, 0), (Reg.STX_CFG 0, 0xFF)] (fun x => { x with issued := -5, silenced := true, zeroed := true })).dev;
      let s : State := St [(Reg.STX_CHOP_CFG 0, 0x01000000), (Reg.STX_DSM_CFG 0, 0x2000), (Reg.STX_IFS 0, 0x41000000), (Reg.STX_REF_AB 0 1, 0x3f800000), (Reg.STX_CFG 0, 0x10)] (cb .blank 3 false);
      let dev : Dev := s.dev.begin;
      (if b = true then (dev.stepAt n ((if b = true then dev.stepd[n].coilB else dev.stepd[n].coilA).onAt + 50 * dev.rdF (Reg.STX_CHOP_CFG ↑n) 12 8)).stepd[n].coilB else (dev.stepAt n ((if b = true then dev.stepd[n].coilB else dev.stepd[n].coilA).onAt + 50 * dev.rdF (Reg.STX_CHOP_CFG ↑n) 12 8)).stepd[n].coilA).phase = ChopPhase.blank
      ∧ ¬((!(dev.stepAt n ((if b = true then dev.stepd[n].coilB else dev.stepd[n].coilA).onAt + 50 * dev.rdF (Reg.STX_CHOP_CFG ↑n) 12 8)).rdB (Reg.STX_CFG ↑n) 4) = true
      ∧ cx = true
      ∧ (dev.stepAt n ((if b = true then dev.stepd[n].coilB else dev.stepd[n].coilA).onAt + 50 * dev.rdF (Reg.STX_CHOP_CFG ↑n) 12 8)).rdF (Reg.STX_CHOP_CFG ↑n) 27 24 ≤ (if b = true then (dev.stepAt n ((if b = true then dev.stepd[n].coilB else dev.stepd[n].coilA).onAt + 50 * dev.rdF (Reg.STX_CHOP_CFG ↑n) 12 8)).stepd[n].coilB else (dev.stepAt n ((if b = true then dev.stepd[n].coilB else dev.stepd[n].coilA).onAt + 50 * dev.rdF (Reg.STX_CHOP_CFG ↑n) 12 8)).stepd[n].coilA).shorts + 1)
      ∧ (¬(d.rdB (Reg.STX_STATUS ↑n) 6 = true ∨ d.stepd[n].dsmLatch = true)) ∧ d.heldOff = false ∧ d.rdB (Reg.STX_CTRL ↑n) 0 = false
      ∧ (d.stepd[n].silenced = false ∨ d.stepd[n].zeroed = true))
    ∧ (let n : Stx := 0; let b : Bool := true;
      let d : Dev := (St [(Reg.STX_CTRL 0, 0), (Reg.STX_CFG 0, 0xFF)] (fun x => { x with issued := -5, silenced := true })).dev;
      let s : State := St [(Reg.STX_CHOP_CFG 0, 0x01000000), (Reg.STX_CFG 0, 0)] (cb .blank 0); let dev : Dev := s.dev.begin;
      (if b = true then (dev.stepAt n ((if b = true then dev.stepd[n].coilB else dev.stepd[n].coilA).onAt + 50 * dev.rdF (Reg.STX_CHOP_CFG ↑n) 12 8)).stepd[n].coilB else (dev.stepAt n ((if b = true then dev.stepd[n].coilB else dev.stepd[n].coilA).onAt + 50 * dev.rdF (Reg.STX_CHOP_CFG ↑n) 12 8)).stepd[n].coilA).phase = ChopPhase.blank
      ∧ (!(dev.stepAt n ((if b = true then dev.stepd[n].coilB else dev.stepd[n].coilA).onAt + 50 * dev.rdF (Reg.STX_CHOP_CFG ↑n) 12 8)).rdB (Reg.STX_CFG ↑n) 4) = true
      ∧ (dev.stepAt n ((if b = true then dev.stepd[n].coilB else dev.stepd[n].coilA).onAt + 50 * dev.rdF (Reg.STX_CHOP_CFG ↑n) 12 8)).rdF (Reg.STX_CHOP_CFG ↑n) 27 24 ≤ (if b = true then (dev.stepAt n ((if b = true then dev.stepd[n].coilB else dev.stepd[n].coilA).onAt + 50 * dev.rdF (Reg.STX_CHOP_CFG ↑n) 12 8)).stepd[n].coilB else (dev.stepAt n ((if b = true then dev.stepd[n].coilB else dev.stepd[n].coilA).onAt + 50 * dev.rdF (Reg.STX_CHOP_CFG ↑n) 12 8)).stepd[n].coilA).shorts + 1
      ∧ (¬(d.rdB (Reg.STX_STATUS ↑n) 6 = true ∨ d.stepd[n].dsmLatch = true)) ∧ d.heldOff = false ∧ d.rdB (Reg.STX_CTRL ↑n) 0 = false
      ∧ d.stepd[n].silenced = true ∧ d.stepd[n].zeroed = false)
    ∧ (let n : Stx := 0; let b : Bool := false;
      let d : Dev := (St [(Reg.STX_CTRL 0, 0), (Reg.STX_STATUS 0, 0x40)] (fun x => { x with issued := -5 })).dev;
      let s : State := St [(Reg.STX_CHOP_CFG 0, 0x04000000), (Reg.STX_CFG 0, 0)] (fun x => { ca .blank 3 true x with issued := 5 });
      let dev : Dev := s.dev.begin;
      (if b = true then (dev.stepAt n ((if b = true then dev.stepd[n].coilB else dev.stepd[n].coilA).onAt + 50 * dev.rdF (Reg.STX_CHOP_CFG ↑n) 12 8)).stepd[n].coilB else (dev.stepAt n ((if b = true then dev.stepd[n].coilB else dev.stepd[n].coilA).onAt + 50 * dev.rdF (Reg.STX_CHOP_CFG ↑n) 12 8)).stepd[n].coilA).phase = ChopPhase.blank
      ∧ (!(dev.stepAt n ((if b = true then dev.stepd[n].coilB else dev.stepd[n].coilA).onAt + 50 * dev.rdF (Reg.STX_CHOP_CFG ↑n) 12 8)).rdB (Reg.STX_CFG ↑n) 4) = true
      ∧ (dev.stepAt n ((if b = true then dev.stepd[n].coilB else dev.stepd[n].coilA).onAt + 50 * dev.rdF (Reg.STX_CHOP_CFG ↑n) 12 8)).rdF (Reg.STX_CHOP_CFG ↑n) 27 24 ≤ (if b = true then (dev.stepAt n ((if b = true then dev.stepd[n].coilB else dev.stepd[n].coilA).onAt + 50 * dev.rdF (Reg.STX_CHOP_CFG ↑n) 12 8)).stepd[n].coilB else (dev.stepAt n ((if b = true then dev.stepd[n].coilB else dev.stepd[n].coilA).onAt + 50 * dev.rdF (Reg.STX_CHOP_CFG ↑n) 12 8)).stepd[n].coilA).shorts + 1
      ∧ ((d.rdB (Reg.STX_STATUS ↑n) 6 = true ∨ d.stepd[n].dsmLatch = true) ∨ d.heldOff = true))
    ∧ (let n : Stx := 0; let b : Bool := true; let t : Nat := 77; let bits : List Bool := []; let cx : Bool := true;
      let d : Dev := (St [(Reg.STX_CTRL 0, 1)] (fun x => { x with dsmLatch := true })).dev;
      let s : State := St [(Reg.STX_CHOP_CFG 0, 0x01000000), (Reg.STX_CFG 0, 0)] (cb .on 0); let dev : Dev := s.dev.begin;
      (if b = true then (dev.stepAt n t).stepd[n].coilB else (dev.stepAt n t).stepd[n].coilA).phase = ChopPhase.on
      ∧ (decide (|ftoRat ((dev.stepAt n t).rd (Reg.STX_REF_AB (↑n) b.toNat))| ≤ if (if b = true then (dev.stepAt n t).stepd[n].coilB else (dev.stepAt n t).stepd[n].coilA).plus = true then sincQ ((dev.stepAt n t).rdF (Reg.STX_DSM_CFG ↑n) 15 10) bits * ftoRat ((dev.stepAt n t).rd (Reg.STX_IFS ↑n)) else -(sincQ ((dev.stepAt n t).rdF (Reg.STX_DSM_CFG ↑n) 15 10) bits * ftoRat ((dev.stepAt n t).rd (Reg.STX_IFS ↑n)))) = true ∨ cx = true
      ∧ (!(dev.stepAt n t).rdB (Reg.STX_CFG ↑n) 4) = true)
      ∧ ((d.rdB (Reg.STX_STATUS ↑n) 6 = true ∨ d.stepd[n].dsmLatch = true) ∨ d.heldOff = true))
    ∧ (let n : Stx := 0; let b : Bool := false; let t : Nat := 77; let bits : List Bool := List.replicate 64 true; let cx : Bool := false;
      let d : Dev := (M' (M 16 [] mv) (fun d => d.modStep 0 (ca .on))).dev;
      let s : State := St [(Reg.STX_CHOP_CFG 0, 0x01050000), (Reg.STX_CFG 0, 0), (Reg.STX_DSM_CFG 0, 0x2000), (Reg.STX_IFS 0, 0x41000000), (Reg.STX_REF_AB 0 0, 0x3f800000)] (ca .on 0);
      let dev : Dev := s.dev.begin;
      (if b = true then (dev.stepAt n t).stepd[n].coilB else (dev.stepAt n t).stepd[n].coilA).phase = ChopPhase.on
      ∧ (decide (|ftoRat ((dev.stepAt n t).rd (Reg.STX_REF_AB (↑n) b.toNat))| ≤ if (if b = true then (dev.stepAt n t).stepd[n].coilB else (dev.stepAt n t).stepd[n].coilA).plus = true then sincQ ((dev.stepAt n t).rdF (Reg.STX_DSM_CFG ↑n) 15 10) bits * ftoRat ((dev.stepAt n t).rd (Reg.STX_IFS ↑n)) else -(sincQ ((dev.stepAt n t).rdF (Reg.STX_DSM_CFG ↑n) 15 10) bits * ftoRat ((dev.stepAt n t).rd (Reg.STX_IFS ↑n)))) = true ∨ cx = true
      ∧ (!(dev.stepAt n t).rdB (Reg.STX_CFG ↑n) 4) = true) ∧ d.rdB (Reg.STX_CTRL ↑n) 0 = true
      ∧ (¬(d.rdB (Reg.STX_STATUS ↑n) 6 = true ∨ d.stepd[n].dsmLatch = true)))
    ∧ (let n : Stx := 0; let b : Bool := false; let t : Nat := 77; let bits : List Bool := List.replicate 64 false; let cx : Bool := true;
      let d : Dev := (M' (M 16 [(Reg.STX_STATUS 0, 0x40)]) (fun d => d.modStep 0 (fun x => { ca .on 0 true x with seqBy := 3, seqT0 := 5, seqDone := 1 }))).dev;
      let s : State := St [(Reg.STX_CHOP_CFG 0, 0x01050000), (Reg.STX_CFG 0, 0x10), (Reg.STX_DSM_CFG 0, 0x2000), (Reg.STX_IFS 0, 0x41000000), (Reg.STX_REF_AB 0 0, 0x3f800000)] (ca .on 0);
      let dev : Dev := s.dev.begin;
      (if b = true then (dev.stepAt n t).stepd[n].coilB else (dev.stepAt n t).stepd[n].coilA).phase = ChopPhase.on
      ∧ decide (|ftoRat ((dev.stepAt n t).rd (Reg.STX_REF_AB (↑n) b.toNat))| ≤ if (if b = true then (dev.stepAt n t).stepd[n].coilB else (dev.stepAt n t).stepd[n].coilA).plus = true then sincQ ((dev.stepAt n t).rdF (Reg.STX_DSM_CFG ↑n) 15 10) bits * ftoRat ((dev.stepAt n t).rd (Reg.STX_IFS ↑n)) else -(sincQ ((dev.stepAt n t).rdF (Reg.STX_DSM_CFG ↑n) 15 10) bits * ftoRat ((dev.stepAt n t).rd (Reg.STX_IFS ↑n)))) = false
      ∧ (cx = false ∨ (!(dev.stepAt n t).rdB (Reg.STX_CFG ↑n) 4) = false) ∧ d.rdB (Reg.STX_CTRL ↑n) 0 = true)
    ∧ (let n : Stx := 0; let b : Bool := true; let t : Nat := 77; let bits : List Bool := List.replicate 64 false; let cx : Bool := false;
      let s : State := St [(Reg.STX_CHOP_CFG 0, 0x01050000), (Reg.STX_CFG 0, 0), (Reg.STX_DSM_CFG 0, 0x2000), (Reg.STX_IFS 0, 0x41000000), (Reg.STX_REF_AB 0 1, 0x3f800000)] (cb .on 0);
      let d : Dev := s.dev.begin; (if b = true then (d.stepAt n t).stepd[n].coilB else (d.stepAt n t).stepd[n].coilA).phase = ChopPhase.on
      ∧ decide (|ftoRat ((d.stepAt n t).rd (Reg.STX_REF_AB (↑n) b.toNat))| ≤ if (if b = true then (d.stepAt n t).stepd[n].coilB else (d.stepAt n t).stepd[n].coilA).plus = true then sincQ ((d.stepAt n t).rdF (Reg.STX_DSM_CFG ↑n) 15 10) bits * ftoRat ((d.stepAt n t).rd (Reg.STX_IFS ↑n)) else -(sincQ ((d.stepAt n t).rdF (Reg.STX_DSM_CFG ↑n) 15 10) bits * ftoRat ((d.stepAt n t).rd (Reg.STX_IFS ↑n)))) = false
      ∧ (cx = false ∨ (!(d.stepAt n t).rdB (Reg.STX_CFG ↑n) 4) = false))
    ∧ (let n : Stx := 0; let b : Bool := false; let s : State := St [(Reg.STX_CHOP_CFG 0, 0x50005)] (ca .fast 0);
      let d : Dev := s.dev.begin; d.rdF (Reg.STX_CHOP_CFG ↑n) 20 16 < 16
      ∧ (∀ t ∈ [(100 * d.rdF (Reg.STX_CHOP_CFG n) 6 0 * d.rdF (Reg.STX_CHOP_CFG n) 20 16) / 16, (100 * d.rdF (Reg.STX_CHOP_CFG n) 6 0 * d.rdF (Reg.STX_CHOP_CFG n) 20 16) / 16 + 1], 16 * t < 100 * d.rdF (Reg.STX_CHOP_CFG ↑n) 6 0 * d.rdF (Reg.STX_CHOP_CFG ↑n) 20 16 + 16 → 100 * d.rdF (Reg.STX_CHOP_CFG ↑n) 6 0 * d.rdF (Reg.STX_CHOP_CFG ↑n) 20 16 < 16 * t + 16 → (if b = true then (d.stepAt n ((if b = true then d.stepd[n].coilB else d.stepd[n].coilA).offAt + t)).stepd[n].coilB else (d.stepAt n ((if b = true then d.stepd[n].coilB else d.stepd[n].coilA).offAt + t)).stepd[n].coilA).phase = ChopPhase.fast))
    ∧ (let n : Stx := 0; let b : Bool := true; let s : State := St [(Reg.STX_CHOP_CFG 0, 0x0000F)] (cb .fast 0);
      let d : Dev := s.dev.begin; d.rdF (Reg.STX_CHOP_CFG ↑n) 20 16 < 16
      ∧ (∀ t ∈ [(100 * d.rdF (Reg.STX_CHOP_CFG n) 6 0 * d.rdF (Reg.STX_CHOP_CFG n) 20 16) / 16, (100 * d.rdF (Reg.STX_CHOP_CFG n) 6 0 * d.rdF (Reg.STX_CHOP_CFG n) 20 16) / 16 + 1], 16 * t < 100 * d.rdF (Reg.STX_CHOP_CFG ↑n) 6 0 * d.rdF (Reg.STX_CHOP_CFG ↑n) 20 16 + 16 → 100 * d.rdF (Reg.STX_CHOP_CFG ↑n) 6 0 * d.rdF (Reg.STX_CHOP_CFG ↑n) 20 16 < 16 * t + 16 → (if b = true then (d.stepAt n ((if b = true then d.stepd[n].coilB else d.stepd[n].coilA).offAt + t)).stepd[n].coilB else (d.stepAt n ((if b = true then d.stepd[n].coilB else d.stepd[n].coilA).offAt + t)).stepd[n].coilA).phase = ChopPhase.fast))
    ∧ (let n : Stx := 0; let b : Bool := false;
      let s : State := St [(Reg.STX_REF_AB 0 0, 0xbf800000), (Reg.STX_CHOP_CFG 0, 5)] (ca .slow 0);
      ((if b = true then (s.dev.begin.stepAt n ((if b = true then s.dev.begin.stepd[n].coilB else s.dev.begin.stepd[n].coilA).offAt + 100 * s.dev.begin.rdF (Reg.STX_CHOP_CFG ↑n) 6 0)).stepd[n].coilB else (s.dev.begin.stepAt n ((if b = true then s.dev.begin.stepd[n].coilB else s.dev.begin.stepd[n].coilA).offAt + 100 * s.dev.begin.rdF (Reg.STX_CHOP_CFG ↑n) 6 0)).stepd[n].coilA).phase = ChopPhase.slow ∨ (if b = true then (s.dev.begin.stepAt n ((if b = true then s.dev.begin.stepd[n].coilB else s.dev.begin.stepd[n].coilA).offAt + 100 * s.dev.begin.rdF (Reg.STX_CHOP_CFG ↑n) 6 0)).stepd[n].coilB else (s.dev.begin.stepAt n ((if b = true then s.dev.begin.stepd[n].coilB else s.dev.begin.stepd[n].coilA).offAt + 100 * s.dev.begin.rdF (Reg.STX_CHOP_CFG ↑n) 6 0)).stepd[n].coilA).phase = ChopPhase.fast))
    ∧ (let n : Stx := 0; let b : Bool := true; let s : State := St [(Reg.STX_REF_AB 0 1, 0), (Reg.STX_CHOP_CFG 0, 0x100000)] (cb .fast 0);
      ((if b = true then (s.dev.begin.stepAt n ((if b = true then s.dev.begin.stepd[n].coilB else s.dev.begin.stepd[n].coilA).offAt + 100 * s.dev.begin.rdF (Reg.STX_CHOP_CFG ↑n) 6 0)).stepd[n].coilB else (s.dev.begin.stepAt n ((if b = true then s.dev.begin.stepd[n].coilB else s.dev.begin.stepd[n].coilA).offAt + 100 * s.dev.begin.rdF (Reg.STX_CHOP_CFG ↑n) 6 0)).stepd[n].coilA).phase = ChopPhase.slow ∨ (if b = true then (s.dev.begin.stepAt n ((if b = true then s.dev.begin.stepd[n].coilB else s.dev.begin.stepd[n].coilA).offAt + 100 * s.dev.begin.rdF (Reg.STX_CHOP_CFG ↑n) 6 0)).stepd[n].coilB else (s.dev.begin.stepAt n ((if b = true then s.dev.begin.stepd[n].coilB else s.dev.begin.stepd[n].coilA).offAt + 100 * s.dev.begin.rdF (Reg.STX_CHOP_CFG ↑n) 6 0)).stepd[n].coilA).phase = ChopPhase.fast))
    ∧ (let s : State := St []; s.dev.begin.hostUp = true)
    ∧ (let s : State := St [] (fun x => { x with enReqs := [true] }); s.dev.begin.hostUp = true)
    ∧ (let n : Stx := 0; let s : State := St [(Reg.STX_CUR_CFG 0, 0x05000000)] (fun x => { ca .on 0 true x with standAt := 3 });
      let d : Dev := s.dev.begin; (d.sequence n).stepd[n].stood = false ∧ (d.sequence n).bridgesOn n = true
      ∧ ((d.sequence n).stepAt n ((d.sequence n).stepd[n].standAt + (d.sequence n).rdF (Reg.STX_CUR_CFG ↑n) 31 24 * 20000000)).stepd[n].standAt = (d.sequence n).stepd[n].standAt)
    ∧ (let n : Stx := 0;
      let s : State := St [(Reg.STX_CUR_CFG 0, 0x05000000)] (fun x => { ca .on 0 true x with standAt := 3, seqBy := 2, seqDone := 2 });
      let d : Dev := s.dev.begin; (d.sequence n).stepd[n].stood = false ∧ (d.sequence n).bridgesOn n = true
      ∧ ((d.sequence n).stepAt n ((d.sequence n).stepd[n].standAt + (d.sequence n).rdF (Reg.STX_CUR_CFG ↑n) 31 24 * 20000000)).stepd[n].standAt = (d.sequence n).stepd[n].standAt)
    ∧ (let s : State := St [(Reg.STX_STATUS 0, 0x48)]; s.dev.begin.hostUp = true)
    ∧ (let s : State := St [(Reg.STX_STATUS 0, 0x40)]; s.dev.begin.hostUp = true)
    ∧ (let s : State := St [(Reg.STX_STATUS 0, 0x20)] (fun x => { x with dsmLatch := true }); s.dev.begin.hostUp = true)
    ∧ (let n : Stx := 0; let s : State := M' (M 16 [(Reg.STX_CFG 0, 0x40)] mv) (fun d => d.modStep 0 (ca .on)); let d : Dev := s.dev.begin;
      d.solo = true ∧ d.rdB (Reg.STX_CFG ↑n) 6 = true) := by
  repeat refine ⟨by decide +kernel, ?_⟩
  decide +kernel

theorem witness_EngineControlAndRequests :
    (let p : Slot := 0; let hi : Bool := false; let v : Word := 0x20; let d : Dev := (M' (C 1) (·.wr (Reg.PRT_STATE 0) 0x20074)).dev;
      let s : State := EC; let dev : Dev := s.dev.begin; dev.engRun p = true ∧ dev.fio.frame = [] ∧ dev.fio.badUp = false
      ∧ (∀ (q : Slot), q ≠ p → dev.enabled q = true → ∀ c ∈ dev.chansOf p, c ∉ dev.chansOf q)
      ∧ (∀ i < 32, bit v i = true → 32 * hi.toNat + i ∈ dev.chansOf p) ∧ d.solo = false ∧ d.enabled p = true ∧ d.drives p = true
      ∧ d.cvn.surrendered = false)
    ∧ (let p : Slot := 0; let hi : Bool := true; let v : Word := 0; let s : State := EC; let d : Dev := s.dev.begin; d.engRun p = true
      ∧ d.fio.frame = [] ∧ d.fio.badUp = false ∧ (∀ (q : Slot), q ≠ p → d.enabled q = true → ∀ c ∈ d.chansOf p, c ∉ d.chansOf q)
      ∧ (∀ i < 32, bit v i = true → 32 * hi.toNat + i ∈ d.chansOf p))
    ∧ (let p : Slot := 0; let hi : Bool := true; let v : Word := 0x80000000; let i : Nat := 31; let s : State := EC;
      let d : Dev := s.dev.begin; d.engRun p = true ∧ i < 32 ∧ bit v i = true ∧ 32 * hi.toNat + i ∉ d.chansOf p)
    ∧ (let p : Slot := 0; let s : State := C 1; let d : Dev := s.dev.begin; d.engRun p = true ∧ d.solo = false)
    ∧ (let p : Slot := 0; let s : State := M' (C 1) (·.wr (Reg.PRT_STATE 0) 0x20074); let d : Dev := s.dev.begin; d.engRun p = true
      ∧ d.solo = false)
    ∧ (let s : State := C 0; s.dev.begin.solo = true)
    ∧ (let p : Slot := 0; let i : EngImage := im; let s : State := ER [(Reg.ENG_STATUS 0, 2), (Reg.PRT_STATE 0, 10)];
      let d : Dev := s.dev.begin; d.hostUp = true ∧ d.rdF (Reg.ENG_STATUS ↑p) 1 0 = 2 ∧ (d.drives p = true → d.pst p = psFault)
      ∧ d.bundleReadable = true ∧ (List.filter (fun t => decide (d.now ≤ t + 120000000000)) d.eng[p].excs).length < 3
      ∧ d.eng[p].locked = false ∧ d.eng[p].img = some i)
    ∧ (let p : Slot := 0; let i : EngImage := im;
      let s : State := ER [(Reg.ENG_STATUS 0, 0xA02), (Reg.ENG_RESTARTS 0, 0xFFFFFFFF), (Reg.PRT_STATE 0, 0x10001)] (fun e => { e with excs := [0, 0] });
      let d : Dev := s.dev.begin; d.hostUp = true ∧ d.rdF (Reg.ENG_STATUS ↑p) 1 0 = 2 ∧ (d.drives p = true → d.pst p = psFault)
      ∧ d.bundleReadable = true ∧ (List.filter (fun t => decide (d.now ≤ t + 120000000000)) d.eng[p].excs).length < 3
      ∧ d.eng[p].locked = false ∧ d.eng[p].img = some i)
    ∧ (let p : Slot := 0; let s : State := ER [(Reg.ENG_STATUS 0, 2), (Reg.PRT_STATE 0, 10)] (fun e => { e with excs := [0, 0, 0] });
      let d : Dev := s.dev.begin; d.hostUp = true ∧ (¬(d.rdF (Reg.ENG_STATUS ↑p) 1 0 = 2 ∧ (d.drives p = true → d.pst p = psFault)
      ∧ d.bundleReadable = true ∧ (List.filter (fun t => decide (d.now ≤ t + 120000000000)) d.eng[p].excs).length < 3
      ∧ d.eng[p].locked = false)))
    ∧ (let p : Slot := 0; let s : State := ER [(Reg.ENG_STATUS 0, 2), (Reg.PRT_STATE 0, 9)]; let d : Dev := s.dev.begin; d.hostUp = true
      ∧ (¬(d.rdF (Reg.ENG_STATUS ↑p) 1 0 = 2 ∧ (d.drives p = true → d.pst p = psFault) ∧ d.bundleReadable = true
      ∧ (List.filter (fun t => decide (d.now ≤ t + 120000000000)) d.eng[p].excs).length < 3 ∧ d.eng[p].locked = false)))
    ∧ (let p : Slot := 0;
      let s : State := S (up [(Reg.ENG_STATUS 0, 3), (Reg.PRT_CFG 0, 2)] (((({} : Dev).modEng 0 (fun e => { e with reloadDone := true })).modTime (fun t => { t with now := 50, periodStart := 7 }))));
      let d : Dev := s.dev.begin; d.rdF (Reg.ENG_STATUS ↑p) 1 0 = 3 ∧ d.eng[p].reloadDone = true ∧ d.now ≠ d.time.periodStart)
    ∧ (let p : Slot := 0; let s : State := ER [(Reg.ENG_STATUS 0, 0xA03), (Reg.PRT_STATE 0, 10)] (fun e => { e with reloadDone := true });
      let d : Dev := s.dev.begin; d.rdF (Reg.ENG_STATUS ↑p) 1 0 = 3 ∧ d.eng[p].reloadDone = true ∧ d.now = d.time.periodStart)
    ∧ (let p : Slot := 0;
      let s : State := ER [(Reg.ENG_STATUS 0, 0xA03), (Reg.PRT_STATE 0, 0x10001)] (fun e => { e with reloadDone := true });
      let d : Dev := s.dev.begin; d.rdF (Reg.ENG_STATUS ↑p) 1 0 = 3 ∧ d.eng[p].reloadDone = true ∧ d.now = d.time.periodStart)
    ∧ (let s : State := ER [(Reg.ENG_DONE_MAX 0, 0xA03), (Reg.ENG_WORDS_MAX 0, 0x10001)]; s.dev.begin.hostUp = true) := by
  repeat refine ⟨by decide +kernel, ?_⟩
  decide +kernel

theorem witness_DigitalInputs :
    (let i : Din := 1; let lvl : Bool := true; let t : Nat := 5000; let samples : List DinSample := lv true; let s : State := D1;
      let d : Dev := s.dev.begin; d.dinReads i t = true ∧ samples.head? = some (DinSample.level lvl) ∧ d.fio.grpPast.getD (↑i / 8) [] = []
      ∧ firstRead (d.time.tc0.getD 0) (↑i / 8) (d.grpCfg i) + (samples.length - 1) * max 1 (d.dinEvery i) ≤ t ∧ d.fio.sag = false
      ∧ (List.takeWhile (fun x => x == DinSample.level lvl) (List.filterMap (fun x => if d.fio.dins[i].causeEnd + x.2 * max 1 (d.dinEvery i) < t then some x.1 else none) samples.zipIdx)).length ≠ 0
      ∧ d.debT i ≤ ((List.takeWhile (fun x => x == DinSample.level lvl) (List.filterMap (fun x => if d.fio.dins[i].causeEnd + x.2 * max 1 (d.dinEvery i) < t then some x.1 else none) samples.zipIdx)).length - 1) * max 1 (d.dinEvery i)
      ∧ (d.fio.dins[i].inv = true ∨ d.fio.dins[i].accepted = false ∨ d.dinLvl ↑i ≠ lvl))
    ∧ (let i : Din := 1; let lvl : Bool := true; let t : Nat := 5000; let samples : List DinSample := lv true 7;
      let s : State := D1 [] { causeEnd := 4350 }; let d : Dev := s.dev.begin; d.dinReads i t = true
      ∧ samples.head? = some (DinSample.level lvl) ∧ d.fio.grpPast.getD (↑i / 8) [] = []
      ∧ firstRead (d.time.tc0.getD 0) (↑i / 8) (d.grpCfg i) + (samples.length - 1) * max 1 (d.dinEvery i) ≤ t ∧ d.fio.sag = false
      ∧ (List.takeWhile (fun x => x == DinSample.level lvl) (List.filterMap (fun x => if d.fio.dins[i].causeEnd + x.2 * max 1 (d.dinEvery i) < t then some x.1 else none) samples.zipIdx)).length ≠ 0
      ∧ d.debT i ≤ ((List.takeWhile (fun x => x == DinSample.level lvl) (List.filterMap (fun x => if d.fio.dins[i].causeEnd + x.2 * max 1 (d.dinEvery i) < t then some x.1 else none) samples.zipIdx)).length - 1) * max 1 (d.dinEvery i)
      ∧ (d.fio.dins[i].inv = true ∨ d.fio.dins[i].accepted = false ∨ d.dinLvl ↑i ≠ lvl))
    ∧ (let i : Din := 1; let lvl : Bool := true; let t : Nat := 5000; let samples : List DinSample := lv true 3; let s : State := D1;
      let d : Dev := s.dev.begin; d.dinReads i t = true ∧ samples.head? = some (DinSample.level lvl) ∧ d.fio.grpPast.getD (↑i / 8) [] = []
      ∧ firstRead (d.time.tc0.getD 0) (↑i / 8) (d.grpCfg i) + (samples.length - 1) * max 1 (d.dinEvery i) ≤ t ∧ (¬(d.fio.sag = false
      ∧ (List.takeWhile (fun x => x == DinSample.level lvl) (List.filterMap (fun x => if d.fio.dins[i].causeEnd + x.2 * max 1 (d.dinEvery i) < t then some x.1 else none) samples.zipIdx)).length ≠ 0
      ∧ d.debT i ≤ ((List.takeWhile (fun x => x == DinSample.level lvl) (List.filterMap (fun x => if d.fio.dins[i].causeEnd + x.2 * max 1 (d.dinEvery i) < t then some x.1 else none) samples.zipIdx)).length - 1) * max 1 (d.dinEvery i)
      ∧ (d.fio.dins[i].inv = true ∨ d.fio.dins[i].accepted = false ∨ d.dinLvl ↑i ≠ lvl))))
    ∧ (let i : Din := 1; let lvl : Bool := true; let t : Nat := 5000; let samples : List DinSample := lv true;
      let s : State := D1 [] { causeEnd := 5000 }; let d : Dev := s.dev.begin; d.dinReads i t = true
      ∧ samples.head? = some (DinSample.level lvl) ∧ d.fio.grpPast.getD (↑i / 8) [] = []
      ∧ firstRead (d.time.tc0.getD 0) (↑i / 8) (d.grpCfg i) + (samples.length - 1) * max 1 (d.dinEvery i) ≤ t ∧ (¬(d.fio.sag = false
      ∧ (List.takeWhile (fun x => x == DinSample.level lvl) (List.filterMap (fun x => if d.fio.dins[i].causeEnd + x.2 * max 1 (d.dinEvery i) < t then some x.1 else none) samples.zipIdx)).length ≠ 0
      ∧ d.debT i ≤ ((List.takeWhile (fun x => x == DinSample.level lvl) (List.filterMap (fun x => if d.fio.dins[i].causeEnd + x.2 * max 1 (d.dinEvery i) < t then some x.1 else none) samples.zipIdx)).length - 1) * max 1 (d.dinEvery i)
      ∧ (d.fio.dins[i].inv = true ∨ d.fio.dins[i].accepted = false ∨ d.dinLvl ↑i ≠ lvl))))
    ∧ (let i : Din := 1; let t : Nat := 5000; let samples : List DinSample := [.foreign, .level true];
      let s : State := D1 [(Reg.FIN_IN_QUAL 0, 0xFF)] { accepted := true, inv := false }; s.dev.begin.dinReads i t = true
      ∧ samples.head? = some DinSample.foreign)
    ∧ (let i : Din := 1; let t : Nat := 5000; let samples : List DinSample := [.foreign, .level true];
      let s : State := D1 [(Reg.FIN_IN_QUAL 0, 0xFF)] { accepted := true, inv := false, foreign := true }; s.dev.begin.dinReads i t = true
      ∧ samples.head? = some DinSample.foreign)
    ∧ (let i : Din := 1; let t : Nat := 5001; let samples : List DinSample := [.foreign, .level true]; let s : State := D1;
      (s.dev.begin.dinReads i t = false ∨ samples = []))
    ∧ (let i : Din := 1; let t : Nat := 5000; let samples : List DinSample := []; let s : State := D1;
      (s.dev.begin.dinReads i t = false ∨ samples = []))
    ∧ (let i : Din := 1;
      let s : State := D1 [] { accepted := true, inv := true, causeEnd := 49, foreign := true } (fun f => { f with lost := [1] });
      s.dev.begin.fio.dins[i].foreign = true)
    ∧ (let i : Din := 1;
      let s : State := D1 [(Reg.FIN_IN_LVL 0, 0xFF), (Reg.FIN_IN_QUAL 0, 0xFF)] { accepted := true, inv := true, foreign := true };
      s.dev.begin.fio.dins[i].foreign = true)
    ∧ (let i : Din := 1; let s : State := D1 [(Reg.FIN_IN_LVL 0, 0xFF), (Reg.FIN_IN_QUAL 0, 0xFF)] { accepted := true, inv := false };
      s.dev.begin.fio.dins[i].foreign = false)
    ∧ (let s : State := D1 [(Reg.FIN_IN_CHG 1, 0xF), (Reg.EVC_EN 1, 0xFFFFFFFF)]; s.dev.begin.hostUp = true)
    ∧ (let s : State := D1 [(Reg.FIN_IN_CHG 2, 0xF), (Reg.FIN_IN_EVEN 2, 1)]; s.dev.begin.hostUp = true) := by
  repeat refine ⟨by decide +kernel, ?_⟩
  decide +kernel

theorem witness_SwitchProtection :
    (let c : Ch := 1; let s : State := HS1 { st := .on, req := true }; s.dev.begin.fio.hs[c].st = HsSt.on)
    ∧ (let c : Ch := 41; let s : State := HS1 { st := .on, req := true } [(Reg.ILK_LOCK_CLASS, 0xFF),(Reg.ILK_STATUS, 4)] id 41;
      s.dev.begin.fio.hs[c].st = HsSt.on)
    ∧ (let c : Ch := 1; let t0 : Nat := 4; let s : State := HS1 { st := .limit, req := true, limAt := some 4 }; let d : Dev := s.dev.begin;
      d.fio.hs[c].st = HsSt.limit ∧ d.fio.hs[c].limAt = some t0)
    ∧ (let c : Ch := 1; let t0 : Nat := 4; let s : State := HS1 { st := .limit, req := true, limAt := some 4, spent := 2 };
      let d : Dev := s.dev.begin; d.fio.hs[c].limAt = some t0
      ∧ (d.fio.hs[c].st = HsSt.on ∨ d.fio.hs[c].st = HsSt.limit ∨ d.fio.hs[c].st = HsSt.retryWait))
    ∧ (let c : Ch := 1; let t0 : Nat := 4; let s : State := HS1 { st := .retryWait, req := true, retryAt := some 4, spent := 2 };
      let d : Dev := s.dev.begin; d.fio.hs[c].retryAt = some t0
      ∧ (d.fio.hs[c].st = HsSt.on ∨ d.fio.hs[c].st = HsSt.limit ∨ d.fio.hs[c].st = HsSt.retryWait))
    ∧ (let c : Ch := 1; let s : State := HS1 { st := .thermal, req := true }; s.dev.begin.fio.hs[c].st = HsSt.thermal)
    ∧ (let c : Ch := 1; let s : State := HS1 { st := .thermal, req := true } [] (fun f => { f with sag := true });
      s.dev.begin.fio.hs[c].st = HsSt.thermal)
    ∧ (let c : Ch := 1; let t0 : Nat := 4; let s : State := HS1 { st := .on, req := true, spent := 2, onAt := some 4 };
      s.dev.begin.fio.hs[c].onAt = some t0)
    ∧ (let c : Ch := 1; let s : State := HS1 { st := .latchedOff, req := true, spent := 2 }; let d : Dev := s.dev.begin; d.hostUp = true
      ∧ d.fio.hs[c].st = HsSt.latchedOff)
    ∧ (let c : Ch := 1; let s : State := HS1 { st := .latchedOff, req := false, spent := 2, diag := 1 }; let d : Dev := s.dev.begin;
      d.hostUp = true ∧ d.fio.hs[c].st = HsSt.latchedOff)
    ∧ (let c : Ch := 1; let s : State := HS1 { st := .on, req := true, spent := 2, diag := 1 }; let d : Dev := s.dev.begin; d.hostUp = true
      ∧ d.fio.hs[c].st ≠ HsSt.latchedOff)
    ∧ (let c : Ch := 1; let s : State := HS1 { st := .off, req := false, spent := 2, diag := 1 }; let d : Dev := s.dev.begin;
      d.hostUp = true ∧ d.fio.hs[c].st ≠ HsSt.latchedOff) := by
  repeat refine ⟨by decide +kernel, ?_⟩
  decide +kernel

theorem witness_RequestsInForce :
    (let d : Dev := (HS1 { req := true } [(Reg.ILK_LOCK_CLASS, 0xFF),(Reg.ILK_STATUS, 0x8000000C)] id 41).dev; let c : Ch := 41;
      let s : State := HS1 { req := false }; d.lockClass c = true ∧ d.reqInForce c = true ∧ s.dev.begin.hostUp = true)
    ∧ (let d : Dev := (HS1 { req := true } [(Reg.ILK_LOCK_CLASS, 0xA5),(Reg.ILK_STATUS, 0x8000000C)] id 41).dev; let c : Ch := 41;
      d.lockClass c = true ∧ d.reqInForce c = true)
    ∧ (let d : Dev := (HS1 { req := true } [(Reg.FSW_HS_CFG 1, 0x40000000)] (fun f => { f with posture := true })).dev; let c : Ch := 1;
      d.fio.posture = true ∧ d.reqInForce c = true)
    ∧ (let d : Dev := (HS1 { held := true } [(Reg.FSW_HS_CFG 1, 0x80000000)] (fun f => { f with posture := true })).dev; let c : Ch := 1;
      d.fio.posture = true ∧ d.reqInForce c = true)
    ∧ (let d : Dev := (HS1 { req := true }).dev; let c : Ch := 1; d.fio.posture = false ∧ d.reqInForce c = true ∧ d.lockClass c = false
      ∧ d.fio.hs[c].req = true ∧ d.mappers ↑c = [])
    ∧ (let d : Dev := (HS1 { req := true } [(Reg.PRT_CFG 0, 2), (Reg.PRT_AXIS_MAP 0, 0x01020000), (Reg.PRT_OUTPUT_MAP 0, 0x01020103)]).dev;
      let c : Ch := 1;
      let s : State := HS1 { req := false } [(Reg.PRT_CFG 0, 2), (Reg.PRT_OUTPUT_MAP 0, 0x01020103)] (fun f => { f with frame := [⟨2, 0, 0, false, .put true⟩, ⟨3, 1, 0, true, .toggle⟩, ⟨5, 2, 0, false, .put true⟩], sag := true });
      d.fio.posture = false ∧ d.reqInForce c = true ∧ s.dev.begin.hostUp = true) := by
  repeat refine ⟨by decide +kernel, ?_⟩
  decide +kernel

theorem witness_SwitchDiagnosis :
    (let c : Ch := 1; let s : State := HS1 { lastDiag := 1, diagCnt := 2 } [(Reg.FSW_HS_CFG 1, 0x10000000)]; let d : Dev := s.dev.begin;
      d.fio.hs[c].st = HsSt.off ∧ bit (d.rdSet (Reg.FSW_HS_CFG ↑c)) 28 = true ∧ d.fio.sag = false
      ∧ (bit (d.rdSet (Reg.FSW_HS_CFG ↑c)) 29 = true → d.fio.hs[c].ext = false) ∧ d.fio.hs[c].lastDiag = 1 ∧ 2 ≤ d.fio.hs[c].diagCnt)
    ∧ (let c : Ch := 1; let ext : Bool := false; let high : Bool := false;
      let s : State := HS1 { lastDiag := 1, diagCnt := 3, diag := 1 } [(Reg.FSW_HS_CFG 1, 0x30000000)]; let d : Dev := s.dev.begin;
      d.fio.hs[c].st = HsSt.off ∧ bit (d.rdSet (Reg.FSW_HS_CFG ↑c)) 28 = true ∧ d.fio.sag = false
      ∧ (bit (d.rdSet (Reg.FSW_HS_CFG ↑c)) 29 = true → d.fio.hs[c].ext = false) ∧ d.fio.hs[c].lastDiag = 1 ∧ 2 ≤ d.fio.hs[c].diagCnt
      ∧ d.fio.hs[c].lastDiag ≠ if ext = true then 3 else if high = true then 1 else 0)
    ∧ (let c : Ch := 1; let ext : Bool := false; let high : Bool := true;
      let s : State := HS1 { lastDiag := 0, diagCnt := 3, diag := 0 } [(Reg.FSW_HS_CFG 1, 0x30000000)]; let d : Dev := s.dev.begin;
      d.fio.hs[c].st = HsSt.off ∧ bit (d.rdSet (Reg.FSW_HS_CFG ↑c)) 28 = true ∧ d.fio.sag = false
      ∧ (bit (d.rdSet (Reg.FSW_HS_CFG ↑c)) 29 = true → d.fio.hs[c].ext = false)
      ∧ d.fio.hs[c].lastDiag ≠ if ext = true then 3 else if high = true then 1 else 0)
    ∧ (let c : Ch := 1; let s : State := HS1 { st := .on };
      (s.dev.begin.fio.hs[c].st.out = true ∨ s.dev.begin.fio.sag = true ∨ s.dev.begin.fio.hs[c].ext = true))
    ∧ (let c : Ch := 1; let s : State := HS1 { } [] (fun f => { f with sag := true });
      (s.dev.begin.fio.hs[c].st.out = true ∨ s.dev.begin.fio.sag = true ∨ s.dev.begin.fio.hs[c].ext = true))
    ∧ (let c : Ch := 1; let s : State := HS1 { diag := 2 } [(Reg.FSW_HS_CFG 1, 0x20000000)]; let d : Dev := s.dev.begin;
      d.fio.hs[c].st.out = false ∧ d.fio.sag = false ∧ d.fio.hs[c].ext = false ∧ d.fio.hs[c].diag < 3)
    ∧ (let c : Ch := 1;
      let s : State := HS1 { diag := 1 } [] (fun f => { f with hs := (f.hs.set 5 { st := .on, turnOn := some 13000 }).set 3 { st := .on, turnOn := some 4 } });
      let d : Dev := s.dev.begin; d.fio.hs[c].st.out = false ∧ d.fio.sag = false ∧ d.fio.hs[c].ext = false ∧ d.fio.hs[c].diag < 3)
    ∧ (let c : Ch := 1; let s : State := HS1 { diag := 4, ext := true }; s.dev.begin.fio.hs[c].st.out = false)
    ∧ (let c : Ch := 1; let s : State := HS1 { diag := 1, ext := true }; s.dev.begin.fio.hs[c].st.out = false)
    ∧ (let c : Ch := 1; let s : State := HS1 { diag := 1, st := .on } [(Reg.FSW_HS_CFG 1, 0x08000000)]; let d : Dev := s.dev.begin;
      d.fio.hs[c].st = HsSt.on ∧ bit (d.rdSet (Reg.FSW_HS_CFG ↑c)) 27 = true)
    ∧ (let c : Ch := 1; let s : State := HS1 { diag := 2, st := .on } [(Reg.FSW_HS_CFG 1, 0x08000000)]; let d : Dev := s.dev.begin;
      d.fio.hs[c].st = HsSt.on ∧ bit (d.rdSet (Reg.FSW_HS_CFG ↑c)) 27 = true) := by
  repeat refine ⟨by decide +kernel, ?_⟩
  decide +kernel

theorem witness_SupplySagAndSenseMirror :
    (let s : State := HS1 { st := .on, req := true }; s.dev.begin.fio.sag = false)
    ∧ (let s : State := M' (HS1 { st := .on, req := true }) (fun d => d.modIlk (fun i => { i with tlLvl := List.replicate 9 true, tlQual := List.replicate 9 true, pairs := [.present, .discrepant, .transit, .present] }));
      s.dev.begin.fio.sag = false)
    ∧ (let s : State := HS1 { st := .sagOff, req := true } [] (fun f => { f with sag := true }); s.dev.begin.fio.sag = true)
    ∧ (let s : State := HS1 { st := .sagOff, req := true, sagRetry := true } [(Reg.FSW_SW_STATUS, 0xA)]; let d : Dev := s.dev.begin;
      d.rdF Reg.FSW_SW_STATUS 3 1 < 6 ∧ d.fio.sag = false)
    ∧ (let s : State := HS1 { st := .sagOff, req := true, sagRetry := true } [(Reg.FSW_SW_STATUS, 0)]; let d : Dev := s.dev.begin;
      d.rdF Reg.FSW_SW_STATUS 3 1 < 6 ∧ d.fio.sag = false)
    ∧ (let s : State := HS1 {} [(Reg.FSN_SNS_CFG, 0xC0000000)]; let d : Dev := s.dev.begin; bit (d.rdSet Reg.FSN_SNS_CFG) 31 = true
      ∧ bit (d.rdSet Reg.FSN_SNS_CFG) 30 = true)
    ∧ (let s : State := HS1 {} [(Reg.FSN_SNS_CFG, 0xC0000000), (Reg.FSN_SCAN_MASK 0, 0x11), (Reg.FSN_SCAN_MASK 1, 0x8000), (Reg.FSN_SNS_STATUS, 0x2F00)];
      let d : Dev := s.dev.begin; bit (d.rdSet Reg.FSN_SNS_CFG) 31 = true ∧ bit (d.rdSet Reg.FSN_SNS_CFG) 30 = true)
    ∧ (let code : Nat := 77; let s : State := HS1 {} [(Reg.FSN_SNS_CFG, 0x00010000), (Reg.FSN_SNS_STATUS, 0x2F2F)]; code < 4096
      ∧ s.dev.begin.selNow < 48)
    ∧ (let code : Nat := 0; let s : State := HS1 {} [(Reg.FSN_SNS_CFG, 0), (Reg.FSN_SNS_STATUS, 0x0101)]; code < 4096
      ∧ s.dev.begin.selNow < 48)
    ∧ (let s : State := HS1 {} [(Reg.FSN_SNS_CFG, 0x00100000), (Reg.FSN_SNS_STATUS, 0x2F01)]; s.dev.begin.selNow < 48) := by
  repeat refine ⟨by decide +kernel, ?_⟩
  decide +kernel

theorem witness_StrobeInstant :
    (let s : State := S {}; ¬(s.dev.begin.time.tc0.isSome = true ∧ s.dev.begin.time.xtalOk = true ∧ s.dev.begin.pwr.st ≠ PwrSt.dormant))
    ∧ (let s : State := T .running [] id (·.modPwr (fun p => { p with st := .dormant })); ¬(s.dev.begin.time.tc0.isSome = true
      ∧ s.dev.begin.time.xtalOk = true ∧ s.dev.begin.pwr.st ≠ PwrSt.dormant))
    ∧ (let s : State := T .reset; let d : Dev := s.dev.begin; d.time.tc0.isSome = true ∧ d.time.xtalOk = true ∧ d.pwr.st ≠ PwrSt.dormant
      ∧ d.boot.st = BootSt.reset)
    ∧ (let s : State := T .reset [(Reg.TBS_SAMPLE_TICK, 0xFFFFFFFF), (Reg.TBS_TICK_CFG, 0xF2710)] (fun t => { t with nextK := 63 });
      let d : Dev := s.dev.begin; d.time.tc0.isSome = true ∧ d.time.xtalOk = true ∧ d.pwr.st ≠ PwrSt.dormant ∧ d.boot.st = BootSt.reset)
    ∧ (let s : State := T .running; let d : Dev := s.dev.begin; d.time.tc0.isSome = true ∧ d.time.xtalOk = true ∧ d.pwr.st ≠ PwrSt.dormant
      ∧ d.boot.st ≠ BootSt.reset ∧ d.pwr.st ≠ PwrSt.stable)
    ∧ (let s : State := M' (M2 0 [] mv) (fun d => d.modTime (fun t => { t with tc0 := some 5, now := 100, nextValley := 200, rstN := true, pllLock := true }));
      let d : Dev := s.dev.begin; d.time.tc0.isSome = true ∧ d.time.xtalOk = true ∧ d.pwr.st ≠ PwrSt.dormant ∧ d.boot.st ≠ BootSt.reset
      ∧ d.pwr.st ≠ PwrSt.stable)
    ∧ (let s : State := T .running [(Reg.TBS_SAMPLE_TICK, 0xFFFFFFFF), (Reg.TBS_TICK_CFG, 0xF2710)] (fun t => { t with nextK := 64 }) (·.modPwr (fun p => { p with st := .stable }));
      let d : Dev := s.dev.begin; d.time.tc0.isSome = true ∧ d.time.xtalOk = true ∧ d.pwr.st ≠ PwrSt.dormant ∧ d.boot.st ≠ BootSt.reset
      ∧ d.pwr.st = PwrSt.stable)
    ∧ (let s : State := T .load [(Reg.ENC_CFG 0, 1), (Reg.ENC_COUNT 0, 99)] (fun t => { t with nextK := 1 }) (·.modPwr (fun p => { p with st := .stable }));
      let d : Dev := s.dev.begin; d.time.tc0.isSome = true ∧ d.time.xtalOk = true ∧ d.pwr.st ≠ PwrSt.dormant ∧ d.boot.st ≠ BootSt.reset
      ∧ d.pwr.st = PwrSt.stable) := by
  repeat refine ⟨by decide +kernel, ?_⟩
  decide +kernel

theorem witness_TimebaseAndSpine :
    (let s : State := T .reset [] (fun t => { t with tc0 := none }); let d : Dev := s.dev.begin; d.time.rstN = true ∧ d.time.tc0 = none
      ∧ d.time.xtalOk = true)
    ∧ (let s : State := T .reset; (s.dev.begin.time.rstN = false ∨ s.dev.begin.time.tc0.isSome = true))
    ∧ (let s : State := S {}; let d : Dev := s.dev.begin; (d.time.rstN = false ∨ d.time.tc0.isSome = true) ∧ d.time.rstN = false
      ∧ d.boot.st = BootSt.reset ∧ d.boot.cause ≤ 2)
    ∧ (let s : State := T .running; let d : Dev := s.dev.begin; d.time.xtalOk = true ∧ d.boot.st ≠ BootSt.reset)
    ∧ (let s : State := M' (P 4 [(Reg.CVN_CFG, 1)]) (fun d => (d.modTime (fun t => { t with tc0 := some 5, now := 100, nextValley := 200, rstN := true, pllLock := true })).modFio (fun f => { f with posture := false }));
      let d : Dev := s.dev.begin; d.time.xtalOk = true ∧ d.boot.st ≠ BootSt.reset)
    ∧ (let s : State := T .running [] (fun t => { t with xtalOk := false }); s.dev.begin.time.xtalOk = false)
    ∧ (let s : State := S { time := { pllLock := true, tc0 := some 3 }, boot := { cause := 2 } }; let d : Dev := s.dev.begin;
      d.time.rstN = false ∧ d.boot.st = BootSt.reset ∧ d.boot.cause ≤ 2)
    ∧ (let s : State := M' (P 4) (·.modFio (fun f => { f with posture := false, badDn := true, image := some [], hs := f.hs.set 3 { req := true } }));
      s.dev.begin.fio.posture = false)
    ∧ (let s : State := M' (P 4) (·.modFio (fun f => { f with posture := true, badDn := true, image := some [] }));
      let d : Dev := s.dev.begin; d.fio.posture = true ∧ d.canRecord = true)
    ∧ (let s : State := M' (P 4 [(Reg.CVN_CFG, 1)]) (·.modFio (fun f => { f with posture := true, image := none }));
      let d : Dev := s.dev.begin; d.fio.posture = true ∧ d.canRecord = true)
    ∧ (let up : Bool := true; let s : State := M' (P 4) (·.modFio (fun f => { f with posture := false }));
      (if up = true then s.dev.begin.fio.badUp = false ∧ s.dev.begin.fio.failsUp.length < 7 else s.dev.begin.fio.badDn = false
      ∧ s.dev.begin.fio.failsDn.length < 7))
    ∧ (let up : Bool := true;
      let s : State := M' (P 4) (·.modFio (fun f => { f with posture := true, tripUp := true, failsUp := [400,300,200,100,50,20], image := some [] }));
      (if up = true then s.dev.begin.fio.badUp = false ∧ s.dev.begin.fio.failsUp.length < 7 else s.dev.begin.fio.badDn = false
      ∧ s.dev.begin.fio.failsDn.length < 7))
    ∧ (let s : State := M' (P 4) (·.modFio (fun f => { f with posture := false, badUp := true })); let d : Dev := s.dev.begin;
      d.fio.badUp = true ∧ d.fio.tripUp = false ∧ d.boot.st ≠ BootSt.reset)
    ∧ (let s : State := M' (P 4 [(Reg.CVN_CFG, 1)]) (·.modFio (fun f => { f with posture := false, badUp := true }));
      let d : Dev := s.dev.begin; d.fio.badUp = true ∧ d.fio.tripUp = false ∧ d.boot.st ≠ BootSt.reset)
    ∧ (let s : State := M' (P 4) (·.modFio (fun f => { f with posture := false, badDn := true })); let d : Dev := s.dev.begin;
      d.fio.badDn = true ∧ d.fio.tripDn = false ∧ d.canRecord = true ∧ d.boot.st ≠ BootSt.reset)
    ∧ (let s : State := M' (P 4 [(Reg.CVN_CFG, 1)]) (·.modFio (fun f => { f with posture := false, badDn := true }));
      let d : Dev := s.dev.begin; d.fio.badDn = true ∧ d.fio.tripDn = false ∧ d.canRecord = true ∧ d.boot.st ≠ BootSt.reset) := by
  repeat refine ⟨by decide +kernel, ?_⟩
  decide +kernel

theorem witness_ResetsAndStartup :
    (let t : Nat := 500; let c : Nat := 3; let t0 : Nat := 7;
      let s : State := M' (withS (M2 0 [] mv)) (fun d => d.modBoot (fun b => { b with resetDue := some (3, 7) }));
      let d : Dev := s.dev.begin; d.boot.resetDue = some (c, t0) ∧ (c = 3 ∨ c = 4 ∨ c = 5 ∧ t0 + 4000000 ≤ max d.now t))
    ∧ (let t : Nat := 5000000; let c : Nat := 4; let t0 : Nat := 7;
      let s : State := M' (withS (P 4)) (fun d => (d.modFio (fun f => { f with posture := false, hs := f.hs.set 3 { req := true, st := .on } })).modBoot (fun b => { b with resetDue := some (4, 7) }));
      let d : Dev := s.dev.begin; d.boot.resetDue = some (c, t0) ∧ (c = 3 ∨ c = 4 ∨ c = 5 ∧ t0 + 4000000 ≤ max d.now t))
    ∧ (let s : State := withS (M2 0 [] mv); s.dev.begin.boot.resetDue = none)
    ∧ (let t : Nat := 50000; let s : State := T .reset; let d : Dev := s.dev.begin; d.boot.st = BootSt.reset ∧ d.boot.supHold = false
      ∧ d.suppliesOk = true ∧ d.time.xtalOk = true ∧ (d.boot.cause ≤ 2 → d.time.rstN = true ∧ d.time.pllLock = true
      ∧ d.boot.since + 40000 ≤ max d.now t) ∧ (d.boot.cause = 3 → d.boot.since + 200000 ≤ max d.now t)
      ∧ (d.boot.cause = 4 → d.boot.since + 2000000 ≤ max d.now t) ∧ (5 ≤ d.boot.cause → d.boot.since + 20000 ≤ max d.now t))
    ∧ (let t : Nat := 5000000; let s : State := T .reset [] id (·.modBoot (fun b => { b with cause := 5 })); let d : Dev := s.dev.begin;
      d.boot.st = BootSt.reset ∧ d.boot.supHold = false ∧ d.suppliesOk = true ∧ d.time.xtalOk = true
      ∧ (d.boot.cause ≤ 2 → d.time.rstN = true ∧ d.time.pllLock = true ∧ d.boot.since + 40000 ≤ max d.now t)
      ∧ (d.boot.cause = 3 → d.boot.since + 200000 ≤ max d.now t) ∧ (d.boot.cause = 4 → d.boot.since + 2000000 ≤ max d.now t)
      ∧ (5 ≤ d.boot.cause → d.boot.since + 20000 ≤ max d.now t))
    ∧ (let s : State := S (up []); let d : Dev := s.dev.begin; d.hostUp = true ∧ d.solo = true
      ∧ (∀ (p : Slot), d.enabled p = true → d.drives p = true → d.rdF (Reg.PRT_STATE ↑p) 3 0 ∈ [0, 1, 9, 10]))
    ∧ (let s : State := P 1; let d : Dev := s.dev.begin; d.hostUp = true ∧ d.solo = true
      ∧ (∀ (p : Slot), d.enabled p = true → d.drives p = true → d.rdF (Reg.PRT_STATE ↑p) 3 0 ∈ [0, 1, 9, 10]))
    ∧ (let s : State := P 4; let d : Dev := s.dev.begin; d.hostUp = true ∧ d.solo = true ∧ (∃ p, d.engRun p = true)
      ∧ (∃ p, d.enabled p = true ∧ d.drives p = true ∧ d.rdF (Reg.PRT_STATE ↑p) 3 0 ∉ [0, 1, 9, 10])
      ∧ (d.boot.pfStop = true ∨ d.boot.st ∈ [BootSt.reset, BootSt.engines, BootSt.done, BootSt.running, BootSt.stopped]))
    ∧ (let s : State := T .nand [] id (·.modBoot (fun b => { b with pfStop := true }));
      (s.dev.begin.boot.pfStop = true ∨ s.dev.begin.boot.st ∈ [BootSt.reset, BootSt.engines, BootSt.done, BootSt.running, BootSt.stopped]))
    ∧ (let s : State := T .wipe; let d : Dev := s.dev.begin; d.boot.pfStop = false ∧ d.boot.st = BootSt.wipe)
    ∧ (let s : State := T .keys; let d : Dev := s.dev.begin; d.boot.pfStop = false ∧ d.boot.st = BootSt.keys
      ∧ d.sec.otp.wipePending = false)
    ∧ (let s : State := T .keys [] id (·.modSec (fun b => { b with otp := { b.otp with log := [1], svn := 3 } }));
      let d : Dev := s.dev.begin; d.boot.pfStop = false ∧ d.boot.st = BootSt.keys ∧ d.sec.otp.wipePending = false)
    ∧ (let s : State := T .nand; let d : Dev := s.dev.begin; d.boot.pfStop = false ∧ d.boot.st = BootSt.nand) := by
  repeat refine ⟨by decide +kernel, ?_⟩
  decide +kernel

theorem witness_Commits :
    (let s : State := P 4; let d : Dev := s.dev.begin; d.takesFrames = true ∧ d.rdB Reg.SYS_COMMIT_STATUS 31 = false)
    ∧ (let s : State := P 4 [(Reg.SYS_COMMIT_STATUS, 2^31)]; s.dev.begin.rdB Reg.SYS_COMMIT_STATUS 31 = true)
    ∧ (let a : Nat := Reg.TBS_TICK_CFG; let r : Nat := 1;
      let s : State := S (dv [(Reg.SYS_COMMIT_STATUS, 2^31)] { full0 with staged := Cells.write resetOf full0.staged Reg.TBS_TICK_CFG 5 });
      let d : Dev := s.dev.begin; 0 < r ∧ r < 256 ∧ d.rdB Reg.SYS_COMMIT_STATUS 31 = true ∧ d.commitCheck = some (a, r))
    ∧ (let a : Nat := Reg.SAX_CFG 0; let r : Nat := 1; let s : State := S (up [(Reg.SYS_COMMIT_STATUS, 2^31)]); let d : Dev := s.dev.begin;
      0 < r ∧ r < 256 ∧ d.rdB Reg.SYS_COMMIT_STATUS 31 = true ∧ d.commitCheck = some (a, r))
    ∧ (let s : State := S (dv [(Reg.SYS_COMMIT_STATUS, 2^31)] full0); let d : Dev := s.dev.begin; d.rdB Reg.SYS_COMMIT_STATUS 31 = true
      ∧ d.commitCheck = none ∧ d.stagedSet = [])
    ∧ (let s : State := S (dv [(Reg.SYS_COMMIT_STATUS, 2^31), (Reg.REC_STATUS, 2)] { full0 with staged := Cells.write resetOf full0.staged (Reg.FIN_DEB 0) 700 });
      let d : Dev := s.dev.begin; d.rdB Reg.SYS_COMMIT_STATUS 31 = true ∧ d.commitCheck = none ∧ d.stagedSet ≠ []
      ∧ List.length d.stagedSet ≤ 253 ∧ d.rdB Reg.REC_STATUS 1 = true)
    ∧ (let s : State := S (dv [(Reg.SYS_COMMIT_STATUS, 2^31), (Reg.REC_STATUS, 2)] { full0 with staged := Cells.write resetOf full0.staged (Reg.TBS_TICK_CFG) 0x5271A });
      let d : Dev := s.dev.begin; d.rdB Reg.SYS_COMMIT_STATUS 31 = true ∧ d.commitCheck = none ∧ d.stagedSet ≠ []
      ∧ List.length d.stagedSet ≤ 253 ∧ d.rdB Reg.REC_STATUS 1 = true) := by
  repeat refine ⟨by decide +kernel, ?_⟩
  decide +kernel

theorem witness_SyncAndLanes :
    (let d : Dev := (C 1 fo (fun c => { c with syncDue := some (0xA2710, 5, 8), syncArm := true })).dev; let cfg : Word := 0xA2710;
      let idx : Nat := 5; let ps : Nat := 7; let t : Nat := 50; let me : Bool := true; let s : State := C 1 fo;
      let dev : Dev := s.dev.begin; dev.solo = false ∧ dev.rdB Reg.CVN_STATUS 17 = false
      ∧ (dev.cvn.syncDue = none ∨ dev.cvn.syncSet = true) ∧ d.cvn.syncDue = some (cfg, idx, ps + 1) ∧ ps < 65535
      ∧ (d.cvn.syncArm = true ∨ d.cvn.syncSet = true ∧ d.time.nextK = 0) ∧ dev.pwr.st ≠ PwrSt.dormant
      ∧ (me = true → dev.rdB Reg.CVN_STATUS 17 = true ∨ (dev.upTo t).mayLead = true))
    ∧ (let d : Dev := (M' (C 1 fo (fun c => { c with syncDue := some (0xA2710, 5, 8), syncSet := true })) (fun d => d.modTime (fun t => { t with nextK := 0 }))).dev;
      let cfg : Word := 0xA2710; let idx : Nat := 5; let ps : Nat := 7;
      let s : State := C 1 fo (fun c => { c with syncDue := some (0xF1234, 255, 65535), syncSet := true }); let dev : Dev := s.dev.begin;
      dev.solo = false ∧ dev.rdB Reg.CVN_STATUS 17 = false ∧ (dev.cvn.syncDue = none ∨ dev.cvn.syncSet = true)
      ∧ d.cvn.syncDue = some (cfg, idx, ps + 1) ∧ ps < 65535 ∧ (d.cvn.syncArm = true ∨ d.cvn.syncSet = true ∧ d.time.nextK = 0))
    ∧ (let cfg : Word := 0xA2710; let idx : Nat := 5; let ps : Nat := 7;
      let s : State := C 1 fo (fun c => { c with syncDue := some (0xA2710, 5, 7) }); let d : Dev := s.dev.begin; ps < 65536
      ∧ d.solo = false ∧ d.rdB Reg.CVN_STATUS 17 = false ∧ d.cvn.syncDue = some (cfg, idx, ps) ∧ d.cvn.syncSet = false)
    ∧ (let cfg : Word := 0xF1234; let idx : Nat := 255; let ps : Nat := 65535;
      let s : State := M' (C 1 fo (fun c => { c with syncDue := some (0xF1234, 255, 65535) })) (fun d => d.wr Reg.TBS_TICK_CFG 0xA2710);
      let d : Dev := s.dev.begin; ps < 65536 ∧ d.solo = false ∧ d.rdB Reg.CVN_STATUS 17 = false ∧ d.cvn.syncDue = some (cfg, idx, ps)
      ∧ d.cvn.syncSet = false)
    ∧ (let s : State := C 0; let d : Dev := s.dev.begin; ¬(d.solo = false ∧ d.rdB Reg.CVN_STATUS 17 = false) ∧ d.solo = true)
    ∧ (let s : State := C 1 [(Reg.CVN_STATUS, 0x20000)]; ¬(s.dev.begin.solo = false ∧ s.dev.begin.rdB Reg.CVN_STATUS 17 = false))
    ∧ (let s : State := C 2 fo; let d : Dev := s.dev.begin; d.solo = false ∧ d.rdB Reg.CVN_STATUS 17 = false)
    ∧ (let s : State := M' (C 1 fo) (·.modTime (fun t => { t with posTicks := 65535 })); let d : Dev := s.dev.begin; d.solo = false
      ∧ d.rdB Reg.CVN_STATUS 17 = false)
    ∧ (let s : State := C 1 [(Reg.CVN_STATUS, 0)] (fun c => { c with lockCnt := 64 }); let d : Dev := s.dev.begin; d.solo = false
      ∧ d.rdB Reg.CVN_STATUS 17 = false ∧ 64 ≤ d.cvn.lockCnt)
    ∧ (let s : State := C 1 [(Reg.CVN_STATUS, 0)] (fun c => { c with lockCnt := 63 }); s.dev.begin.cvn.lockCnt < 64)
    ∧ (let s : State := C 1 fo (fun c => { mir { installed := some 50 } c with missCnt := 4 }); let d : Dev := s.dev.begin;
      d.rdB Reg.CVN_STATUS 16 = true ∧ d.pwr.st ≠ PwrSt.dormant ∧ (20 < |d.syncPhase| ∨ 4 ≤ d.cvn.missCnt))
    ∧ (let s : State := C 1 [(Reg.CVN_STATUS, 0x10000), (Reg.CVN_LINK, 0xEB0000)]; let d : Dev := s.dev.begin;
      d.rdB Reg.CVN_STATUS 16 = true ∧ d.pwr.st ≠ PwrSt.dormant ∧ (20 < |d.syncPhase| ∨ 4 ≤ d.cvn.missCnt))
    ∧ (let s : State := C 1 fo (mir { installed := some 50 });
      (s.dev.begin.rdB Reg.CVN_STATUS 16 = false ∨ ¬(s.dev.begin.pwr.st ≠ PwrSt.dormant
      ∧ (20 < |s.dev.begin.syncPhase| ∨ 4 ≤ s.dev.begin.cvn.missCnt))))
    ∧ (let s : State := M' (C 1 fo (fun c => { c with missCnt := 4 })) (·.modPwr (fun p => { p with st := .dormant }));
      (s.dev.begin.rdB Reg.CVN_STATUS 16 = false ∨ ¬(s.dev.begin.pwr.st ≠ PwrSt.dormant
      ∧ (20 < |s.dev.begin.syncPhase| ∨ 4 ≤ s.dev.begin.cvn.missCnt))))
    ∧ (let t : Nat := 50; let me : Bool := true;
      let s : State := C 1 fo (fun c => { c with wasLocked := true, silent := 8, pulses := true }); let d : Dev := s.dev.begin;
      d.solo = false ∧ d.pwr.st ≠ PwrSt.dormant ∧ (me = true → d.rdB Reg.CVN_STATUS 17 = true ∨ (d.upTo t).mayLead = true))
    ∧ (let s : State := C 1 fo (fun c => { c with wasLocked := true, silent := 7, pulses := true }); let d : Dev := s.dev.begin;
      d.rdB Reg.CVN_STATUS 17 = false ∧ d.cvn.pulses = true ∧ (d.cvn.wasLocked = false ∨ d.cvn.silent < 8))
    ∧ (let s : State := C 1; s.dev.begin.solo = false)
    ∧ (let s : State := C 2 [(Reg.CVN_LINK, 0x1)]; s.dev.begin.solo = false)
    ∧ (let s : State := C 2 [(Reg.CVN_LINK, 0xF), (Reg.CVN_STATUS, 0xFFFFFFFF)]; s.dev.begin.solo = false)
    ∧ (let s : State := C 2 [(Reg.CVN_LINK, 0x1), (Reg.CVN_STATUS, 0xFFFFFFFF)]; s.dev.begin.solo = false)
    ∧ (let fails : List Nat := [3, 9]; let s : State := C 2 [(Reg.CVN_LINK, 0xF)] (fun c => { c with crcAt := [[], [], [], []] });
      let d : Dev := s.dev.begin; fails ≠ [] ∧ fails.length ≤ 3 ∧ d.solo = false ∧ d.cvn.crcAt = [[], [], [], []])
    ∧ (let fails : List Nat := [3, 9, 20]; let s : State := C 2 [(Reg.CVN_LINK, 0xF)] (fun c => { c with crcAt := [[], [], [], []] });
      let d : Dev := s.dev.begin; fails ≠ [] ∧ fails.length ≤ 3 ∧ d.solo = false ∧ d.cvn.crcAt = [[], [], [], []]) := by
  repeat refine ⟨by decide +kernel, ?_⟩
  decide +kernel

theorem witness_CopiedState :
    (let p : Slot := 0; let t : Nat := 77; let s : State := C 1; let d : Dev := s.dev.begin; d.duo = true ∧ d.drives p = false
      ∧ d.now ≤ t + 40000 ∧ (d.cvn.mirages[p].block = none ∨ d.solo = true ∨ d.drives p = true))
    ∧ (let p : Slot := 0; let t : Nat := 77; let s : State := C 1 [] (mir { block := some (blk, 5), seen := true });
      let d : Dev := s.dev.begin; d.duo = true ∧ d.drives p = false ∧ d.now ≤ t + 40000)
    ∧ (let p : Slot := 0; let t : Nat := 77; let s : State := C 0; let d : Dev := s.dev.begin; (d.solo = true ∨ d.drives p = false
      ∧ t + 40000 < d.now) ∧ (d.solo = true ∨ d.pwr.st = PwrSt.stable ∨ d.pwr.st = PwrSt.dormant))
    ∧ (let p : Slot := 0; let t : Nat := 77; let s : State := M' (C 1) (·.modTime (fun t => { t with now := 40078 }));
      (s.dev.begin.solo = true ∨ s.dev.begin.drives p = false ∧ t + 40000 < s.dev.begin.now))
    ∧ (let p : Slot := 0; let s : State := C 1 [(Reg.PRT_STATE 0, 4)] (mir { block := some (blk, 5), seen := true });
      (s.dev.begin.cvn.mirages[p].block = none ∨ s.dev.begin.solo = true ∨ s.dev.begin.drives p = true))
    ∧ (let p : Slot := 0; let b : StateBlock := blk; let t : Nat := 77;
      let s : State := C 1 [] (mir { block := some (blk, 77), seen := true }); let d : Dev := s.dev.begin;
      d.cvn.mirages[p].block = some (b, t) ∧ d.duo = true ∧ d.drives p = false ∧ b.regs = [] ∧ b.mots = [] ∧ b.servos = [] ∧ b.steps = []
      ∧ b.counts = [] ∧ b.reqs = [] ∧ b.words = [] ∧ d.cvn.mirages[p].fwd = [] ∧ d.axesOf p = [] ∧ d.rdF (Reg.ENG_STATUS ↑p) 1 0 < 2)
    ∧ (let p : Slot := 0; let b : StateBlock := { blk with portal := { evaluated := true, cycOn := true, lastHk := 5 } };
      let t : Nat := 77;
      let s : State := C 1 [] (mir { block := some ({ blk with portal := { evaluated := true, cycOn := true, lastHk := 5 } }, 77), seen := true, stale := true, unlocked := true });
      let d : Dev := s.dev.begin; d.cvn.mirages[p].block = some (b, t) ∧ d.duo = true ∧ d.drives p = false ∧ b.regs = [] ∧ b.mots = []
      ∧ b.servos = [] ∧ b.steps = [] ∧ b.counts = [] ∧ b.reqs = [] ∧ b.words = [] ∧ d.cvn.mirages[p].fwd = [] ∧ d.axesOf p = []
      ∧ d.rdF (Reg.ENG_STATUS ↑p) 1 0 < 2)
    ∧ (let p : Slot := 0; let b : StateBlock := blk; let t : Nat := 77;
      let s : State := C 1 [(Reg.ENG_STATUS 0, 2)] (mir { block := some (blk, 77), seen := true }); let d : Dev := s.dev.begin;
      d.cvn.mirages[p].block = some (b, t) ∧ d.solo = false ∧ d.drives p = false ∧ 2 ≤ d.rdF (Reg.ENG_STATUS ↑p) 1 0)
    ∧ (let p : Slot := 0; let k : Nat := 5; let now : Nat := 100;
      let s : State := M' (C 1) (·.modTime (fun t => { t with posTicks := 100 })); let d : Dev := s.dev.begin; 0 < k ∧ k < 32768
      ∧ now < 65536 ∧ d.solo = false ∧ d.drives p = false ∧ d.time.posTicks % 65536 = now)
    ∧ (let p : Slot := 0; let k : Nat := 1; let now : Nat := 65535;
      let s : State := M' (C 1) (·.modTime (fun t => { t with posTicks := 65535 })); let d : Dev := s.dev.begin; 0 < k ∧ k < 32768
      ∧ now < 65536 ∧ d.solo = false ∧ d.drives p = false ∧ d.time.posTicks % 65536 = now)
    ∧ (let p : Slot := 0; let k : Nat := 0; let now : Nat := 65535;
      let s : State := M' (C 1) (·.modTime (fun t => { t with posTicks := 65535 })); let d : Dev := s.dev.begin; k < 32768 ∧ now < 65536
      ∧ d.solo = false ∧ d.drives p = false ∧ d.time.posTicks % 65536 = now)
    ∧ (let p : Slot := 0; let k : Nat := 32767; let now : Nat := 5;
      let s : State := M' (C 1 [] (mir { installed := some 50 })) (·.modTime (fun t => { t with posTicks := 5 }));
      let d : Dev := s.dev.begin; k < 32768 ∧ now < 65536 ∧ d.solo = false ∧ d.drives p = false ∧ d.time.posTicks % 65536 = now)
    ∧ (let p : Slot := 0; let t : Nat := 50; let s : State := C 1 [] (mir { installed := some 50 }); let d : Dev := s.dev.begin;
      d.solo = false ∧ d.drives p = false ∧ d.cvn.mirages[p].stale = false ∧ d.cvn.mirages[p].installed = some t)
    ∧ (let s : State := C 1 [(Reg.CVN_HEALTH_W, 1)]; s.dev.begin.duo = true)
    ∧ (let s : State := C 1 [(Reg.CVN_HEALTH_W, 0)]; s.dev.begin.duo = true)
    ∧ (let s : State := C 2 [(Reg.CVN_HEALTH_W, 1)]; s.dev.begin.ring = true)
    ∧ (let s : State := C 2 [(Reg.CVN_HEALTH_W, 0)]; s.dev.begin.ring = true)
    ∧ (let s : State := C 0 [(Reg.CVN_HEALTH_W, 1)]; s.dev.begin.solo = true)
    ∧ (let s : State := C 0 [(Reg.CVN_HEALTH_W, 0)]; s.dev.begin.solo = true)
    ∧ (let s : State := C 1 [(Reg.EVC_PEER_SUM_W, 0xFFFFFFFF)]; let d : Dev := s.dev.begin; d.solo = false ∧ d.pwr.st ≠ PwrSt.stable
      ∧ d.pwr.st ≠ PwrSt.dormant)
    ∧ (let s : State := C 2 [(Reg.EVC_PEER_SUM_E, 0xFFFFFFFF)]; let d : Dev := s.dev.begin; d.solo = false ∧ d.pwr.st ≠ PwrSt.stable
      ∧ d.pwr.st ≠ PwrSt.dormant) := by
  repeat refine ⟨by decide +kernel, ?_⟩
  decide +kernel

theorem witness_RolesAndSurrender :
    (let s : State := C 1 [] (fun c => { c with role := 0 }); let d : Dev := s.dev.begin; d.duo = true
      ∧ (d.boot.st = BootSt.running ∨ d.boot.st = BootSt.done) ∧ d.startHealthy = true ∧ d.cvn.surrendered = false ∧ d.cvn.ready = false
      ∧ d.cvn.role % 2 = 0 ∧ d.rdB Reg.CVN_STATUS 17 = true)
    ∧ (let s : State := M' (C 1 [] (fun c => { c with role := 0 })) (·.modBoot (fun b => { b with st := .done }));
      let d : Dev := s.dev.begin; d.duo = true ∧ (d.boot.st = BootSt.running ∨ d.boot.st = BootSt.done) ∧ d.startHealthy = true
      ∧ d.cvn.surrendered = false ∧ d.cvn.ready = false ∧ d.cvn.role % 2 = 0 ∧ d.rdB Reg.CVN_STATUS 17 = true)
    ∧ (let s : State := C 1 [] (fun c => { c with role := 0, ready := true }); let d : Dev := s.dev.begin; d.duo = true
      ∧ d.cvn.ready = true)
    ∧ (let s : State := C 2 [(Reg.CVN_STATUS, 0x30000), (Reg.SYS_RESET_CAUSE, 1)] (fun c => { c with role := 0 });
      let d : Dev := s.dev.begin; d.ring = true ∧ d.syncOk = true ∧ (d.boot.st = BootSt.running ∨ d.boot.st = BootSt.done)
      ∧ d.startHealthy = true ∧ d.cvn.surrendered = false ∧ d.rd Reg.SYS_RESET_CAUSE = 1)
    ∧ (let p : Slot := 0; let e : Word := 8; let s : State := C 0; let d : Dev := s.dev.begin;
      (d.solo = true ∨ d.startHealthy = false ∨ d.cvn.surrendered = true) ∧ (d.solo = true ∨ d.cvn.surrendered = true)
      ∧ (d.solo = true ∨ d.drives p = true ∨ d.duo = false ∧ d.rd (Reg.CVN_LEASE_EPOCH ↑p) ≠ e))
    ∧ (let s : State := C 1 [] (fun c => { c with surrendered := true }); let d : Dev := s.dev.begin;
      (d.solo = true ∨ d.startHealthy = false ∨ d.cvn.surrendered = true) ∧ (d.solo = true ∨ d.cvn.surrendered = true))
    ∧ (let s : State := C 1 [] (fun c => { c with role := 1, surrIn := false }); let d : Dev := s.dev.begin; d.duo = true
      ∧ d.cvn.role % 2 = 1 ∧ (d.boot.st = BootSt.running ∨ d.boot.st = BootSt.done) ∧ d.cvn.surrIn = false ∧ d.cvn.ready = false
      ∧ d.cvn.surrendered = false ∧ (∀ (p : Slot), d.cvn.mirages[p].seen = false)
      ∧ (d.upTo (max d.cvn.startAt d.cvn.surrLow + 1000000000)).startHealthy = true)
    ∧ (let p : Slot := 0; let s : State := C 1; let d : Dev := s.dev.begin; d.solo = false ∧ d.cvn.surrendered = false ∧ d.duo = true
      ∧ d.enabled p = true ∧ d.drives p = false ∧ d.handOf p true = none)
    ∧ (let gate : Bool := true; let s : State := C 2 [(Reg.PRT_STATE 0, 4)]; let d : Dev := s.dev.begin; d.solo = false
      ∧ d.cvn.surrendered = false ∧ d.hostUp = true ∧ (gate = false ∨ d.hasRight 5 = false ∨ d.solo = true))
    ∧ (let gate : Bool := false; let s : State := withS (C 2 [(Reg.PRT_STATE 0, 4)]); let d : Dev := s.dev.begin; d.hostUp = true
      ∧ (gate = false ∨ d.hasRight 5 = false ∨ d.solo = true) ∧ d.hasRight 5 = true ∧ d.solo = false)
    ∧ (let s : State := C 1 [] (fun c => mir { seen := true, installed := some 50 } { c with role := 2, surrIn := true, ready := true });
      let d : Dev := s.dev.begin; d.duo = true ∧ d.cvn.surrIn = true ∧ d.cvn.surrendered = false ∧ d.fio.posture = false
      ∧ d.cvn.ready = true ∧ d.cvn.hand = [])
    ∧ (let s : State := C 5 [] (fun c => mir { seen := true, installed := some 50 } { c with role := 2, surrIn := true, ready := true });
      let d : Dev := s.dev.begin; d.duo = true ∧ d.cvn.surrIn = true ∧ d.cvn.surrendered = false ∧ d.fio.posture = false
      ∧ d.cvn.ready = true ∧ d.cvn.hand = [])
    ∧ (let p : Slot := 0; let e : Word := 7; let s : State := C 2 [(Reg.CVN_LEASE_EPOCH 0, 7)]; let d : Dev := s.dev.begin; d.ring = true
      ∧ d.enabled p = true ∧ d.drives p = false ∧ d.rd (Reg.CVN_LEASE_EPOCH ↑p) = e ∧ d.handOf p true = none)
    ∧ (let p : Slot := 0; let e : Word := 8; let s : State := C 2 [(Reg.CVN_LEASE_EPOCH 0, 7)];
      (s.dev.begin.solo = true ∨ s.dev.begin.drives p = true ∨ s.dev.begin.duo = false ∧ s.dev.begin.rd (Reg.CVN_LEASE_EPOCH ↑p) ≠ e))
    ∧ (let p : Slot := 0; let s : State := C 1 [] (fun c => { c with hand := [hd true false true] }); let d : Dev := s.dev.begin;
      d.duo = true ∧ d.enabled p = true ∧ d.drives p = false ∧ (∃ h, d.handOf p true = some h ∧ h.clocks = true)) := by
  repeat refine ⟨by decide +kernel, ?_⟩
  decide +kernel

theorem witness_Transfers :
    (let p : Slot := 0; let h : HandOver := hd true; let s : State := C 2;
      (s.dev.begin.handOf p true = none ∨ s.dev.begin.handOf p true = some h ∧ h.clocks = false))
    ∧ (let p : Slot := 0; let h : HandOver := hd true; let s : State := C 2 [] (fun c => { c with hand := [hd true] });
      (s.dev.begin.handOf p true = none ∨ s.dev.begin.handOf p true = some h ∧ h.clocks = false))
    ∧ (let p : Slot := 0; let high : Bool := true; let h : HandOver := hd true false true;
      let s : State := C 1 [] (fun c => mir { seen := true, installed := some 50 } { c with hand := [hd true false true] });
      let d : Dev := s.dev.begin; d.handOf p true = some h ∧ h.clocks = true ∧ d.solo = false
      ∧ ((d.upTo h.valley).dropHand p).canTake p = true ∧ (h.gapped && high) = false)
    ∧ (let p : Slot := 0; let high : Bool := false; let h : HandOver := hd true true true;
      let s : State := C 1 [] (fun c => mir { seen := true, installed := some 50 } { c with hand := [hd true true true] });
      let d : Dev := s.dev.begin; d.handOf p true = some h ∧ h.clocks = true ∧ d.solo = false
      ∧ ((d.upTo h.valley).dropHand p).canTake p = true ∧ (h.gapped && high) = false)
    ∧ (let p : Slot := 0; let high : Bool := true; let h : HandOver := hd true true true;
      let s : State := C 1 [] (fun c => mir { seen := true, installed := some 50 } { c with hand := [hd true true true] });
      let d : Dev := s.dev.begin; d.handOf p true = some h ∧ h.clocks = true ∧ ((d.upTo h.valley).dropHand p).canTake p = true
      ∧ (h.gapped && high) = true)
    ∧ (let p : Slot := 0; let high : Bool := true; let h : HandOver := hd true true true;
      let s : State := C 2 [] (fun c => mir { seen := true, installed := some 50 } { c with hand := [hd true true true] });
      let d : Dev := s.dev.begin; d.handOf p true = some h ∧ h.clocks = true ∧ ((d.upTo h.valley).dropHand p).canTake p = true
      ∧ (h.gapped && high) = true)
    ∧ (let p : Slot := 0; let h : HandOver := hd true true true;
      let s : State := C 2 [] (fun c => mir { seen := true, installed := none } { c with hand := [hd true true true] });
      let d : Dev := s.dev.begin; d.handOf p true = some h ∧ h.clocks = true ∧ ((d.upTo h.valley).dropHand p).canTake p = false)
    ∧ (let p : Slot := 0; let h : HandOver := hd true true true;
      let s : State := C 1 [] (fun c => mir { seen := true, installed := some 50 } { c with surrendered := true, hand := [hd true true true] });
      let d : Dev := s.dev.begin; d.handOf p true = some h ∧ h.clocks = true ∧ ((d.upTo h.valley).dropHand p).canTake p = false)
    ∧ (let gate : Bool := true; let s : State := C 0; let d : Dev := s.dev.begin; d.hostUp = true
      ∧ (d.solo = true ∨ gate = false ∨ d.hasRight 4 = false))
    ∧ (let gate : Bool := true; let t : Nat := 50; let p : Slot := 0; let e : Word := 5; let h : HandOver := hd true; let s : State := C 1;
      let d : Dev := s.dev.begin; d.hostUp = true ∧ (d.solo = true ∨ gate = false ∨ d.hasRight 4 = false) ∧ d.solo = false
      ∧ d.drives p = false ∧ d.pwr.st ≠ PwrSt.stable ∧ d.pwr.st ≠ PwrSt.dormant ∧ ((d.upTo t).canTake p = false ∨ d.duo = false
      ∧ d.rd (Reg.CVN_LEASE_EPOCH ↑p) ≠ e) ∧ d.handOf p false = none ∧ (d.handOf p true = none ∨ d.handOf p true = some h
      ∧ h.clocks = true))
    ∧ (let s : State := withS (C 1 [(Reg.PRT_STATE 0, 4), (Reg.CVN_HEALTH_W, 1)] (fun c => { c with peerMir := [1, 1] }));
      let d : Dev := s.dev.begin; d.hostUp = true ∧ d.solo = false ∧ d.hasRight 4 = true ∧ d.pwr.st ≠ PwrSt.stable
      ∧ d.pwr.st ≠ PwrSt.dormant)
    ∧ (let s : State := withS (C 2 [(Reg.PRT_STATE 0, 4), (Reg.CVN_HEALTH_W, 1), (Reg.CVN_HEALTH_E, 1)] (fun c => { c with peerMir := [0xFFF, 0xFFF] }));
      let d : Dev := s.dev.begin; d.hostUp = true ∧ d.solo = false ∧ d.hasRight 4 = true ∧ d.pwr.st ≠ PwrSt.stable
      ∧ d.pwr.st ≠ PwrSt.dormant)
    ∧ (let t : Nat := 50; let p : Slot := 0; let e : Word := 5;
      let s : State := C 1 [] (fun c => mir { seen := true, installed := some 50 } { c with surrendered := true });
      let d : Dev := s.dev.begin; d.solo = false ∧ d.drives p = false ∧ d.pwr.st ≠ PwrSt.stable ∧ d.pwr.st ≠ PwrSt.dormant
      ∧ ((d.upTo t).canTake p = false ∨ d.duo = false ∧ d.rd (Reg.CVN_LEASE_EPOCH ↑p) ≠ e))
    ∧ (let t : Nat := 50; let p : Slot := 0; let e : Word := 5;
      let s : State := C 1 [] (fun c => mir { seen := true, installed := some 50 } { c with hand := [] }); let d : Dev := s.dev.begin;
      d.solo = false ∧ d.drives p = false ∧ (d.upTo t).canTake p = true ∧ (d.duo = true ∨ d.rd (Reg.CVN_LEASE_EPOCH ↑p) = e))
    ∧ (let t : Nat := 50; let p : Slot := 0; let e : Word := 7;
      let s : State := C 2 [(Reg.CVN_LEASE_EPOCH 0, 7)] (mir { seen := true, installed := some 50 }); let d : Dev := s.dev.begin;
      d.solo = false ∧ d.drives p = false ∧ (d.upTo t).canTake p = true ∧ (d.duo = true ∨ d.rd (Reg.CVN_LEASE_EPOCH ↑p) = e))
    ∧ (let p : Slot := 0; let h : HandOver := hd false;
      let s : State := C 1 [(Reg.PRT_STATE 0, 4)] (fun c => mir { seen := true, installed := some 50 } { c with hand := [hd false] });
      let d : Dev := s.dev.begin; (d.handOf p false).isSome = true ∧ d.handOf p false = some h ∧ d.duo = true ∧ d.drives p = true)
    ∧ (let p : Slot := 0;
      let s : State := C 2 [(Reg.PRT_STATE 0, 4)] (fun c => mir { seen := true, installed := some 50 } { c with hand := [hd false] });
      (s.dev.begin.handOf p false).isSome = true)
    ∧ (let p : Slot := 0; let s : State := C 2 [(Reg.PRT_STATE 0, 4)]; let d : Dev := s.dev.begin; d.ring = true ∧ d.handOf p false = none)
    ∧ (let p : Slot := 0; let s : State := C 1 [(Reg.PRT_STATE 0, 4)]; let d : Dev := s.dev.begin; d.ring = false ∧ d.handOf p false = none)
    ∧ (let p : Slot := 0; let h : HandOver := hd false true;
      let s : State := C 1 [(Reg.PRT_STATE 0, 4)] (fun c => mir { seen := true, installed := some 50 } { c with hand := [hd false true] });
      let d : Dev := s.dev.begin; d.handOf p false = some h ∧ d.duo = true ∧ d.drives p = true)
    ∧ (let p : Slot := 0; let h : HandOver := hd true;
      let s : State := C 1 [] (fun c => mir { seen := true, installed := some 50 } { c with hand := [hd true] });
      let d : Dev := s.dev.begin; d.handOf p false = none ∧ d.handOf p true = some h ∧ h.clocks = false ∧ d.solo = false
      ∧ ((d.upTo h.valley).dropHand p).canTake p = true ∧ h.gapped = false)
    ∧ (let p : Slot := 0; let h : HandOver := { hd true with duties := [[3,4,5]] };
      let s : State := C 1 [(Reg.PRT_CFG 0, 1), (Reg.PRT_AXIS_MAP 0, 0x8282)] (fun c => mir { seen := true, installed := some 50 } { c with hand := [{ hd true with duties := [[3,4,5]] }] });
      let d : Dev := s.dev.begin; d.handOf p false = none ∧ d.handOf p true = some h ∧ h.clocks = false ∧ d.solo = false
      ∧ ((d.upTo h.valley).dropHand p).canTake p = true ∧ h.gapped = false)
    ∧ (let p : Slot := 0; let h : HandOver := hd true true;
      let s : State := C 1 [] (fun c => mir { seen := true, installed := some 50 } { c with hand := [hd true true] });
      let d : Dev := s.dev.begin; d.handOf p false = none ∧ d.handOf p true = some h ∧ h.clocks = false ∧ d.solo = false
      ∧ ((d.upTo h.valley).dropHand p).canTake p = true ∧ h.gapped = true)
    ∧ (let p : Slot := 0; let h : HandOver := hd true true;
      let s : State := C 2 [] (fun c => mir { seen := true, installed := some 50 } { c with hand := [hd true true] });
      let d : Dev := s.dev.begin; d.handOf p false = none ∧ d.handOf p true = some h ∧ h.clocks = false ∧ d.solo = false
      ∧ ((d.upTo h.valley).dropHand p).canTake p = true ∧ h.gapped = true)
    ∧ (let p : Slot := 0; let h : HandOver := hd true true; let s : State := C 1 [] (fun c => { c with hand := [hd true true] });
      let d : Dev := s.dev.begin; d.handOf p false = none ∧ d.handOf p true = some h ∧ h.clocks = false ∧ d.solo = false
      ∧ ((d.upTo h.valley).dropHand p).canTake p = false)
    ∧ (let p : Slot := 0; let h : HandOver := hd true true;
      let s : State := C 1 [] (fun c => mir { seen := true, installed := some 50 } { c with surrendered := true, hand := [hd true true] });
      let d : Dev := s.dev.begin; d.handOf p false = none ∧ d.handOf p true = some h ∧ h.clocks = false ∧ d.solo = false
      ∧ ((d.upTo h.valley).dropHand p).canTake p = false)
    ∧ (let p : Slot := 0; let h : HandOver := hd true false true;
      let s : State := C 1 [] (fun c => { c with hand := [hd true false true] }); let d : Dev := s.dev.begin; d.handOf p false = none
      ∧ (d.handOf p true = none ∨ d.handOf p true = some h ∧ h.clocks = true)) := by
  repeat refine ⟨by decide +kernel, ?_⟩
  decide +kernel

theorem witness_Leases :
    (let p : Slot := 0; let s : State := C 2 (L1 1); let d : Dev := s.dev.begin; d.ring = true ∧ d.rdF (Reg.CVN_LEASE_STATE ↑p) 2 0 = 1
      ∧ d.pwr.st ≠ PwrSt.stable ∧ d.pwr.st ≠ PwrSt.dormant)
    ∧ (let p : Slot := 0; let e : Word := 7; let s : State := C 2 (L1 1) (ls { sent := some 90 }); let d : Dev := s.dev.begin; d.ring = true
      ∧ d.rdF (Reg.CVN_LEASE_STATE ↑p) 2 0 = 1 ∧ d.pwr.st ≠ PwrSt.stable ∧ d.pwr.st ≠ PwrSt.dormant ∧ d.rd (Reg.CVN_LEASE_EPOCH ↑p) = e)
    ∧ (let p : Slot := 0; let e : Word := 7; let s : State := C 2 (L0 2) (ls { sent := some 90, free := true });
      let d : Dev := s.dev.begin; d.ring = true ∧ d.drives p = false ∧ d.rd (Reg.CVN_LEASE_EPOCH ↑p) ≤ e ∧ d.pwr.st ≠ PwrSt.stable
      ∧ d.pwr.st ≠ PwrSt.dormant)
    ∧ (let p : Slot := 0; let e : Word := 9; let s : State := C 2 (L0 2) (ls { sent := some 90, free := true });
      let d : Dev := s.dev.begin; d.ring = true ∧ d.drives p = false ∧ d.rd (Reg.CVN_LEASE_EPOCH ↑p) ≤ e ∧ d.pwr.st ≠ PwrSt.stable
      ∧ d.pwr.st ≠ PwrSt.dormant)
    ∧ (let p : Slot := 0; let e : Word := 8; let s : State := C 2 (L1 1) (ls { sent := some 90 }); let d : Dev := s.dev.begin;
      d.rd (Reg.CVN_LEASE_EPOCH ↑p) ≠ e ∧ d.ring = true ∧ e = d.rd (Reg.CVN_LEASE_EPOCH ↑p) + 1)
    ∧ (let p : Slot := 0; let e : Word := 8; let s : State := C 2 (L0 2) (ls { sent := some 90 }); let d : Dev := s.dev.begin; d.ring = true
      ∧ e = d.rd (Reg.CVN_LEASE_EPOCH ↑p) + 1)
    ∧ (let p : Slot := 0; let e : Word := 7; let s : State := C 2 (L0 2) (ls { sent := some 90 }); let d : Dev := s.dev.begin; d.ring = true
      ∧ e ≠ d.rd (Reg.CVN_LEASE_EPOCH ↑p) + 1 ∧ d.pwr.st ≠ PwrSt.stable ∧ d.pwr.st ≠ PwrSt.dormant)
    ∧ (let p : Slot := 0; let e : Word := 9; let s : State := C 2 (L1 1) (ls { sent := some 90 }); let d : Dev := s.dev.begin; d.ring = true
      ∧ e ≠ d.rd (Reg.CVN_LEASE_EPOCH ↑p) + 1 ∧ d.pwr.st ≠ PwrSt.stable ∧ d.pwr.st ≠ PwrSt.dormant)
    ∧ (let p : Slot := 0; let t : Nat := 500; let e : Word := 7;
      let s : State := C 2 ((Reg.ENG_STATUS 0, 0) :: L0 2) (ls { sent := some 90 }); let d : Dev := s.dev.begin; d.ring = true
      ∧ d.drives p = false ∧ d.rd (Reg.CVN_LEASE_EPOCH ↑p) = e ∧ d.enabled p = true ∧ (d.upTo t).canTake p = false)
    ∧ (let p : Slot := 0; let t : Nat := 500; let e : Word := 7;
      let s : State := C 2 ((Reg.ENG_STATUS 0, 2) :: L0 2) (ls { sent := some 90 }); let d : Dev := s.dev.begin; d.ring = true
      ∧ d.drives p = false ∧ d.rd (Reg.CVN_LEASE_EPOCH ↑p) = e ∧ d.enabled p = true ∧ (d.upTo t).canTake p = false)
    ∧ (let p : Slot := 0; let t : Nat := 500; let e : Word := 7; let s : State := C 2 (L0 2) (mir { seen := true, installed := some 50 });
      let d : Dev := s.dev.begin; d.ring = true ∧ d.drives p = false ∧ d.rd (Reg.CVN_LEASE_EPOCH ↑p) = e
      ∧ ((d.upTo t).upTo ((d.upTo t).valleyAt ((d.upTo t).now + 1))).canTake p = true)
    ∧ (let p : Slot := 0; let t : Nat := 90; let s : State := C 2 (L1 1) (ls { sent := some 95, answered := some 90 });
      let d : Dev := s.dev.begin; d.ring = true ∧ d.rdF (Reg.CVN_LEASE_STATE ↑p) 2 0 = 1 ∧ d.cvn.leases[p].answered = some t)
    ∧ (let p : Slot := 0; let t : Nat := 90;
      let s : State := C 2 (L1 1 ++ [(Reg.PRT_CFG 0, 1), (Reg.SAX_CTRL 0, 1), (Reg.PRT_AXIS_MAP 0, 0x10)]) (ls { sent := some 95, answered := some 90 });
      let d : Dev := s.dev.begin; d.ring = true ∧ d.rdF (Reg.CVN_LEASE_STATE ↑p) 2 0 = 1 ∧ d.cvn.leases[p].answered = some t)
    ∧ (let p : Slot := 0; let s : State := C 2 (L0 2) (fun c => ls { free := true } (mir { seen := true, installed := some 50 } c));
      let d : Dev := s.dev.begin; d.ring = true ∧ d.enabled p = true ∧ d.drives p = false ∧ d.pwr.st ≠ PwrSt.stable
      ∧ d.pwr.st ≠ PwrSt.dormant ∧ d.cvn.leases[p].free = true ∧ (d.upTo (d.posTickAt d.now)).canTake p = true)
    ∧ (let p : Slot := 0; let t : Nat := 90;
      let s : State := C 2 (L0 2) (fun c => ls { rcvd := some 90 } (mir { seen := true, installed := some 50 } c));
      let d : Dev := s.dev.begin; d.ring = true ∧ d.enabled p = true ∧ d.drives p = false ∧ d.cvn.leases[p].free = false
      ∧ d.cvn.leases[p].rcvd = some t ∧ (d.upTo (d.posTickAt (t + 4400000))).canTake p = true)
    ∧ (let p : Slot := 0; let s : State := C 1 (L0 2) (ls { sent := some 95, answered := some 90 });
      (s.dev.begin.ring = false ∨ s.dev.begin.drives p = true ∨ s.dev.begin.cvn.leases[p].free = false
      ∧ s.dev.begin.cvn.leases[p].rcvd = none))
    ∧ (let p : Slot := 0; let s : State := C 2 (L0 2) (ls { rcvd := none });
      (s.dev.begin.ring = false ∨ s.dev.begin.drives p = true ∨ s.dev.begin.cvn.leases[p].free = false
      ∧ s.dev.begin.cvn.leases[p].rcvd = none))
    ∧ (let p : Slot := 0;
      let s : State := C 10 (L0 2) (fun c => ls { free := true } (mir { seen := true, installed := some 50, atRest := true } { c with eligSince := some 3 }));
      let d : Dev := s.dev.begin; d.ring = true ∧ ↑p < 6 ∧ d.rdB Reg.CVN_CFG 3 = true ∧ d.drives p = false
      ∧ (∃ t, d.cvn.eligSince = some t ∧ t + d.rdF Reg.CVN_CFG 31 16 * 200000000 ≤ d.now) ∧ d.canTake p = true
      ∧ d.cvn.mirages[p].atRest = true ∧ d.pwr.st ≠ PwrSt.stable ∧ d.pwr.st ≠ PwrSt.dormant)
    ∧ (let p : Slot := 0; let s : State := C 2 (L1 2); let d : Dev := s.dev.begin; d.ring = true ∧ d.drives p = true) := by
  repeat refine ⟨by decide +kernel, ?_⟩
  decide +kernel

theorem witness_RecordAdmission :
    (let s : State := R [] id rst; s.dev.begin.boot.st = BootSt.reset)
    ∧ (let src : Fin 64 := 3; let s : State := R [(Reg.PRT_STATE 3, 0x10000), (Reg.REC_DISCARDS, 0x5FFFF)]; let d : Dev := s.dev.begin;
      d.boot.st ≠ BootSt.reset ∧ (∃ q : Slot, q.val = src.val ∧ d.owner q = 1))
    ∧ (let src : Fin 64 := 63; let sev : Fin 5 := 4; let p : Slot := 0; let body : List Byte := bod 3 9; let v : Word := 0x80040001;
      let s : State := R; let d : Dev := s.dev.begin; 3 ≤ ↑sev ∧ d.boot.st ≠ BootSt.reset ∧ (∀ q : Slot, q.val = src.val → d.owner q ≠ 1)
      ∧ d.rcd.prio.length < 32 ∧ d.owner p ≠ 1 ∧ d.rcd.cyc.length = 12
      ∧ (d.rd (Reg.PRT_CYCLES ↑p) = 4294967295#32 ∨ d.rcd.lastCyc.getD (leNat (List.take 1 body)) 0 < leNat (List.take 4 (List.drop 4 body)))
      ∧ (d.rcd.cyc.getD ↑p []).length < 2 ∧ bit v 31 = true ∧ d.engRun p = true ∧ (fld v 7 0 ≠ 1
      ∧ fld v 7 0 ≠ 2 ∨ 8 * fld v 23 16 < 32 ∨ 256 < 8 * fld v 23 16 ∨ fld v 7 0 = 1 ∧ 8 * fld v 23 16 ≠ 72))
    ∧ (let src : Fin 64 := 0; let sev : Fin 5 := 3; let s : State := R [] (fun r => { r with prio := qs 31 3 }) ld;
      let d : Dev := s.dev.begin; 3 ≤ ↑sev ∧ d.boot.st ≠ BootSt.reset ∧ (∀ q : Slot, q.val = src.val → d.owner q ≠ 1)
      ∧ d.rcd.prio.length < 32)
    ∧ (let src : Fin 64 := 0; let sev : Fin 5 := 3; let s : State := R [] (fun r => { r with prio := qs 32 3 });
      let d : Dev := s.dev.begin; 3 ≤ ↑sev ∧ d.boot.st ≠ BootSt.reset ∧ (∀ q : Slot, q.val = src.val → d.owner q ≠ 1)
      ∧ 32 ≤ d.rcd.prio.length)
    ∧ (let src : Fin 64 := 0; let sev : Fin 5 := 4;
      let s : State := R [] (fun r => { r with prio := qs 32 3, tallies := [⟨0, .priorityFull, 1, 3, 65535, 0, 0⟩] });
      let d : Dev := s.dev.begin; 3 ≤ ↑sev ∧ d.boot.st ≠ BootSt.reset ∧ (∀ q : Slot, q.val = src.val → d.owner q ≠ 1)
      ∧ 32 ≤ d.rcd.prio.length)
    ∧ (let src : Fin 64 := 63; let sev : Fin 5 := 2; let p : Slot := 0; let v : Word := 0x80090003; let s : State := R;
      let d : Dev := s.dev.begin; ↑sev < 3 ∧ d.boot.st ≠ BootSt.reset ∧ (∀ q : Slot, q.val = src.val → d.owner q ≠ 1)
      ∧ d.rcd.intake.length < 128 ∧ bit v 31 = true ∧ d.engRun p = true ∧ (fld v 7 0 ≠ 1
      ∧ fld v 7 0 ≠ 2 ∨ 8 * fld v 23 16 < 32 ∨ 256 < 8 * fld v 23 16 ∨ fld v 7 0 = 1 ∧ 8 * fld v 23 16 ≠ 72))
    ∧ (let src : Fin 64 := 1; let sev : Fin 5 := 0; let s : State := R [] (fun r => { r with intake := qs 127 0 });
      let d : Dev := s.dev.begin; ↑sev < 3 ∧ d.boot.st ≠ BootSt.reset ∧ (∀ q : Slot, q.val = src.val → d.owner q ≠ 1)
      ∧ d.rcd.intake.length < 128)
    ∧ (let src : Fin 64 := 1; let sev : Fin 5 := 0; let s : State := R [] (fun r => { r with intake := qs 128 0 });
      let d : Dev := s.dev.begin; ↑sev < 3 ∧ d.boot.st ≠ BootSt.reset ∧ (∀ q : Slot, q.val = src.val → d.owner q ≠ 1)
      ∧ 128 ≤ d.rcd.intake.length)
    ∧ (let src : Fin 64 := 1; let sev : Fin 5 := 2;
      let s : State := R [] (fun r => { r with intake := qs 128 0, tallies := [⟨1, .intakeFull, 1, 3, 65535, 0, 0⟩] });
      let d : Dev := s.dev.begin; ↑sev < 3 ∧ d.boot.st ≠ BootSt.reset ∧ (∀ q : Slot, q.val = src.val → d.owner q ≠ 1)
      ∧ 128 ≤ d.rcd.intake.length)
    ∧ (let p : Slot := 11; let body : List Byte := bod 250 0xFFFFFFFF;
      let s : State := R [] (fun r => { r with cyc := (List.replicate 12 []).set 11 [q0] }); let d : Dev := s.dev.begin;
      d.boot.st ≠ BootSt.reset ∧ d.owner p ≠ 1 ∧ d.rcd.cyc.length = 12
      ∧ (d.rd (Reg.PRT_CYCLES ↑p) = 4294967295#32 ∨ d.rcd.lastCyc.getD (leNat (List.take 1 body)) 0 < leNat (List.take 4 (List.drop 4 body)))
      ∧ (d.rcd.cyc.getD ↑p []).length < 2)
    ∧ (let p : Slot := 11; let body : List Byte := bod 4 5;
      let s : State := R [(Reg.REC_CYC_REFUSED, 0xFFFFFFFF)] (fun r => { r with cyc := (List.replicate 12 []).set 11 [q0,q0] });
      let d : Dev := s.dev.begin; d.boot.st ≠ BootSt.reset ∧ d.owner p ≠ 1 ∧ d.rcd.cyc.length = 12
      ∧ (d.rd (Reg.PRT_CYCLES ↑p) = 4294967295#32 ∨ d.rcd.lastCyc.getD (leNat (List.take 1 body)) 0 < leNat (List.take 4 (List.drop 4 body)))
      ∧ 2 ≤ (d.rcd.cyc.getD ↑p []).length)
    ∧ (let p : Slot := 11; let body : List Byte := bod 4 5;
      let s : State := R [(Reg.REC_CYC_REFUSED, 7)] (fun r => { r with cyc := (List.replicate 12 []).set 11 [q0,q0,q0] });
      let d : Dev := s.dev.begin; d.boot.st ≠ BootSt.reset ∧ d.owner p ≠ 1 ∧ d.rcd.cyc.length = 12
      ∧ (d.rd (Reg.PRT_CYCLES ↑p) = 4294967295#32 ∨ d.rcd.lastCyc.getD (leNat (List.take 1 body)) 0 < leNat (List.take 4 (List.drop 4 body)))
      ∧ 2 ≤ (d.rcd.cyc.getD ↑p []).length)
    ∧ (let p : Slot := 11; let body : List Byte := bod 4 5;
      let s : State := R [(Reg.REC_DISCARDS, 0xFFFF0003)] (fun r => { r with lastCyc := List.replicate 48 5 });
      let d : Dev := s.dev.begin; d.boot.st ≠ BootSt.reset ∧ d.owner p ≠ 1 ∧ d.rd (Reg.PRT_CYCLES ↑p) ≠ 4294967295#32
      ∧ leNat (List.take 4 (List.drop 4 body)) ≤ d.rcd.lastCyc.getD (leNat (List.take 1 body)) 0)
    ∧ (let p : Slot := 11; let body : List Byte := bod 4 0; let s : State := R [(Reg.REC_DISCARDS, 0x0FFFFFFF)];
      let d : Dev := s.dev.begin; d.boot.st ≠ BootSt.reset ∧ d.owner p ≠ 1 ∧ d.rd (Reg.PRT_CYCLES ↑p) ≠ 4294967295#32
      ∧ leNat (List.take 4 (List.drop 4 body)) ≤ d.rcd.lastCyc.getD (leNat (List.take 1 body)) 0)
    ∧ (let p : Slot := 0; let v : Word := 0x80090001; let s : State := R [(Reg.PRT_STATE 0, 0x10004),(Reg.REC_DISCARDS, 0x0FFFFFFF)];
      let d : Dev := s.dev.begin; bit v 31 = true ∧ d.engRun p = true ∧ (¬(fld v 7 0 ≠ 1
      ∧ fld v 7 0 ≠ 2 ∨ 8 * fld v 23 16 < 32 ∨ 256 < 8 * fld v 23 16 ∨ fld v 7 0 = 1 ∧ 8 * fld v 23 16 ≠ 72)) ∧ d.drives p = false)
    ∧ (let p : Slot := 0; let v : Word := 0x80200002; let s : State := R [(Reg.PRT_STATE 0, 0x30004),(Reg.REC_DISCARDS, 0x0FFF0)];
      let d : Dev := s.dev.begin; bit v 31 = true ∧ d.engRun p = true ∧ (¬(fld v 7 0 ≠ 1
      ∧ fld v 7 0 ≠ 2 ∨ 8 * fld v 23 16 < 32 ∨ 256 < 8 * fld v 23 16 ∨ fld v 7 0 = 1 ∧ 8 * fld v 23 16 ≠ 72)) ∧ d.drives p = false)
    ∧ (let p : Slot := 0; let v : Word := 0x80200202;
      let s : State := R [] (fun r => { r with intake := qs 127 0, mbxCnt := (List.replicate 12 0).set 0 3 });
      let d : Dev := s.dev.begin; bit v 31 = true ∧ d.engRun p = true ∧ (¬(fld v 7 0 ≠ 1
      ∧ fld v 7 0 ≠ 2 ∨ 8 * fld v 23 16 < 32 ∨ 256 < 8 * fld v 23 16 ∨ fld v 7 0 = 1 ∧ 8 * fld v 23 16 ≠ 72)) ∧ fld v 7 0 = 2
      ∧ d.drives p = true ∧ d.rcd.mbxCnt.getD (↑p) 0 < 4 ∧ fld v 10 8 < 3 ∧ d.rcd.intake.length < 128 ∧ d.boot.st ≠ BootSt.reset)
    ∧ (let p : Slot := 0; let v : Word := 0x80040002; let s : State := R; let d : Dev := s.dev.begin; bit v 31 = true ∧ d.engRun p = true
      ∧ (¬(fld v 7 0 ≠ 1 ∧ fld v 7 0 ≠ 2 ∨ 8 * fld v 23 16 < 32 ∨ 256 < 8 * fld v 23 16 ∨ fld v 7 0 = 1 ∧ 8 * fld v 23 16 ≠ 72))
      ∧ fld v 7 0 = 2 ∧ d.drives p = true ∧ d.rcd.mbxCnt.getD (↑p) 0 < 4 ∧ fld v 10 8 < 3 ∧ d.rcd.intake.length < 128
      ∧ d.boot.st ≠ BootSt.reset)
    ∧ (let p : Slot := 0; let v : Word := 0x80040002; let s : State := R [] (fun r => { r with mbxCnt := (List.replicate 12 0).set 0 4 });
      let d : Dev := s.dev.begin; bit v 31 = true ∧ d.engRun p = true ∧ (¬(fld v 7 0 ≠ 1
      ∧ fld v 7 0 ≠ 2 ∨ 8 * fld v 23 16 < 32 ∨ 256 < 8 * fld v 23 16 ∨ fld v 7 0 = 1 ∧ 8 * fld v 23 16 ≠ 72)) ∧ d.drives p = true
      ∧ 4 ≤ d.rcd.mbxCnt.getD (↑p) 0)
    ∧ (let p : Slot := 0; let v : Word := 0x80090001; let s : State := R [] (fun r => { r with mbxCnt := (List.replicate 12 0).set 0 4 });
      let d : Dev := s.dev.begin; bit v 31 = true ∧ d.engRun p = true ∧ (¬(fld v 7 0 ≠ 1
      ∧ fld v 7 0 ≠ 2 ∨ 8 * fld v 23 16 < 32 ∨ 256 < 8 * fld v 23 16 ∨ fld v 7 0 = 1 ∧ 8 * fld v 23 16 ≠ 72)) ∧ d.drives p = true
      ∧ 4 ≤ d.rcd.mbxCnt.getD (↑p) 0) := by
  repeat refine ⟨by decide +kernel, ?_⟩
  decide +kernel

theorem witness_RecordDrain :
    (let q : Req := q0; let rest : List Req := []; let s : State := R [(Reg.REC_STATUS, 4)] (fun r => { r with prio := [q0] });
      let d : Dev := s.dev.begin; q.body.length ≤ 232
      ∧ (d.boot.st = BootSt.engines ∨ d.boot.st = BootSt.done ∨ d.boot.st = BootSt.running) ∧ d.rcd.seqHold = false
      ∧ d.unflBytes + 256 < 24 * 1024 ∧ d.jnl.pendingBytes < 8 * 1024 ∧ d.rcd.tallies = [] ∧ d.rdB Reg.REC_STATUS 2 = true
      ∧ d.rcd.prio = q :: rest)
    ∧ (let q : Req := { q0 with body := [], sev := 4 }; let rest : List Req := qs 2 3;
      let s : State := R [(Reg.REC_STATUS, 4), (Reg.REC_NEXT_SEQ_LO, 0xFFFFFFFF), (Reg.REC_NEXT_SEQ_HI, 0xFFF)] (fun r => { r with prio := { q0 with body := [], sev := 4 } :: qs 2 3, intake := qs 3 1, unfl := [(0, ⟨5, q0⟩)] });
      let d : Dev := s.dev.begin; q.body.length ≤ 232
      ∧ (d.boot.st = BootSt.engines ∨ d.boot.st = BootSt.done ∨ d.boot.st = BootSt.running) ∧ d.rcd.seqHold = false
      ∧ d.unflBytes + 256 < 24 * 1024 ∧ d.jnl.pendingBytes < 8 * 1024 ∧ d.rcd.tallies = [] ∧ d.rdB Reg.REC_STATUS 2 = true
      ∧ d.rcd.prio = q :: rest)
    ∧ (let q : Req := { q0 with body := [], sev := 4 }; let rest : List Req := qs 2 3;
      let s : State := R [(Reg.REC_STATUS, 4), (Reg.REC_NEXT_SEQ_LO, 0xFFFFFFFF), (Reg.REC_NEXT_SEQ_HI, 0xFFF)] (fun r => { r with intake := { q0 with body := [], sev := 4 } :: qs 2 3, unfl := [(0, ⟨5, q0⟩)] });
      let d : Dev := s.dev.begin; q.body.length ≤ 232
      ∧ (d.boot.st = BootSt.engines ∨ d.boot.st = BootSt.done ∨ d.boot.st = BootSt.running) ∧ d.rcd.seqHold = false
      ∧ d.unflBytes + 256 < 24 * 1024 ∧ d.jnl.pendingBytes < 8 * 1024 ∧ d.rcd.tallies = [] ∧ d.rdB Reg.REC_STATUS 2 = true
      ∧ d.rcd.prio = [] ∧ (∀ l ∈ d.rcd.cyc, l = []) ∧ d.rcd.intake = q :: rest)
    ∧ (let q : Req := { q0 with kind := .cycle, sev := 2 }; let rest : List Req := [q0]; let k : Fin 12 := 3;
      let s : State := R [(Reg.REC_STATUS, 4), (Reg.CVN_CFG, 1)] (fun r => { r with intake := qs 3 1, cyc := (List.replicate 12 []).set 3 [{ q0 with kind := .cycle, sev := 2 }, q0] });
      let d : Dev := s.dev.begin; q.body.length ≤ 232
      ∧ (d.boot.st = BootSt.engines ∨ d.boot.st = BootSt.done ∨ d.boot.st = BootSt.running) ∧ d.rcd.seqHold = false
      ∧ d.unflBytes + 256 < 24 * 1024 ∧ d.jnl.pendingBytes < 8 * 1024 ∧ d.rcd.tallies = [] ∧ d.rdB Reg.REC_STATUS 2 = true
      ∧ d.rcd.prio = [] ∧ d.rcd.cyc.length = 12 ∧ d.rcd.cyc.getD ↑k [] = q :: rest ∧ (∀ j < 12, j ≠ k.val → d.rcd.cyc.getD j [] = []))
    ∧ (let s : State := R [(Reg.REC_STATUS, 2)] (fun r => { r with seqHold := true, intake := qs 3 1 }); let d : Dev := s.dev.begin;
      (d.rcd.seqHold = true ∨ d.boot.st = BootSt.nand ∨ d.boot.st = BootSt.recorder ∨ d.unflLimit ≤ d.unflBytes)
      ∧ d.rdB Reg.REC_STATUS 1 = true)
    ∧ (let s : State := R; s.dev.begin.rcd.snapDue = [])
    ∧ (let sd : SnapFire := ⟨9, 3, 4, 5, 2, 7, none⟩; let s : State := R [] (fun r => { r with snapDue := [⟨9, 3, 4, 5, 2, 7, none⟩] });
      sd.body = none ∧ s.dev.begin.rcd.snapDue = [sd])
    ∧ (let sd : SnapFire := ⟨9, 0, 0xFF, 5, 0, 63, none⟩;
      let s : State := R [] (fun r => { r with snapDue := [⟨9, 0, 0xFF, 5, 0, 63, none⟩], intake := qs 127 1 }); sd.body = none
      ∧ s.dev.begin.rcd.snapDue = [sd])
    ∧ (let sd : SnapFire := ⟨9, 3, 4, 5, 2, 7, some [1, 2]⟩; let body : List Byte := [1, 2];
      let s : State := R [] (fun r => { r with snapDue := [⟨9, 3, 4, 5, 2, 7, some [1, 2]⟩] }) (·.modTime (fun t => { t with lastStrobe := 10 }));
      let d : Dev := s.dev.begin; sd.body = some body ∧ d.rcd.snapDue = [sd] ∧ (∀ q : Slot, q.val = sd.src → d.owner q ≠ 1)
      ∧ d.boot.st ≠ BootSt.reset ∧ sd.sev < 3 ∧ d.rcd.intake.length < 128)
    ∧ (let sd : SnapFire := ⟨9, 0, 0xFF, 5, 0, 63, some [1, 2]⟩; let body : List Byte := [1, 2];
      let s : State := R [] (fun r => { r with snapDue := [⟨9, 0, 0xFF, 5, 0, 63, some [1, 2]⟩], intake := qs 127 1 }) (·.modTime (fun t => { t with lastStrobe := 10 }));
      let d : Dev := s.dev.begin; sd.body = some body ∧ d.rcd.snapDue = [sd] ∧ (∀ q : Slot, q.val = sd.src → d.owner q ≠ 1)
      ∧ d.boot.st ≠ BootSt.reset ∧ sd.sev < 3 ∧ d.rcd.intake.length < 128) := by
  repeat refine ⟨by decide +kernel, ?_⟩
  decide +kernel

theorem witness_FlushesAndPowerFail :
    (let s : State := R [] (fun r => { r with unfl := [(0, ⟨9, q0⟩), (64, ⟨5, q0⟩)] }); let d : Dev := s.dev.begin; d.lcState < 3
      ∧ d.rcd.tallies = [] ∧ d.rcd.adoptDue = [] ∧ d.rdB Reg.REC_STATUS 1 = false ∧ d.flushNeeded = true)
    ∧ (let s : State := R [] (fun r => { r with lastFlush := 77, severeAt := some 3 }) (J fun j => { j with pending := [je2], jobs := [je] });
      let d : Dev := s.dev.begin; d.lcState < 3 ∧ d.rcd.tallies = [] ∧ d.rcd.adoptDue = [] ∧ d.rdB Reg.REC_STATUS 1 = false
      ∧ d.flushNeeded = true)
    ∧ (let s : State := R; let d : Dev := s.dev.begin; d.flushNeeded = false ∧ d.hostUp = true ∧ d.lcState < 3 ∧ d.rcd.tallies = []
      ∧ d.rcd.adoptDue = [] ∧ d.rdB Reg.REC_STATUS 1 = false ∧ d.rcd.pfi = false ∧ d.boot.st = BootSt.running ∧ d.sec.loading = false
      ∧ d.sec.verifying = false ∧ d.jnl.compacting = false ∧ d.pwr.st = PwrSt.run ∧ d.rcd.pf ≠ PfPhase.captured)
    ∧ (let t0 : Nat := 50;
      let s : State := R [] (fun r => { r with severeAt := some 50, unfl := [(0, ⟨9, q0⟩), (64, ⟨5, q0⟩)] }) (J fun j => { j with pending := [je2], jobs := [je] });
      let d : Dev := s.dev.begin; d.lcState < 3 ∧ d.rcd.tallies = [] ∧ d.rcd.adoptDue = [] ∧ d.rdB Reg.REC_STATUS 1 = false
      ∧ d.rcd.severeAt = some t0)
    ∧ (let t0 : Nat := 50; let s : State := R [] (fun r => { r with severeAt := some 50 }); let d : Dev := s.dev.begin; d.lcState < 3
      ∧ d.rcd.tallies = [] ∧ d.rcd.adoptDue = [] ∧ d.rdB Reg.REC_STATUS 1 = false ∧ d.rcd.severeAt = some t0)
    ∧ (let s : State := R [] (fun r => { r with unfl := [(0, ⟨9, q0⟩), (64, ⟨5, q0⟩)] }) (J fun j => { j with pending := [je2], jobs := [je] });
      let d : Dev := s.dev.begin; d.hostUp = true ∧ d.lcState < 3 ∧ d.rcd.tallies = [] ∧ d.rcd.adoptDue = []
      ∧ d.rdB Reg.REC_STATUS 1 = false)
    ∧ (let s : State := R [(Reg.REC_STATUS, 2)] (fun r => { r with job := [⟨4, q0⟩] }); let d : Dev := s.dev.begin; d.hostUp = true
      ∧ d.rdB Reg.REC_STATUS 1 = true ∧ d.rcd.job ≠ [] ∧ d.sec.order = none)
    ∧ (let s : State := R [(Reg.REC_STATUS, 2)]; let d : Dev := s.dev.begin; d.rdB Reg.REC_STATUS 1 = true ∧ d.rcd.job = []
      ∧ d.rcd.jobAdopt = [] ∧ d.jnl.jobs = [] ∧ d.rcd.flushAgain = false ∧ d.unflBytes < 24 * 1024 ∧ d.jnl.pendingBytes < 8 * 1024
      ∧ d.sec.order = none)
    ∧ (let s : State := R [(Reg.REC_STATUS, 6), (Reg.CVN_CFG, 1)] (fun r => { r with unfl := [(0, ⟨9, q0⟩), (64, ⟨5, q0⟩)] }) (J fun j => { j with pending := [je2] });
      let d : Dev := s.dev.begin; d.rdB Reg.REC_STATUS 1 = true ∧ d.rcd.job = [] ∧ d.rcd.jobAdopt = [] ∧ d.jnl.jobs = []
      ∧ d.rcd.flushAgain = false ∧ d.unflBytes < 24 * 1024 ∧ d.jnl.pendingBytes < 8 * 1024 ∧ d.sec.order = none)
    ∧ (let s : State := R [] (fun r => { r with pfi := true }); (s.dev.begin.rcd.pfi = true ∨ s.dev.begin.boot.st = BootSt.reset))
    ∧ (let s : State := R [] id rst; (s.dev.begin.rcd.pfi = true ∨ s.dev.begin.boot.st = BootSt.reset))
    ∧ (let s : State := R [(Reg.REC_STATUS, 6)] (fun r => { r with unfl := [(0, ⟨9, q0⟩), (64, ⟨5, q0⟩)], intake := qs 4 1, prio := qs 2 3, job := [⟨4, q0⟩] }) (J fun j => { j with pending := [je2], jobs := [je] });
      let d : Dev := s.dev.begin; d.rcd.pfi = false ∧ d.boot.st = BootSt.running ∧ d.sec.loading = false ∧ d.sec.verifying = false
      ∧ d.jnl.compacting = false ∧ d.pwr.st = PwrSt.run ∧ d.lcState < 3)
    ∧ (let s : State := R [] (fun r => { r with pf := .captured, pfAt := 1999 }); let d : Dev := s.dev.begin; d.rcd.pf = PfPhase.captured
      ∧ d.rdB Reg.REC_STATUS 1 = false ∧ d.rcd.sealWait = false ∧ d.rcd.sealDue = [])
    ∧ (let s : State := R [(Reg.REC_PF_STATUS, 0xFFFF0000)] (fun r => { r with pf := .captured }); let d : Dev := s.dev.begin;
      d.rcd.pf = PfPhase.captured ∧ d.rdB Reg.REC_STATUS 1 = false ∧ d.rcd.sealWait = false ∧ d.rcd.sealDue = [])
    ∧ (let s : State := R [] (fun r => { r with pf := .done }); s.dev.begin.rcd.pf ≠ PfPhase.captured)
    ∧ (let s : State := R [] (fun r => { r with pfi := true, pf := .done }); let d : Dev := s.dev.begin; d.rcd.pfi = true
      ∧ d.boot.pfStop = false)
    ∧ (let s : State := R [] (fun r => { r with pfi := true, pf := .captured }) (J fun j => { j with pending := [je2], next := 0xFFFFFFFF });
      let d : Dev := s.dev.begin; d.rcd.pfi = true ∧ d.boot.pfStop = false)
    ∧ (let s : State := R [] (fun r => { r with pfi := true }) (·.modBoot (fun b => { b with st := .load, pfStop := true }));
      let d : Dev := s.dev.begin; d.rcd.pfi = true ∧ d.boot.pfStop = true)
    ∧ (let s : State := R [] (fun r => { r with pfi := true }) (·.modBoot (fun b => { b with pfStop := true }));
      let d : Dev := s.dev.begin; d.rcd.pfi = true ∧ d.boot.pfStop = true) := by
  repeat refine ⟨by decide +kernel, ?_⟩
  decide +kernel

theorem witness_NandOperations :
    (let s : State := R [] (fun r => { r with fails := 2 }) (J fun j => { j with jobs := [je] }); let d : Dev := s.dev.begin;
      d.rcd.job = [] ∧ d.rcd.jobAdopt = [] ∧ d.rcd.sealWait = false ∧ d.jnl.jobs ≠ [] ∧ (∀ e ∈ d.jnl.jobs, e.body.size ≤ 2048))
    ∧ (let s : State := R [] (fun r => { r with fails := 2 }) (J fun j => { j with jobs := [je, je2], active1 := true, half1 := [{ je2 with body := .bankData 0 0 0 (List.replicate 1900 1), page := 5 }], half0 := [je] });
      let d : Dev := s.dev.begin; d.rcd.job = [] ∧ d.rcd.jobAdopt = [] ∧ d.rcd.sealWait = false ∧ d.jnl.jobs ≠ []
      ∧ (∀ e ∈ d.jnl.jobs, e.body.size ≤ 2048))
    ∧ (let s : State := R [] id (·.modSec (fun x => { x with programming := true })); let d : Dev := s.dev.begin; d.rcd.job = []
      ∧ d.rcd.jobAdopt = [] ∧ d.jnl.jobs = [] ∧ d.sec.programming = true)
    ∧ (let s : State := R [] (fun r => { r with spareUsed := 63, fails := 1 }); let d : Dev := s.dev.begin; d.sec.programming = false
      ∧ d.rcd.spareUsed < 64 ∧ d.rcd.fails < 2)
    ∧ (let s : State := R [(Reg.JNL_NAND_STATUS, 0xFFFFFFFF), (Reg.REC_STATUS, 6)] (fun r => { r with spareUsed := 0, fails := 0, job := [⟨4, q0⟩] });
      let d : Dev := s.dev.begin; d.sec.programming = false ∧ d.rcd.spareUsed < 64 ∧ d.rcd.fails < 2)
    ∧ (let s : State := R [(Reg.REC_STATUS, 6)] (fun r => { r with fails := 2, spareUsed := 64, job := [⟨4, q0⟩] }) (J fun j => { j with jobs := [je], pending := [je2] });
      let d : Dev := s.dev.begin; d.sec.programming = false ∧ d.rcd.fails = 2 ∧ d.rdB Reg.REC_STATUS 2 = true)
    ∧ (let s : State := R [(Reg.REC_STATUS, 4)] (fun r => { r with fails := 2, spareUsed := 3 }); let d : Dev := s.dev.begin;
      d.sec.programming = false ∧ d.rcd.fails = 2 ∧ d.rdB Reg.REC_STATUS 2 = true)
    ∧ (let s : State := R; let d : Dev := s.dev.begin; d.rcd.sealDue = [] ∧ (d.jnl.fill < 75 ∨ d.jnl.compacting = true)
      ∧ d.jnl.compacting = false)
    ∧ (let sd : SealDue := ⟨0, false, some 300, 77, 9⟩; let rest : List SealDue := []; let b : Nat := 300; let page : Nat := 63;
      let s : State := R [] (fun r => { r with sealDue := [⟨0, false, some 300, 77, 9⟩] }); let d : Dev := s.dev.begin;
      d.rcd.sealDue = sd :: rest ∧ sd.flags % 2 = 0 ∧ (sd.block = some b ∧ page = 63 ∨ sd.block = none
      ∧ ∃ used < 2048, (if sd.saf = true then d.rcd.safOpen else d.rcd.genOpen) = some (b, page, used) ∧ used + 176 ≤ pageCap page
      ∧ d.pageTakes b page d.ownOrigin false false = true))
    ∧ (let sd : SealDue := ⟨2, false, none, 77, 9⟩; let rest : List SealDue := []; let b : Nat := 960; let page : Nat := 62;
      let s : State := R [] (fun r => { r with genOpen := some (960, 62, 1808), sealDue := [⟨2, false, none, 77, 9⟩] });
      let d : Dev := s.dev.begin; d.rcd.sealDue = sd :: rest ∧ sd.flags % 2 = 0 ∧ (sd.block = some b ∧ page = 63 ∨ sd.block = none
      ∧ ∃ used < 2048, (if sd.saf = true then d.rcd.safOpen else d.rcd.genOpen) = some (b, page, used) ∧ used + 176 ≤ pageCap page
      ∧ d.pageTakes b page d.ownOrigin false false = true))
    ∧ (let b : Nat := 5; let s : State := R [] (fun r => { r with blocks := [(5, .erasing), (6, .used)] }); let d : Dev := s.dev.begin;
      (b, BlockSt.erasing) ∈ d.rcd.blocks ∧ d.rdB Reg.REC_STATUS 0 = false)
    ∧ (let b : Nat := 5;
      let s : State := R [(Reg.JNL_ERASE_MAX, 5)] (fun r => { r with blocks := [(5, .erasing), (6, .used)], eraseCnt := [(5, 99)] });
      let d : Dev := s.dev.begin; (b, BlockSt.erasing) ∈ d.rcd.blocks ∧ d.rdB Reg.REC_STATUS 0 = false)
    ∧ (let b : Nat := 5; let s : State := R [] (fun r => { r with blocks := [(5, .used), (6, .erasing)] });
      ((b, BlockSt.erasing) ∉ s.dev.begin.rcd.blocks ∨ s.dev.begin.rdB Reg.REC_STATUS 0 = true))
    ∧ (let s : State := R [] id (J fun j => { j with compacting := true }); (s.dev.begin.jnl.fill < 75 ∨ s.dev.begin.jnl.compacting = true))
    ∧ (let s : State := R [] id (J fun j => { j with compacting := true, half0 := [je, je2], half1 := [je], snap := [je2], snapLast := 7 });
      s.dev.begin.jnl.compacting = true)
    ∧ (let s : State := R [] id (J fun j => { j with compacting := true, half0 := [je, je2], half1 := [je], snap := [je2], snapLast := 6, active1 := true });
      s.dev.begin.jnl.compacting = true) := by
  repeat refine ⟨by decide +kernel, ?_⟩
  decide +kernel

theorem witness_RecordWindowMirrorAndReturn :
    (let s : State := R [(Reg.REC_WIN_STATUS, 7)]; let d : Dev := s.dev.begin; d.takesFrames = true ∧ (d.up = true ∨ d.inquiry = true))
    ∧ (let s : State := R [(Reg.REC_WIN_STATUS, 7)] (fun r => { r with unfl := [(0, ⟨9, q0⟩), (64, ⟨0x5000000005, q0⟩)] });
      let d : Dev := s.dev.begin; d.takesFrames = true ∧ (d.up = true ∨ d.inquiry = true) ∧ d.winRecords ≠ []
      ∧ (∀ r ∈ d.winRecords, r.seq < 2 ^ 48))
    ∧ (let s : State := R [(Reg.REC_WIN_STATUS, 7)] (fun r => { r with unfl := [(0, ⟨9, q0⟩), (64, ⟨0x5000000005, q0⟩)], store := [⟨⟨3, q0⟩, 0, false, false, false, 0, 0, 0⟩, ⟨⟨1, q0⟩, 0, true, false, false, 0, 0, 0⟩] });
      let d : Dev := s.dev.begin; d.takesFrames = true ∧ (d.up = true ∨ d.inquiry = true) ∧ d.winRecords ≠ []
      ∧ (∀ r ∈ d.winRecords, r.seq < 2 ^ 48))
    ∧ (let s : State := R [(Reg.REC_WIN_STATUS, 6)] (fun r => { r with loading := true, curKey := 5, unfl := [(0, ⟨9, q0⟩), (64, ⟨0x5000000005, q0⟩)], store := [⟨⟨3, q0⟩, 0, false, false, false, 0, 0, 0⟩, ⟨⟨1, q0⟩, 0, true, false, false, 0, 0, 0⟩] });
      s.dev.begin.rcd.loading = true)
    ∧ (let s : State := R [(Reg.REC_WIN_STATUS, 6)] (fun r => { r with loading := true, curKey := 0x5000000006, unfl := [(0, ⟨9, q0⟩), (64, ⟨0x5000000005, q0⟩)] });
      s.dev.begin.rcd.loading = true)
    ∧ (let s : State := R [(Reg.REC_WIN_STATUS, 6)]; s.dev.begin.rcd.loading = false)
    ∧ (let origin : Nat := 3; let ofs : Nat := 999;
      let s : State := R [(Reg.CVN_CFG, 2)] (fun r => { r with mirror := [mirr 1 3, mirr 2 3, mirr 1 4] }); let d : Dev := s.dev.begin;
      d.solo = false ∧ (∀ m ∈ d.rcd.mirror, m.origin = origin → m.ofs ≠ ofs))
    ∧ (let s : State := R; let d : Dev := s.dev.begin; d.solo = true
      ∧ (d.rcd.seqHold = false ∨ d.boot.st ∉ [BootSt.engines, BootSt.done, BootSt.running]))
    ∧ (let r : Rec := ⟨9, q0⟩; let s : State := R [] (fun r => { r with unfl := [(0, ⟨9, q0⟩)] });
      (s.dev.begin.solo = true ∨ s.dev.begin.holdsSeq r.seq = true))
    ∧ (let r : Rec := ⟨9, q0⟩; let s : State := R [(Reg.CVN_CFG, 2)] (fun r => { r with unfl := [(0, ⟨9, q0⟩)] });
      (s.dev.begin.solo = true ∨ s.dev.begin.holdsSeq r.seq = true))
    ∧ (let r : Rec := ⟨10, q0⟩; let s : State := R [(Reg.CVN_CFG, 2)] (fun r => { r with unfl := [(0, ⟨9, q0⟩)] });
      let d : Dev := s.dev.begin; d.solo = false ∧ d.holdsSeq r.seq = false)
    ∧ (let r : Rec := ⟨10, { q0 with sev := 4 }⟩; let s : State := R [(Reg.CVN_CFG, 2)] (fun r => { r with unfl := [(0, ⟨9, q0⟩)] });
      let d : Dev := s.dev.begin; d.solo = false ∧ d.holdsSeq r.seq = false)
    ∧ (let s : State := R [(Reg.CVN_CFG, 2)]; let d : Dev := s.dev.begin; d.solo = false ∧ d.rcd.seqHold = false)
    ∧ (let s : State := R [(Reg.REC_STATUS, 0x80), (Reg.REC_NEXT_SEQ_LO, 3)] (fun r => { r with seqHold := true, unfl := [(0, ⟨9, q0⟩)] });
      let d : Dev := s.dev.begin; d.rcd.seqHold = true ∧ d.boot.st ∈ [BootSt.engines, BootSt.done, BootSt.running] ∧ d.nextSeq < 2 ^ 48
      ∧ (∀ s_1 ∈ d.rcd.store, s_1.item.seq < 2 ^ 48 - 1) ∧ (∀ x ∈ d.rcd.unfl, x.2.seq < 2 ^ 48 - 1))
    ∧ (let s : State := R [(Reg.REC_STATUS, 0x80), (Reg.REC_NEXT_SEQ_LO, 0xFFFFFFFF), (Reg.REC_NEXT_SEQ_HI, 0xFFFF)] (fun r => { r with seqHold := true, unfl := [(0, ⟨9, q0⟩)], store := [⟨⟨2^48-2, q0⟩, 0, false, false, false, 0, 0, 0⟩] });
      let d : Dev := s.dev.begin; d.rcd.seqHold = true ∧ d.boot.st ∈ [BootSt.engines, BootSt.done, BootSt.running] ∧ d.nextSeq < 2 ^ 48
      ∧ (∀ s_1 ∈ d.rcd.store, s_1.item.seq < 2 ^ 48 - 1) ∧ (∀ x ∈ d.rcd.unfl, x.2.seq < 2 ^ 48 - 1))
    ∧ (let s : State := R; (s.dev.begin.rcd.seqHold = false ∨ s.dev.begin.boot.st ∉ [BootSt.engines, BootSt.done, BootSt.running])) := by
  repeat refine ⟨by decide +kernel, ?_⟩
  decide +kernel

theorem witness_Bundles :
    (let g : Bool := true; let ofs : Nat := 4; let bytes : List Byte := [1,2]; let i : Instr := .loadWinWrite 4 [1,2] true;
      let s : State := Z [] (fun x => { x with session := none, loading := true }); let d : Dev := s.dev.begin;
      i ∈ [Instr.loadBegin g, Instr.loadWinWrite ofs bytes g, Instr.loadEnd g, Instr.loadAbort g, Instr.revert g, Instr.svnCommit g]
      ∧ d.takesFrames = true ∧ (g = false ∨ d.hasRight 3 = false))
    ∧ (let g : Bool := true; let ofs : Nat := 4; let bytes : List Byte := [1,2]; let i : Instr := .svnCommit true;
      let s : State := Z [] (fun x => { x with session := some ⟨0x1F7,1,0,10,0,0⟩, loading := true }); let d : Dev := s.dev.begin;
      i ∈ [Instr.loadBegin g, Instr.loadWinWrite ofs bytes g, Instr.loadEnd g, Instr.loadAbort g, Instr.revert g, Instr.svnCommit g]
      ∧ d.takesFrames = true ∧ (g = false ∨ d.hasRight 3 = false))
    ∧ (let b : Bool := false; let s : State := Z [(Reg.SEC_LOAD_LEN, 1)]; let d : Dev := s.dev.begin; d.takesFrames = true
      ∧ d.hasRight 3 = true ∧ d.freeSlot = some b ∧ d.sec.verifying = false ∧ 1 ≤ BitVec.toNat (d.rd Reg.SEC_LOAD_LEN)
      ∧ BitVec.toNat (d.rd Reg.SEC_LOAD_LEN) ≤ 8388608)
    ∧ (let b : Bool := true;
      let s : State := Z [(Reg.SEC_LOAD_LEN, 8388608)] (fun x => { x with taken := true, inForceB := false, slotA := { x.slotA with valid := true }, slotB := { x.slotB with valid := true, len := 4 } });
      let d : Dev := s.dev.begin; d.takesFrames = true ∧ d.hasRight 3 = true ∧ d.freeSlot = some b ∧ d.sec.verifying = false
      ∧ 1 ≤ BitVec.toNat (d.rd Reg.SEC_LOAD_LEN) ∧ BitVec.toNat (d.rd Reg.SEC_LOAD_LEN) ≤ 8388608)
    ∧ (let s : State := Z [(Reg.SEC_LOAD_LEN, 8388609)]; let d : Dev := s.dev.begin; d.takesFrames = true ∧ d.hasRight 3 = true
      ∧ (d.freeSlot = none ∨ d.rd Reg.SEC_LOAD_LEN = 0 ∨ 8388608 < BitVec.toNat (d.rd Reg.SEC_LOAD_LEN)))
    ∧ (let s : State := Z [(Reg.SEC_LOAD_LEN, 5)] (fun x => { x with taken := true, inForceB := false, pending := 2, slotA := { x.slotA with valid := true }, slotB := { x.slotB with valid := true, len := 4 } });
      let d : Dev := s.dev.begin; d.takesFrames = true ∧ d.hasRight 3 = true
      ∧ (d.freeSlot = none ∨ d.rd Reg.SEC_LOAD_LEN = 0 ∨ 8388608 < BitVec.toNat (d.rd Reg.SEC_LOAD_LEN)))
    ∧ (let s : State := Z [(Reg.SEC_LOAD_LEN, 5)] (fun x => { x with loading := true }); let d : Dev := s.dev.begin; d.takesFrames = true
      ∧ d.hasRight 3 = true ∧ d.sec.loading = true)
    ∧ (let s : State := Z [(Reg.SEC_LOAD_LEN, 5), (Reg.SEC_LOAD_OFS, 40)] (fun x => { x with loading := true });
      let d : Dev := s.dev.begin; d.takesFrames = true ∧ d.hasRight 3 = true ∧ d.sec.loading = true)
    ∧ (let s : State := Z [] (fun x => { x with loading := true }); let d : Dev := s.dev.begin; d.takesFrames = true ∧ d.hasRight 3 = true
      ∧ d.sec.loading = true)
    ∧ (let s : State := Z [(Reg.SEC_STATUS, 0xFFFFFFFF)] (fun x => { x with loading := true, programming := true });
      let d : Dev := s.dev.begin; d.takesFrames = true ∧ d.hasRight 3 = true ∧ d.sec.loading = true)
    ∧ (let s : State := Z [] (fun x => { x with loading := true, programming := true }); let d : Dev := s.dev.begin; d.takesFrames = true
      ∧ d.hasRight 3 = true ∧ (d.sec.loading = true ∨ d.sec.verifying = true))
    ∧ (let s : State := Z [] (fun x => { x with verifying := true, slotB := { x.slotB with valid := true } }); let d : Dev := s.dev.begin;
      d.takesFrames = true ∧ d.hasRight 3 = true ∧ (d.sec.loading = true ∨ d.sec.verifying = true))
    ∧ (let s : State := Z; let d : Dev := s.dev.begin; d.sec.verifying = false ∧ d.takesFrames = true ∧ d.hasRight 3 = true
      ∧ d.fallbackOk = false ∧ d.sec.taken = false)
    ∧ (let s : State := Z [] (fun x => { x with taken := true, inForceB := false, slotA := { x.slotA with valid := true }, slotB := { x.slotB with valid := true, len := 4 } });
      let d : Dev := s.dev.begin; d.takesFrames = true ∧ d.hasRight 3 = true ∧ d.fallbackOk = true)
    ∧ (let s : State := Z ((List.range 12).map (fun n => (Reg.ENG_STATUS n, 1))) (fun x => { x with taken := true, inForceB := false, slotA := { x.slotA with valid := true, svn := 7 }, slotB := { x.slotB with valid := true, len := 4 } });
      let d : Dev := s.dev.begin; d.takesFrames = true ∧ d.hasRight 3 = true ∧ d.sec.taken = true ∧ (∀ (p : Slot), d.engRun p = true))
    ∧ (let s : State := Z ((List.range 12).map (fun n => (Reg.ENG_STATUS n, 1))) (fun x => { x with taken := true, inForceB := true, slotB := { x.slotA with valid := true, svn := 99 }, slotA := { x.slotB with valid := true, len := 4 } });
      let d : Dev := s.dev.begin; d.takesFrames = true ∧ d.hasRight 3 = true ∧ d.sec.taken = true ∧ (∀ (p : Slot), d.engRun p = true)) := by
  repeat refine ⟨by decide +kernel, ?_⟩
  decide +kernel

theorem witness_MessageCommands :
    (let g : Bool := false; let s : State := Z; let d : Dev := s.dev.begin; d.takesFrames = true ∧ (g = false ∨ d.hasRight 8 = false)
      ∧ d.hasRight 8 = true ∧ ¬(1 ≤ d.lcState ∧ d.lcState ≤ 3))
    ∧ (let g : Bool := true; let s : State := Z [] (fun x => { x with session := none }); let d : Dev := s.dev.begin; d.takesFrames = true
      ∧ (g = false ∨ d.hasRight 8 = false) ∧ d.sec.session = none ∧ d.sec.job = none)
    ∧ (let s : State := Z [(Reg.SEC_MSG_STATUS, 1)] (lc 4); let d : Dev := s.dev.begin; d.takesFrames = true ∧ d.hasRight 8 = true
      ∧ ¬(1 ≤ d.lcState ∧ d.lcState ≤ 3))
    ∧ (let s : State := Z [] (lc 4); let d : Dev := s.dev.begin; d.takesFrames = true ∧ (d.sec.otp.killed = true ∨ d.lcState = 4)
      ∧ d.sec.job = none)
    ∧ (let s : State := Z [] (fun x => { x with otp := { x.otp with killed := true } }); let d : Dev := s.dev.begin; d.takesFrames = true
      ∧ (d.sec.otp.killed = true ∨ d.lcState = 4))
    ∧ (let s : State := Z [] (fun x => { x with otp := { x.otp with cert := [1,2,3,4,5] } }); let d : Dev := s.dev.begin;
      d.takesFrames = true ∧ (¬(d.sec.otp.killed = true ∨ d.lcState = 4)) ∧ d.sec.otp.cert.length ≤ 1024)
    ∧ (let s : State := Z [] (fun x => { x with otp := { x.otp with cert := List.replicate 1024 7 } }); let d : Dev := s.dev.begin;
      d.takesFrames = true ∧ (¬(d.sec.otp.killed = true ∨ d.lcState = 4)) ∧ d.sec.otp.cert.length ≤ 1024)
    ∧ (let s : State := Z [(Reg.SEC_MSG_BUF 1, 0x01020304)] (lc 1); let d : Dev := s.dev.begin; d.takesFrames = true ∧ d.sec.job = none
      ∧ (¬(d.sec.otp.killed = true ∨ d.lcState = 4)))
    ∧ (let s : State := Z [] (lc 3); let d : Dev := s.dev.begin; d.takesFrames = true ∧ d.sec.job = none
      ∧ (¬(d.sec.otp.killed = true ∨ d.lcState = 4)))
    ∧ (let i : Instr := .attest; let s : State := Z [] (fun x => { x with job := some .token }); let d : Dev := s.dev.begin;
      i ∈ [Instr.attest, Instr.chalReq, Instr.sessStart] ∧ d.takesFrames = true ∧ d.sec.job.isSome = true)
    ∧ (let i : Instr := .sessStart; let s : State := Z [(Reg.SEC_MSG_STATUS, 1)] (fun x => { x with job := some .challenge });
      let d : Dev := s.dev.begin; i ∈ [Instr.attest, Instr.chalReq, Instr.sessStart] ∧ d.takesFrames = true ∧ d.sec.job.isSome = true
      ∧ d.sec.job = some SecJob.challenge)
    ∧ (let s : State := Z [(Reg.SEC_MSG_STATUS, 1)] (fun x => { x with job := some .attest }); s.dev.begin.sec.job = some SecJob.attest)
    ∧ (let s : State := Z [(Reg.SEC_MSG_STATUS, 1)]; let d : Dev := s.dev.begin; d.sec.job ≠ some SecJob.attest
      ∧ d.sec.job ≠ some SecJob.challenge) := by
  repeat refine ⟨by decide +kernel, ?_⟩
  decide +kernel

theorem witness_SessionsOrdersJtag :
    (let x : Session := ses2; let i : JtagIns := .idcode; let v : Bool := true; let s : State := Z; let d : Dev := s.dev.begin;
      d.takesFrames = true ∧ d.sec.session.isSome = true ∧ d.sec.session = some x ∧ d.sec.job ≠ some SecJob.token ∧ d.sec.extest = false
      ∧ (i = JtagIns.idcode ∨ i = JtagIns.bypass ∨ i = JtagIns.sample ∧ d.lcState ≠ 4 ∨ i = JtagIns.vendorTest ∧ v = true
      ∧ (d.lcState = 0 ∨ d.lcState = 3)) ∧ (d.lcState = 0 ∨ d.lcState = 3))
    ∧ (let s : State := Z [(Reg.PRT_OBS_STATUS 3, 0xFFFFFFFF), (Reg.SEC_SESS_RIGHTS, 0x1FF), (Reg.SEC_STATUS, 0xFFFFFFFF), (Reg.PRT_CFG 3, 0)] (fun x => { x with loading := true });
      let d : Dev := s.dev.begin; d.takesFrames = true ∧ d.sec.session.isSome = true)
    ∧ (let s : State := Z [] (fun x => { x with session := none }); s.dev.begin.sec.session = none)
    ∧ (let x : Session := ses2; let s : State := Z [] id (fun d => d.modRcd (fun r => { r with released := 600, opBase := 99999999 }));
      s.dev.begin.sec.session = some x)
    ∧ (let t : Nat := 7; let s : State := Z [] (fun x => { x with job := some .token }); let d : Dev := s.dev.begin;
      d.sec.job = some SecJob.token ∧ (d.upTo t).tokenCheck ≠ 0)
    ∧ (let t : Nat := 7; let s : State := Z [] (fun x => { x with job := some .token, session := none, chal := none });
      let d : Dev := s.dev.begin; d.sec.job = some SecJob.token ∧ (d.upTo t).tokenCheck ≠ 0)
    ∧ (let g : Bool := false; let s : State := Z [] (lc 2); let d : Dev := s.dev.begin; d.takesFrames = true ∧ d.lcState ≠ 0
      ∧ (g = false ∨ d.hasRight 6 = false))
    ∧ (let g : Bool := true; let s : State := Z [] (fun x => lc 2 { x with session := none }); let d : Dev := s.dev.begin;
      d.takesFrames = true ∧ d.lcState ≠ 0 ∧ (g = false ∨ d.hasRight 6 = false))
    ∧ (let i : JtagIns := .vendorTest; let v : Bool := true; let s : State := Z [] (lc 3); let d : Dev := s.dev.begin; d.sec.extest = false
      ∧ (i = JtagIns.idcode ∨ i = JtagIns.bypass ∨ i = JtagIns.sample ∧ d.lcState ≠ 4 ∨ i = JtagIns.vendorTest ∧ v = true
      ∧ (d.lcState = 0 ∨ d.lcState = 3)) ∧ (d.lcState = 0 ∨ d.lcState = 3))
    ∧ (let i : JtagIns := .vendorTest; let v : Bool := true; let s : State := Z [] (lc 1); let d : Dev := s.dev.begin; d.sec.extest = false
      ∧ (i = JtagIns.sample ∧ d.lcState = 4 ∨ i = JtagIns.vendorTest ∧ (v = false ∨ d.lcState = 1 ∨ d.lcState = 2 ∨ d.lcState = 4)))
    ∧ (let i : JtagIns := .sample; let v : Bool := true; let s : State := Z [] (lc 4); let d : Dev := s.dev.begin; d.sec.extest = false
      ∧ (i = JtagIns.sample ∧ d.lcState = 4 ∨ i = JtagIns.vendorTest ∧ (v = false ∨ d.lcState = 1 ∨ d.lcState = 2 ∨ d.lcState = 4)))
    ∧ (let s : State := Z [] (fun x => { x with extest := true }); s.dev.begin.sec.extest = true)
    ∧ (let s : State := Z [(Reg.CVN_CFG, 1)] (fun x => { x with extest := true, needReset := true }); s.dev.begin.sec.extest = true) := by
  repeat refine ⟨by decide +kernel, ?_⟩
  decide +kernel

theorem witness_HostFrames :
    (let t : Nat := 7; let a : Nat := 0x8000; let len : Nat := 4; let bad : List (Nat × Ecc) := []; let data : List Byte := by4;
      let ctr : BitVec 32 := 5; let mac : List Byte := [1,2]; let op : BitVec 8 := 4; let hcrc : Word := 9;
      let x : Instr × Word := (.readFrame 7 9 0x8000 4 [], crc32c (hostPhase 1 0x8000 4 [] [])); let s : State := HP;
      x ∈ [(Instr.readFrame t hcrc a len bad, crc32c (hostPhase 1 a len [] [])), (Instr.writeFrame t hcrc a data, crc32c (hostPhase 2 a data.length data [])), (Instr.writeGated t hcrc a data ctr mac, crc32c (hostPhase 3 a data.length data (leBytes 4 ctr.toNat ++ mac))), (Instr.statusFrame t hcrc op a len, crc32c (hostPhase op.toNat a len [] []))]
      ∧ hcrc ≠ x.2 ∧ (a + data.length ≤ Reg.HST_CFG ∨ Reg.HST_CFG < a) ∧ s.dev.begin.takesFrames = true ∧ a % 4 = 0 ∧ data.length % 4 = 0
      ∧ 4 ≤ data.length ∧ data.length ≤ 4096 ∧ inOneRow a data.length = true ∧ s.host.taken < 256 ∧ s.host.ret < 256
      ∧ (s.host.taken + 256 - s.host.ret) % 256 + (data.length + 255) / 256 ≤ 32)
    ∧ (let t : Nat := 7; let a : Nat := 0x8000; let len : Nat := 4; let bad : List (Nat × Ecc) := []; let data : List Byte := by4;
      let ctr : BitVec 32 := 5; let mac : List Byte := [1,2]; let op : BitVec 8 := 4; let hcrc : Word := 9;
      let x : Instr × Word := (.statusFrame 7 9 4 0x8000 4, crc32c (hostPhase 4 0x8000 4 [] [])); let s : State := HP;
      x ∈ [(Instr.readFrame t hcrc a len bad, crc32c (hostPhase 1 a len [] [])), (Instr.writeFrame t hcrc a data, crc32c (hostPhase 2 a data.length data [])), (Instr.writeGated t hcrc a data ctr mac, crc32c (hostPhase 3 a data.length data (leBytes 4 ctr.toNat ++ mac))), (Instr.statusFrame t hcrc op a len, crc32c (hostPhase op.toNat a len [] []))]
      ∧ hcrc ≠ x.2 ∧ (a + data.length ≤ Reg.HST_CFG ∨ Reg.HST_CFG < a) ∧ s.dev.begin.takesFrames = true)
    ∧ (let t : Nat := 7; let a : Nat := 0x8000; let len : Nat := 4; let bad : List (Nat × Ecc) := []; let data : List Byte := by4;
      let ctr : BitVec 32 := 5; let mac : List Byte := [1,2]; let op : BitVec 8 := 4; let hcrc : Word := 9;
      let i : Instr := .readFrame 7 9 0x8000 4 []; let s : State := HP [] id wip; let d : Dev := s.dev.begin;
      i ∈ [Instr.readFrame t hcrc a len bad, Instr.writeFrame t hcrc a data, Instr.writeGated t hcrc a data ctr mac, Instr.statusFrame t hcrc op a len, Instr.resync t, Instr.frameCut t]
      ∧ d.takesFrames = false ∧ d.boot.st ≠ BootSt.reset)
    ∧ (let t : Nat := 7; let a : Nat := 0x8000; let len : Nat := 4; let bad : List (Nat × Ecc) := []; let data : List Byte := by4;
      let ctr : BitVec 32 := 5; let mac : List Byte := [1,2]; let op : BitVec 8 := 4; let hcrc : Word := 9; let i : Instr := .frameCut 7;
      let s : State := HP [] id wip; let d : Dev := s.dev.begin;
      i ∈ [Instr.readFrame t hcrc a len bad, Instr.writeFrame t hcrc a data, Instr.writeGated t hcrc a data ctr mac, Instr.statusFrame t hcrc op a len, Instr.resync t, Instr.frameCut t]
      ∧ d.takesFrames = false ∧ d.boot.st ≠ BootSt.reset)
    ∧ (let a : Nat := 2; let len : Nat := 4; let s : State := HP; (a % 4 ≠ 0 ∨ len % 4 ≠ 0 ∨ len < 4 ∨ 4096 < len)
      ∧ s.dev.begin.takesFrames = true)
    ∧ (let a : Nat := 0x8000; let len : Nat := 4100; let data : List Byte := []; let s : State := HP;
      (a % 4 ≠ 0 ∨ len % 4 ≠ 0 ∨ len < 4 ∨ 4096 < len) ∧ s.dev.begin.takesFrames = true
      ∧ (a % 4 ≠ 0 ∨ data.length % 4 ≠ 0 ∨ data.length < 4 ∨ 4096 < data.length))
    ∧ (let a : Nat := 0xFFFFFFFC; let len : Nat := 4; let s : State := HP; a % 4 = 0 ∧ len % 4 = 0 ∧ 4 ≤ len ∧ len ≤ 4096
      ∧ inOneRow a len = false ∧ s.dev.begin.takesFrames = true)
    ∧ (let a : Nat := 0x80FC; let len : Nat := 4096; let s : State := HP; a % 4 = 0 ∧ len % 4 = 0 ∧ 4 ≤ len ∧ len ≤ 4096
      ∧ inOneRow a len = false ∧ s.dev.begin.takesFrames = true)
    ∧ (let a : Nat := 0x200000; let data : List Byte := List.replicate 4096 3;
      let s : State := HP [] (fun h => { h with taken := 5, ret := 245, tag := 255, gone := true }); a % 4 = 0 ∧ data.length % 4 = 0
      ∧ 4 ≤ data.length ∧ data.length ≤ 4096 ∧ inOneRow a data.length = true ∧ (a + data.length ≤ Reg.HST_CFG ∨ Reg.HST_CFG < a)
      ∧ s.dev.begin.takesFrames = true ∧ s.host.taken < 256 ∧ s.host.ret < 256
      ∧ (s.host.taken + 256 - s.host.ret) % 256 + (data.length + 255) / 256 ≤ 32)
    ∧ (let a : Nat := 0x200000; let data : List Byte := List.replicate 4096 3;
      let s : State := HP [] (fun h => { h with taken := 5, ret := 244, tag := 255, gone := true }); a % 4 = 0 ∧ data.length % 4 = 0
      ∧ 4 ≤ data.length ∧ data.length ≤ 4096 ∧ inOneRow a data.length = true ∧ (a + data.length ≤ Reg.HST_CFG ∨ Reg.HST_CFG < a)
      ∧ s.dev.begin.takesFrames = true ∧ s.host.taken < 256 ∧ s.host.ret < 256 ∧ (s.host.taken + 256 - s.host.ret) % 256 ≤ 32
      ∧ 32 < (s.host.taken + 256 - s.host.ret) % 256 + (data.length + 255) / 256)
    ∧ (let a : Nat := 0x8000; let data : List Byte := by4; let s : State := HP [] (fun h => { h with taken := 32, ret := 0 }); a % 4 = 0
      ∧ data.length % 4 = 0 ∧ 4 ≤ data.length ∧ data.length ≤ 4096 ∧ inOneRow a data.length = true
      ∧ (a + data.length ≤ Reg.HST_CFG ∨ Reg.HST_CFG < a) ∧ s.dev.begin.takesFrames = true ∧ s.host.taken < 256 ∧ s.host.ret < 256
      ∧ (s.host.taken + 256 - s.host.ret) % 256 ≤ 32 ∧ 32 < (s.host.taken + 256 - s.host.ret) % 256 + (data.length + 255) / 256)
    ∧ (let a : Nat := 0x8001; let data : List Byte := by4; let s : State := HP;
      (a % 4 ≠ 0 ∨ data.length % 4 ≠ 0 ∨ data.length < 4 ∨ 4096 < data.length) ∧ s.dev.begin.takesFrames = true)
    ∧ (let s : State := HP [(Reg.HST_CFG, 0xFFFF)] (fun h => { h with width := 2 }); s.dev.begin.takesFrames = true)
    ∧ (let s : State := HP [(Reg.HST_CUT_CNT, 0xFFFFFFFF)] (fun h => { h with width := 2 }); s.dev.begin.takesFrames = true)
    ∧ (let s : State := HP [(Reg.HST_CFG, 0xFFFF)] (fun h => { h with lastGood := 9 }); let d : Dev := s.dev.begin; d.takesFrames = true
      ∧ s.host.gone = false ∧ d.rdF Reg.HST_CFG 15 8 ≠ 0)
    ∧ (let s : State := HP [(Reg.HST_CFG, 0x100)] (fun h => { h with lastGood := 900000000000 }); let d : Dev := s.dev.begin;
      d.takesFrames = true ∧ s.host.gone = false ∧ d.rdF Reg.HST_CFG 15 8 ≠ 0)
    ∧ (let s : State := HP [(Reg.HST_CFG, 0xFF)]; let d : Dev := s.dev.begin; d.boot.st ≠ BootSt.reset
      ∧ (s.host.gone = true ∨ d.rdF Reg.HST_CFG 15 8 = 0))
    ∧ (let s : State := HP [(Reg.HST_CFG, 0x100)] (fun h => { h with gone := true }); let d : Dev := s.dev.begin; d.boot.st ≠ BootSt.reset
      ∧ (s.host.gone = true ∨ d.rdF Reg.HST_CFG 15 8 = 0)) := by
  repeat refine ⟨by decide +kernel, ?_⟩
  decide +kernel

theorem witness_RegisterAccess :
    (let t : Nat := 5; let a : Nat := Reg.TBS_FLAGS; let r : RegAt := (regAt Reg.TBS_FLAGS).elim z id;
      let s : State := HP [(Reg.TBS_FLAGS, 0xFF)]; let d : Dev := s.dev.begin; (d.upTo t).sequenceNow.takesFrames = true
      ∧ (d.upTo t).sequenceNow.up = true ∧ (isField a = false ∨ (d.upTo t).sequenceNow.fio.image = none) ∧ regAt a = some r ∧ a % 4 = 0
      ∧ inOneRow a 4 = true ∧ a ∉ Reg.HST_FRAMES :: Reg.HST_FLAGS :: noticeRegs ∧ (d.upTo t).sequenceNow.view s.host a = none
      ∧ (d.upTo t).sequenceNow.window? a = none)
    ∧ (let t : Nat := 5; let a : Nat := Reg.SEC_LOAD_LEN; let r : RegAt := (regAt (Reg.SEC_LOAD_LEN)).elim z id;
      let s : State := HP [(Reg.SEC_LOAD_LEN, 0xFF)]; let d : Dev := s.dev.begin; (d.upTo t).sequenceNow.takesFrames = true
      ∧ (d.upTo t).sequenceNow.up = true ∧ (isField a = false ∨ (d.upTo t).sequenceNow.fio.image = none) ∧ regAt a = some r ∧ a % 4 = 0
      ∧ inOneRow a 4 = true ∧ a ∉ Reg.HST_FRAMES :: Reg.HST_FLAGS :: noticeRegs ∧ (d.upTo t).sequenceNow.view s.host a = none
      ∧ (d.upTo t).sequenceNow.window? a = none)
    ∧ (let t : Nat := 7; let a : Nat := Reg.MOT_MSTAT 3; let tag : Nat := 9; let v : Word := 0xFFFFFFFF;
      let r : RegAt := (regAt (Reg.MOT_MSTAT 3)).elim z id; let rest : List HostWrite := [];
      let s : State := HP [] (Wq (Reg.MOT_MSTAT 3) 0xFFFFFFFF 9); regAt a = some r ∧ a % 4 = 0 ∧ (a < 28672 ∨ 32768 ≤ a ∧ a < 2097152)
      ∧ s.host.queue = { addr := a, data := [v], cost := 1, tag := tag, gated := none } :: rest ∧ s.dev.up = true
      ∧ s.dev.writeBusy a 4 = false ∧ s.dev.jnl.pendingBytes ≤ 12 * 1024 ∧ (s.dev.begin.upTo t).special r a v false = none ∧ r.stMask = 0
      ∧ r.w1cMask = 0)
    ∧ (let t : Nat := 7; let a : Nat := Reg.MOT_CMP_POS 3 1; let tag : Nat := 9; let v : Word := 0x12345678;
      let r : RegAt := (regAt (Reg.MOT_CMP_POS 3 1)).elim z id; let rest : List HostWrite := [];
      let s : State := HP [] (Wq (Reg.MOT_CMP_POS 3 1) 0x12345678 9); regAt a = some r ∧ a % 4 = 0 ∧ (a < 28672 ∨ 32768 ≤ a ∧ a < 2097152)
      ∧ s.host.queue = { addr := a, data := [v], cost := 1, tag := tag, gated := none } :: rest ∧ s.dev.up = true
      ∧ s.dev.writeBusy a 4 = false ∧ s.dev.jnl.pendingBytes ≤ 12 * 1024 ∧ (s.dev.begin.upTo t).special r a v false = none ∧ r.stMask = 0
      ∧ r.w1cMask = 0)
    ∧ (let t : Nat := 7; let a : Nat := Reg.PRT_CFG 0; let tag : Nat := 9; let v : Word := 0x21;
      let r : RegAt := (regAt (Reg.PRT_CFG 0)).elim z id; let rest : List HostWrite := [];
      let s : State := HP [] (Wq (Reg.PRT_CFG 0) 0x21 9); regAt a = some r ∧ a % 4 = 0 ∧ (a < 28672 ∨ 32768 ≤ a ∧ a < 2097152)
      ∧ s.host.queue = { addr := a, data := [v], cost := 1, tag := tag, gated := none } :: rest ∧ s.dev.up = true
      ∧ s.dev.writeBusy a 4 = false ∧ s.dev.jnl.pendingBytes ≤ 12 * 1024 ∧ (s.dev.begin.upTo t).special r a v false = none
      ∧ s.dev.lkLocked = false ∧ s.dev.rdB Reg.SYS_COMMIT_STATUS 31 = false ∧ s.dev.ilkOwned a = false ∧ r.rwMask = 0 ∧ r.w1cMask = 0)
    ∧ (let t : Nat := 7; let a : Nat := Reg.MOT_SCALE 3; let tag : Nat := 9; let v : Word := 5;
      let r : RegAt := (regAt (Reg.MOT_SCALE 3)).elim z id; let rest : List HostWrite := [];
      let s : State := HP [] (Wq (Reg.MOT_SCALE 3) 5 9); regAt a = some r ∧ a % 4 = 0 ∧ (a < 28672 ∨ 32768 ≤ a ∧ a < 2097152)
      ∧ s.host.queue = { addr := a, data := [v], cost := 1, tag := tag, gated := none } :: rest ∧ s.dev.up = true
      ∧ s.dev.writeBusy a 4 = false ∧ s.dev.jnl.pendingBytes ≤ 12 * 1024 ∧ (s.dev.begin.upTo t).special r a v false = none
      ∧ s.dev.lkLocked = false ∧ s.dev.rdB Reg.SYS_COMMIT_STATUS 31 = false ∧ s.dev.ilkOwned a = false ∧ r.rwMask = 0 ∧ r.w1cMask = 0)
    ∧ (let t : Nat := 7; let a : Nat := Reg.PRT_CFG 0; let tag : Nat := 9; let v : Word := 0x21;
      let r : RegAt := (regAt (Reg.PRT_CFG 0)).elim z id; let rest : List HostWrite := [];
      let s : State := HP [(Reg.SYS_COMMIT_STATUS, 0x80000000)] (Wq (Reg.PRT_CFG 0) 0x21 9); regAt a = some r ∧ a % 4 = 0
      ∧ (a < 28672 ∨ 32768 ≤ a ∧ a < 2097152) ∧ s.host.queue = { addr := a, data := [v], cost := 1, tag := tag, gated := none } :: rest
      ∧ s.dev.up = true ∧ s.dev.writeBusy a 4 = false ∧ s.dev.jnl.pendingBytes ≤ 12 * 1024
      ∧ (s.dev.begin.upTo t).special r a v false = none ∧ s.dev.lkLocked = false ∧ s.dev.rdB Reg.SYS_COMMIT_STATUS 31 = true
      ∧ r.stMask ≠ 0 ∧ r.rwMask = 0 ∧ r.w1cMask = 0)
    ∧ (let t : Nat := 7; let a : Nat := Reg.MOT_SCALE 3; let tag : Nat := 9; let v : Word := 5;
      let r : RegAt := (regAt (Reg.MOT_SCALE 3)).elim z id; let rest : List HostWrite := [];
      let s : State := HP [(Reg.SYS_COMMIT_STATUS, 0xFFFFFFFF)] (Wq (Reg.MOT_SCALE 3) 5 9); regAt a = some r ∧ a % 4 = 0
      ∧ (a < 28672 ∨ 32768 ≤ a ∧ a < 2097152) ∧ s.host.queue = { addr := a, data := [v], cost := 1, tag := tag, gated := none } :: rest
      ∧ s.dev.up = true ∧ s.dev.writeBusy a 4 = false ∧ s.dev.jnl.pendingBytes ≤ 12 * 1024
      ∧ (s.dev.begin.upTo t).special r a v false = none ∧ s.dev.lkLocked = false ∧ s.dev.rdB Reg.SYS_COMMIT_STATUS 31 = true
      ∧ r.stMask ≠ 0 ∧ r.rwMask = 0 ∧ r.w1cMask = 0)
    ∧ (let t : Nat := 7; let a : Nat := Reg.MOT_SCALE 3; let tag : Nat := 9; let v : Word := 5;
      let r : RegAt := (regAt (Reg.MOT_SCALE 3)).elim z id; let rest : List HostWrite := [];
      let s : State := HP [] (Wq (Reg.MOT_SCALE 3) 5 9) (fun d => d.modSec (fun x => { x with otp := { x.otp with log := [2] } }));
      regAt a = some r ∧ a % 4 = 0 ∧ (a < 28672 ∨ 32768 ≤ a ∧ a < 2097152)
      ∧ s.host.queue = { addr := a, data := [v], cost := 1, tag := tag, gated := none } :: rest ∧ s.dev.up = true
      ∧ s.dev.writeBusy a 4 = false ∧ s.dev.jnl.pendingBytes ≤ 12 * 1024 ∧ (s.dev.begin.upTo t).special r a v false = none
      ∧ s.dev.lkLocked = true ∧ (v ^^^ s.dev.rd a) &&& r.lkMask ≠ 0 ∧ r.lkMask = r.stMask ∧ r.rwMask = 0 ∧ r.w1cMask = 0)
    ∧ (let t : Nat := 7; let a : Nat := Reg.MOT_SCALE 3; let tag : Nat := 9; let v : Word := 0xFFFFFFFF;
      let r : RegAt := (regAt (Reg.MOT_SCALE 3)).elim z id; let rest : List HostWrite := [];
      let s : State := HP [] (Wq (Reg.MOT_SCALE 3) 0xFFFFFFFF 9) (fun d => d.modSec (fun x => { x with otp := { x.otp with log := [2] } }));
      regAt a = some r ∧ a % 4 = 0 ∧ (a < 28672 ∨ 32768 ≤ a ∧ a < 2097152)
      ∧ s.host.queue = { addr := a, data := [v], cost := 1, tag := tag, gated := none } :: rest ∧ s.dev.up = true
      ∧ s.dev.writeBusy a 4 = false ∧ s.dev.jnl.pendingBytes ≤ 12 * 1024 ∧ (s.dev.begin.upTo t).special r a v false = none
      ∧ s.dev.lkLocked = true ∧ (v ^^^ s.dev.rd a) &&& r.lkMask ≠ 0 ∧ r.lkMask = r.stMask ∧ r.rwMask = 0 ∧ r.w1cMask = 0)
    ∧ (let t : Nat := 7; let a : Nat := Reg.TBS_FLAGS; let tag : Nat := 9; let v : Word := 0x21;
      let r : RegAt := (regAt Reg.TBS_FLAGS).elim z id; let rest : List HostWrite := [];
      let s : State := HP [(Reg.TBS_FLAGS, 0x33)] (Wq (Reg.TBS_FLAGS) 0x21 9); regAt a = some r ∧ a % 4 = 0 ∧ (a < 28672 ∨ 32768 ≤ a
      ∧ a < 2097152) ∧ s.host.queue = { addr := a, data := [v], cost := 1, tag := tag, gated := none } :: rest ∧ s.dev.up = true
      ∧ s.dev.writeBusy a 4 = false ∧ s.dev.jnl.pendingBytes ≤ 12 * 1024 ∧ (s.dev.begin.upTo t).special r a v false = none ∧ r.stMask = 0
      ∧ r.rwMask = 0)
    ∧ (let t : Nat := 7; let a : Nat := Reg.TBS_FLAGS; let tag : Nat := 9; let v : Word := 0x21;
      let r : RegAt := (regAt Reg.TBS_FLAGS).elim z id; let rest : List HostWrite := [];
      let s : State := HP [(Reg.TBS_FLAGS, 0x33)] (Wq (Reg.TBS_FLAGS) 0x21 9) (·.setFlag Reg.TBS_FLAGS 0); regAt a = some r ∧ a % 4 = 0
      ∧ (a < 28672 ∨ 32768 ≤ a ∧ a < 2097152) ∧ s.host.queue = { addr := a, data := [v], cost := 1, tag := tag, gated := none } :: rest
      ∧ s.dev.up = true ∧ s.dev.writeBusy a 4 = false ∧ s.dev.jnl.pendingBytes ≤ 12 * 1024
      ∧ (s.dev.begin.upTo t).special r a v false = none ∧ r.stMask = 0 ∧ r.rwMask = 0) := by
  repeat refine ⟨by decide +kernel, ?_⟩
  decide +kernel

theorem witness_PowerStates :
    (let code : BitVec 8 := 1; let s : State := W .stable; let d : Dev := s.dev.begin;
      (if code.toNat = 1 ∨ code.toNat = 8 ∨ code.toNat = 9 then d.pwr.st = PwrSt.stable ∨ d.pwr.st = PwrSt.dormant else if code.toNat = 2 ∨ code.toNat = 11 then d.pwr.st = PwrSt.hold else if code.toNat = 4 then d.pwr.st ≠ PwrSt.run
      ∧ d.duo = true else d.pwr.st ≠ PwrSt.run) ∧ d.pwr.exiting = false ∧ d.pwr.wakeLow = false
      ∧ (if 1 = 1 ∨ 1 = 8 ∨ 1 = 9 then d.pwr.st = PwrSt.stable ∨ d.pwr.st = PwrSt.dormant else if 1 = 2 ∨ 1 = 11 then d.pwr.st = PwrSt.hold else if 1 = 4 then d.pwr.st ≠ PwrSt.run
      ∧ d.duo = true else d.pwr.st ≠ PwrSt.run))
    ∧ (let code : BitVec 8 := 4; let s : State := W .hold [(Reg.CVN_CFG, 1)]; let d : Dev := s.dev.begin;
      (if code.toNat = 1 ∨ code.toNat = 8 ∨ code.toNat = 9 then d.pwr.st = PwrSt.stable ∨ d.pwr.st = PwrSt.dormant else if code.toNat = 2 ∨ code.toNat = 11 then d.pwr.st = PwrSt.hold else if code.toNat = 4 then d.pwr.st ≠ PwrSt.run
      ∧ d.duo = true else d.pwr.st ≠ PwrSt.run) ∧ d.pwr.exiting = false)
    ∧ (let code : BitVec 8 := 1; let s : State := W .hold; let d : Dev := s.dev.begin;
      ((¬if code.toNat = 1 ∨ code.toNat = 8 ∨ code.toNat = 9 then d.pwr.st = PwrSt.stable ∨ d.pwr.st = PwrSt.dormant else if code.toNat = 2 ∨ code.toNat = 11 then d.pwr.st = PwrSt.hold else if code.toNat = 4 then d.pwr.st ≠ PwrSt.run
      ∧ d.duo = true else d.pwr.st ≠ PwrSt.run) ∨ d.pwr.exiting = true) ∧ d.pwr.wakeLow = false
      ∧ ((¬if 1 = 1 ∨ 1 = 8 ∨ 1 = 9 then d.pwr.st = PwrSt.stable ∨ d.pwr.st = PwrSt.dormant else if 1 = 2 ∨ 1 = 11 then d.pwr.st = PwrSt.hold else if 1 = 4 then d.pwr.st ≠ PwrSt.run
      ∧ d.duo = true else d.pwr.st ≠ PwrSt.run) ∨ d.pwr.exiting = true) ∧ d.pwr.exiting = false)
    ∧ (let code : BitVec 8 := 1; let s : State := W .stable [] (fun x => { x with exiting := true }); let d : Dev := s.dev.begin;
      ((¬if code.toNat = 1 ∨ code.toNat = 8 ∨ code.toNat = 9 then d.pwr.st = PwrSt.stable ∨ d.pwr.st = PwrSt.dormant else if code.toNat = 2 ∨ code.toNat = 11 then d.pwr.st = PwrSt.hold else if code.toNat = 4 then d.pwr.st ≠ PwrSt.run
      ∧ d.duo = true else d.pwr.st ≠ PwrSt.run) ∨ d.pwr.exiting = true) ∧ d.pwr.wakeLow = false
      ∧ ((¬if 1 = 1 ∨ 1 = 8 ∨ 1 = 9 then d.pwr.st = PwrSt.stable ∨ d.pwr.st = PwrSt.dormant else if 1 = 2 ∨ 1 = 11 then d.pwr.st = PwrSt.hold else if 1 = 4 then d.pwr.st ≠ PwrSt.run
      ∧ d.duo = true else d.pwr.st ≠ PwrSt.run) ∨ d.pwr.exiting = true))
    ∧ (let low : Bool := false; let s : State := W .stable [] (fun x => { x with wakeLow := true });
      (low = false ∨ s.dev.begin.pwr.wakeLow = true))
    ∧ (let low : Bool := true; let s : State := W .stable [] (fun x => { x with wakeLow := true });
      (low = false ∨ s.dev.begin.pwr.wakeLow = true))
    ∧ (let s : State := W .run; let d : Dev := s.dev.begin; d.pwr.joint = none ∧ d.hostUp = true)
    ∧ (let j : PwrSt := .hold; let s : State := W .hold [] (fun x => { x with joint := some .hold }); let d : Dev := s.dev.begin;
      d.pwr.joint = some j ∧ (d.pwr.exiting = true ∨ j.code ≤ d.pwr.st.code))
    ∧ (let j : PwrSt := .dormant; let s : State := W .hold [] (fun x => { x with joint := some .dormant, exiting := true });
      let d : Dev := s.dev.begin; d.pwr.joint = some j ∧ (d.pwr.exiting = true ∨ j.code ≤ d.pwr.st.code))
    ∧ (let j : PwrSt := .hold; let s : State := W .run [(Reg.PRT_STATE 0, 1)] (fun x => { x with joint := some .hold, own := .dormant });
      let d : Dev := s.dev.begin; d.pwr.joint = some j ∧ d.pwr.exiting = false ∧ d.pwr.st.code < j.code ∧ d.causeNow j = none
      ∧ j.code ≤ d.pwr.own.code)
    ∧ (let j : PwrSt := .dormant;
      let s : State := W .stable [(Reg.CVN_CFG, 1)] (fun x => { x with joint := some .dormant, own := .dormant });
      let d : Dev := s.dev.begin; d.pwr.joint = some j ∧ d.pwr.exiting = false ∧ d.pwr.st.code < j.code ∧ d.causeNow j = none
      ∧ j.code ≤ d.pwr.own.code)
    ∧ (let j : PwrSt := .dormant; let s : State := W .run [] (fun x => { x with joint := some .dormant, own := .stable });
      let d : Dev := s.dev.begin; d.pwr.joint = some j ∧ d.pwr.exiting = false ∧ d.pwr.st.code < j.code ∧ d.causeNow j = none
      ∧ d.pwr.own.code < j.code)
    ∧ (let j : PwrSt := .hold; let s : State := W .run [] (fun x => { x with joint := some .hold, own := .run });
      let d : Dev := s.dev.begin; d.pwr.joint = some j ∧ d.pwr.exiting = false ∧ d.pwr.st.code < j.code ∧ d.causeNow j = none
      ∧ d.pwr.own.code < j.code)
    ∧ (let j : PwrSt := .dormant; let code : Nat := 1;
      let s : State := W .run [] (fun x => { x with joint := some .dormant, own := .dormant, causeAt := some (0, 1) });
      let d : Dev := s.dev.begin; d.pwr.joint = some j ∧ d.pwr.exiting = false ∧ d.pwr.st.code < j.code ∧ d.causeNow j = some code)
    ∧ (let s : State := W .hold [] (fun x => { x with exiting := true, joint := some .hold }); s.dev.pwr.exiting = true)
    ∧ (let s : State := W .hold [] (fun x => { x with exiting := true }) rst; s.dev.pwr.exiting = true)
    ∧ (let s : State := W .hold [(Reg.PWR_EXIT_HOLD, 5)]; s.dev.begin.hostUp = true) := by
  repeat refine ⟨by decide +kernel, ?_⟩
  decide +kernel

theorem witness_Supplies :
    (let i : Fin 3 := 0; let s : State := W .run; let d : Dev := s.dev.begin; d.solo = true ∧ d.pwr.oor.length = 4
      ∧ d.pwr.oor.getD (↑i) false = false ∧ d.boot.st ≠ BootSt.reset ∧ d.pwr.oor.getD 3 false = false)
    ∧ (let i : Fin 3 := 1; let s : State := W .run [] id (fun d => d.modBoot (fun b => { b with resetDue := some (5, 7) }));
      let d : Dev := s.dev.begin; d.solo = true ∧ d.pwr.oor.length = 4 ∧ d.pwr.oor.getD (↑i) false = false ∧ d.boot.st ≠ BootSt.reset)
    ∧ (let s : State := W .run [(Reg.CVN_CFG, 1)]; let d : Dev := s.dev.begin; d.solo = false ∧ d.cvn.surrendered = false
      ∧ d.boot.st ≠ BootSt.reset)
    ∧ (let s : State := W .run [(Reg.CVN_CFG, 1)] id (fun d => d.modBoot (fun b => { b with resetDue := some (5, 7) }));
      let d : Dev := s.dev.begin; d.solo = false ∧ d.cvn.surrendered = false ∧ d.boot.st ≠ BootSt.reset)
    ∧ (let s : State := W .run [] id rst; let d : Dev := s.dev.begin; d.pwr.oor.length = 4 ∧ d.pwr.oor.getD 3 false = false)
    ∧ (let s : State := W .run [(Reg.CVN_CFG, 1)] id (fun d => d.modBoot (fun b => { b with st := .load })); let d : Dev := s.dev.begin;
      d.solo = false ∧ d.cvn.surrendered = false ∧ d.boot.st ≠ BootSt.reset)
    ∧ (let s : State := W .run [(Reg.CVN_CFG, 1)] id rst; let d : Dev := s.dev.begin; d.solo = false ∧ d.cvn.surrendered = false) := by
  repeat refine ⟨by decide +kernel, ?_⟩
  decide +kernel

theorem witness_Events :
    (let s : State := W .run [(Reg.EVC_PEND 0, 0xFFFFFFFF)]; s.dev.begin.takesFrames = true)
    ∧ (let s : State := W .run [(Reg.EVC_PEND 1, 1)] id (fun d => { d with setNow := Cells.write (fun _ => 0) d.setNow (Reg.EVC_PEND 1) 0x00F0FFFF });
      s.dev.begin.takesFrames = true)
    ∧ (let s : State := W .run [(Reg.EVC_PEND 0, 0x0FFFFFFF), (Reg.PWR_FLAGS, 0xFFFF), (Reg.REC_FLAGS, 0xFFFF)];
      s.dev.begin.takesFrames = true)
    ∧ (let s : State := W .run [(Reg.EVC_PEND 1, 0x0FFFFFFF), (Reg.PWR_FLAGS, 0xFFFF), (Reg.REC_FLAGS, 0xFFFF)];
      s.dev.begin.takesFrames = true)
    ∧ (let s : State := W .run [(Reg.EVC_EN 1, 0x80000000)]; let d : Dev := s.dev.begin; d.takesFrames = true
      ∧ d.rdB (Reg.EVC_EN 1) 31 = true)
    ∧ (let s : State := W .run; let d : Dev := s.dev.begin; d.takesFrames = true ∧ d.rdB (Reg.EVC_EN 1) 31 = false)
    ∧ (let d : Dev := (W .run [(Reg.EVC_PEND 0, 6),(Reg.EVC_EN 0, 12)]).dev; let s : Nat := 2; d.topSrc = some s)
    ∧ (let d : Dev := (W .run [(Reg.EVC_PEND 0, 14),(Reg.EVC_EN 0, 12)]).dev; let u : Nat := 3; let s : Nat := 2; d.topSrc = some s ∧ u < 64
      ∧ d.srcPend u = true ∧ d.srcEn u = true ∧ d.srcPrio u = d.srcPrio s) := by
  repeat refine ⟨by decide +kernel, ?_⟩
  decide +kernel

/-! ### Words and addresses written out from the spec -/

/-- The encodings of spec/10's worked program: W2, W11 and W13; and the MOVI word named beside them. -/
theorem test_worked_words :
    basicWord (BitVec.ofNat 21 (0x2A * 2 ^ 15 + 8 * 2 ^ 10 + 1 * 2 ^ 5 + 7)) 0 (BitVec.ofNat 20 (0x1 * 2 ^ 16 + 5 * 2 ^ 11 + 0x68))
        = 0x2A404E0000012868#64
    ∧ basicWord (BitVec.ofNat 21 (0x3B * 2 ^ 15 + 12 * 2 ^ 10 + 5 * 2 ^ 5 + 11)) 0 0 = 0x3B61560000000000#64
    ∧ basicWord 0 0 (BitVec.ofNat 20 0xF0000) = 0x00000000000F0000#64
    ∧ limmWord 0 0x3F800000 13 0 = 0x4000007F000000D0#64 := by decide +kernel

/-- W2 on the engine: v8 takes v1 × v7, v5 takes data word 104, and three words later nothing else has changed. -/
theorem test_W2 : let d := (E (fun e => { e with v := (e.v.set 1 0x40000000).set 7 0x3FC00000, data := [(104, 99)] })).dev
    let d' := d.runWord ev 0x2A404E0000012868#64
    d'.eng[(0 : Slot)].rv 8 = 0x40400000 ∧ d'.eng[(0 : Slot)].rv 5 = 99 ∧ d'.eng[(0 : Slot)].rv 9 = d.eng[(0 : Slot)].rv 9
      ∧ d'.eng[(0 : Slot)].pc = 1 := by decide +kernel

/-- The row FMUL with that companion is that word; and an uncorrectable data word writes neither v8 nor v5 (SUB 2h). -/
theorem test_W2_row : let d := (E (fun e => { e with v := (e.v.set 1 0x40000000).set 7 0x3FC00000, data := [(104, 99)] }))
    nextDev (exec (.fmul ev 8 1 7 ⟨0, 0x12868⟩) d) = some (d.dev.begin.runWord ev 0x2A404E0000012868#64) := by decide +kernel

theorem test_W2_ecc : let d := (E (fun e => { e with v := (e.v.set 1 0x40000000).set 7 0x3FC00000, data := [(104, 99)] })).dev
    let d' := d.runWord { ev with read := .bad } 0x2A404E0000012868#64
    d'.eng[(0 : Slot)].rv 8 = d.eng[(0 : Slot)].rv 8 ∧ d'.eng[(0 : Slot)].rv 5 = d.eng[(0 : Slot)].rv 5
      ∧ fld (d'.rd (Reg.ENG_EXC 0)) 3 0 = 4 ∧ fld (d'.rd (Reg.ENG_EXC 0)) 7 4 = 2 := by decide +kernel

/-- The example addresses of spec/19. -/
theorem test_addresses : Reg.PRT_OBS_STATUS 7 = 0x017120 ∧ Reg.MOT_MSTAT 5 = 0x022954 ∧ Reg.ENC_COUNT 18 = 0x041210
    ∧ Reg.FSW_HS_STATUS 41 = 0x051394 ∧ inOneRow 0x3000 8 = true ∧ inOneRow 0x17F00 4096 = false
    ∧ inOneRow 0x17F00 256 = true := by decide +kernel

/-- binary32: 1.5 + 2.25, 1/∞, −0 + 0, the largest number doubled, and a NaN compared (R240, R241). -/
theorem test_binary32 : fadd 0x3FC00000 0x40100000 = 0x40700000#32 ∧ frcp 0x7F800000 = 0#32
    ∧ fadd 0x80000000 0 = 0#32 ∧ fmul 0x7F7FFFFF 0x40000000 = 0x7F800000#32 ∧ fclt 0x7FC00000 0x3F800000 = false := by
  decide +kernel

/-- ADDS and MAC saturate, SHR takes its count modulo 32. -/
theorem test_integer : let e := (E).dev.eng[(0 : Slot)]
    (e.alu none false (0x04 * 2 ^ 15 + 6 * 2 ^ 10 + 4 * 2 ^ 5 + 4)).puts = [.v 6 0x7FFFFFFF]
    ∧ (e.alu none false (0x13 * 2 ^ 15 + 1 * 2 ^ 10 + 4 * 2 ^ 5 + 4)).puts = [.w 1 0x7FFFFFFFFFFFFFFF]
    ∧ (e.alu none false (0x0A * 2 ^ 15 + 6 * 2 ^ 10 + 5 * 2 ^ 5 + 12)).puts = [.v 6 0x40000000] := by decide +kernel

/-- A quadrature step from 00 to 10 and back leaves the count; four forward steps add four (R126); with FILT 3 a pulse of three
samples is not taken, one of four is (R124). -/
theorem test_quadrature :
    let w (b : Bool) : Wires := ⟨b, !b⟩
    let sm (a b : Bool) : EncSample := ⟨w a, w b, w false⟩
    let run (cfg t : Nat) (l : List EncSample) : Dev := (nextDev (exec (.encoderTransition 3 t l) (st (up [(Reg.ENC_CFG 3, cfg)])))).getD {}
    (run 1 0 [sm true false, sm false false]).rd (Reg.ENC_COUNT 3) = 0
    ∧ ((run 1 0 [sm true false, sm true true, sm false true, sm false false]).rd (Reg.ENC_COUNT 3)).toInt = 4
    ∧ (run (1 + 3 * 2 ^ 6) 0 [sm true false, sm true false, sm true false]).rd (Reg.ENC_COUNT 3) = 0
    ∧ (run (1 + 3 * 2 ^ 6) 0 [sm true false, sm true false, sm true false, sm true false]).rd (Reg.ENC_COUNT 3) = 1 := by
  decide +kernel

/-- The worked places of spec/20: SX5_EA_P, ST2_CA, DIN50, EDG17 and HS41. -/
theorem test_balls : [Signal.servo 5 8, .step 2 4, .din 50, .edg 17, .hs 41].map (fun s => ballName s.ball)
    = ["C27", "AT19", "AE3", "AK6", "AU7"] := by decide +kernel

/-- The totals of spec/20's ball assignment by class. -/
theorem test_ball_totals : ballCount (· == .vcore) = 167 ∧ ballCount (· == .vdda) = 24 := by decide +kernel

/-- The check value of R360; and a READ of SYS.ID answers 5Ah, its four bytes and the trailer. -/
theorem test_host_bytes : crc32c [0x31, 0x32, 0x33, 0x34, 0x35, 0x36, 0x37, 0x38, 0x39] = 0xE3069283#32
    ∧ (match exec (.readFrame 0 (crc32c (hostPhase 1 Reg.SYS_ID 4 [] [])) Reg.SYS_ID 4 []) (HP []) with
       | .next t => t.host.reply.map (fun r => r.bytes.take 5)
       | _ => none) = some [0x5A, 0x16, 0x12, 0x44, 0x4B] := by decide +kernel

/-- From reset, before any release of RST_N, a frame has no effect, and an empty queue leaves the block idle. -/
theorem test_reset : (State.reset.dev.takesFrames = false) ∧ State.reset.dev.rd Reg.SYS_ID = 0x4B441216#32
    ∧ step State.reset = .next State.reset := ⟨rfl, by decide +kernel, rfl⟩

/-- A decoder of the table's words finds none: its rows carry no bits. -/
theorem test_no_words : decodeTableWord 0 0 = none ∧ State.reset.withFetchWord 0 0 = State.reset := ⟨rfl, rfl⟩

/-! ### Well-formed commands: one ill-formed term for each check -/

theorem test_wf_refuses :
    (Instr.tickStrobe ⟨[], [], [], [], [], [], []⟩).wf = false ∧ (Instr.bankWrite 0x20202 0).wf = false ∧ (Instr.bankWrite 0x20100 0).wf = false
    ∧ (Instr.adcConversion 4096 0).wf = false ∧ (Instr.syncFrame 0 64 0 0).wf = false
    ∧ (Instr.flushMark 8 0).wf = false ∧ (Instr.returnEnd 0 8).wf = false ∧ (Instr.nandEraseComplete 2048).wf = false
    ∧ (Instr.returnRecord 0 ⟨1, q0⟩).wf = true ∧ (Instr.returnRecord 0 ⟨1, { q0 with body := [1] }⟩).wf = false
    ∧ (Instr.mirrorRecord 0 0 true 0x20000 ⟨1, q0⟩).wf = false
    ∧ (Instr.recordRequest 0 (.event 0 0 0 0 (List.replicate 9 0))).wf = false
    ∧ (Instr.recordRequest 0 (.cycle 0 0 [1])).wf = false
    ∧ (Instr.loadWinWrite 2 [1, 2, 3, 4] true).wf = false ∧ (Instr.loadWinWrite 4096 [1, 2, 3, 4] true).wf = false
    ∧ (Instr.readFrame 0 0 0x1000000 4 []).wf = false ∧ (Instr.readFrame 0 0 0x8000 4 [(0x8004, .bad)]).wf = false
    ∧ (Instr.writeFrame 0 0 0x1000000 []).wf = false ∧ (Instr.writeGated 0 0 0x8000 [1, 2, 3, 4] 0 [1]).wf = false
    ∧ (Instr.statusFrame 0 0 1 0 0).wf = false ∧ (Instr.statusFrame 0 0 4 0 0).wf = true
    ∧ (Instr.edgeMeasurement 0 0 5000001 0).wf = false ∧ (Instr.memberSurrender 0 0x17).wf = false
    ∧ (Instr.healthFrame 0 ⟨true, 0, 0, 0, 0, 0, [], 0, 0⟩).wf = false
    ∧ (Instr.xfer 0 0 0 0 [[0, 0, 65537]]).wf = false ∧ (Instr.xfer 0 0 0 0 [[0]]).wf = false ∧ (Instr.fwd 0 0 ⟨8, 0, 0, 0, false⟩ 0).wf = false
    ∧ (Instr.wake 0 0).wf = false ∧ (Instr.wake 0xC 0).wf = false ∧ Instr.flush.wf = true := by decide +kernel

end Sys2Proof.Tests
end

section
/-!
The event controller's TOP (R377): `Dev.topSrc` is a fold over the source numbers in rising order, and its invariant says
that after the numbers below `n` it holds the source that outranks every live one of them.
-/

namespace Sys2Proof.Machine

/-- Source `s` is pending and enabled. -/
def Dev.srcLive (d : Dev) (s : Nat) : Prop := d.srcPend s = true ∧ d.srcEn s = true

/-- EVC.TOP prefers source `s` to source `u`: a higher priority, or the same one and no higher a number (R377). -/
def Dev.outranks (d : Dev) (s u : Nat) : Prop :=
  d.srcPrio u < d.srcPrio s ∨ d.srcPrio u = d.srcPrio s ∧ s ≤ u

theorem Dev.outranks_refl (d : Dev) (s : Nat) : d.outranks s s := .inr ⟨rfl, le_rfl⟩

theorem Dev.outranks_antisymm {d : Dev} {s u : Nat} (hsu : d.outranks s u) (hus : d.outranks u s) : s = u := by
  unfold Dev.outranks at hsu hus
  omega

theorem Dev.outranks_trans {d : Dev} {s u v : Nat} (hsu : d.outranks s u) (huv : d.outranks u v) : d.outranks s v := by
  unfold Dev.outranks at *
  omega

/-! ### The fold that finds the top source -/

/-- One step of the search: source `s` replaces the best one so far when it is live and of strictly higher priority. -/
def Dev.betterSrc (d : Dev) (best : Option Nat) (s : Nat) : Option Nat :=
  if d.srcPend s && d.srcEn s then
    match best with
    | none => some s
    | some b => if d.srcPrio b < d.srcPrio s then some s else some b
  else best

theorem Dev.topSrc_eq_foldl (d : Dev) : d.topSrc = (List.range 64).foldl d.betterSrc none := rfl

theorem Dev.betterSrc_of_not_live {d : Dev} {s : Nat} (best : Option Nat) (h : ¬d.srcLive s) : d.betterSrc best s = best := by
  unfold Dev.betterSrc
  rw [if_neg (by simpa [Dev.srcLive] using h)]

theorem Dev.betterSrc_none {d : Dev} {s : Nat} (h : d.srcLive s) : d.betterSrc none s = some s := by
  unfold Dev.betterSrc
  rw [if_pos (by simpa [Dev.srcLive] using h)]

theorem Dev.betterSrc_some {d : Dev} {s : Nat} (b : Nat) (h : d.srcLive s) :
    d.betterSrc (some b) s = if d.srcPrio b < d.srcPrio s then some s else some b := by
  unfold Dev.betterSrc
  rw [if_pos (by simpa [Dev.srcLive] using h)]

/-- `best` is the answer for the sources below `n`: none of them is live, or it is the live one that outranks them all. -/
def Dev.IsTopBelow (d : Dev) (n : Nat) : Option Nat → Prop
  | none => ∀ u < n, ¬d.srcLive u
  | some s => (s < n ∧ d.srcLive s) ∧ ∀ u < n, d.srcLive u → d.outranks s u

theorem Dev.isTopBelow_succ_of_not_live {d : Dev} {n : Nat} {best : Option Nat} (h : d.IsTopBelow n best)
    (hn : ¬d.srcLive n) : d.IsTopBelow (n + 1) best := by
  cases best with
  | none => exact Nat.forall_lt_succ_right.mpr ⟨h, hn⟩
  | some b =>
    obtain ⟨⟨hlt, hb⟩, hmax⟩ := h
    exact ⟨⟨by omega, hb⟩, Nat.forall_lt_succ_right.mpr ⟨hmax, fun hl => absurd hl hn⟩⟩

/-- A live source after the best one `b` below it: it wins on priority only, since its number is the higher. -/
theorem Dev.isTopBelow_succ_of_live {d : Dev} {n b : Nat} (h : d.IsTopBelow n (some b)) (hn : d.srcLive n) :
    d.IsTopBelow (n + 1) (if d.srcPrio b < d.srcPrio n then some n else some b) := by
  obtain ⟨⟨hlt, hb⟩, hmax⟩ := h
  split
  next hp =>
    exact ⟨⟨by omega, hn⟩, Nat.forall_lt_succ_right.mpr
      ⟨fun u hu hl => Dev.outranks_trans (.inl hp) (hmax u hu hl), fun _ => d.outranks_refl n⟩⟩
  next hp =>
    have hbn : d.outranks b n := by unfold Dev.outranks; omega
    exact ⟨⟨by omega, hb⟩, Nat.forall_lt_succ_right.mpr ⟨hmax, fun _ => hbn⟩⟩

theorem Dev.betterSrc_isTopBelow {d : Dev} {n : Nat} {best : Option Nat} (h : d.IsTopBelow n best) :
    d.IsTopBelow (n + 1) (d.betterSrc best n) := by
  by_cases hn : d.srcLive n
  · cases best with
    | none =>
      rw [Dev.betterSrc_none hn]
      exact ⟨⟨by omega, hn⟩, Nat.forall_lt_succ_right.mpr
        ⟨fun u hu hl => absurd hl (h u hu), fun _ => d.outranks_refl n⟩⟩
    | some b =>
      rw [Dev.betterSrc_some b hn]
      exact Dev.isTopBelow_succ_of_live h hn
  · rw [Dev.betterSrc_of_not_live best hn]
    exact Dev.isTopBelow_succ_of_not_live h hn

theorem Dev.foldl_betterSrc_isTopBelow (d : Dev) (n : Nat) :
    d.IsTopBelow n ((List.range n).foldl d.betterSrc none) := by
  induction n with
  | zero => exact fun u hu => absurd hu (Nat.not_lt_zero u)
  | succ n ih =>
    rw [List.range_succ, List.foldl_append]
    exact Dev.betterSrc_isTopBelow ih

theorem Dev.topSrc_isTopBelow (d : Dev) : d.IsTopBelow 64 d.topSrc := by
  rw [Dev.topSrc_eq_foldl]
  exact d.foldl_betterSrc_isTopBelow 64

/-! ### What TOP names and reads -/

/-- At most one answer is right for the sources below `n`. -/
theorem Dev.isTopBelow_unique {d : Dev} {n : Nat} {a b : Option Nat} (ha : d.IsTopBelow n a) (hb : d.IsTopBelow n b) :
    a = b := by
  cases a with
  | none =>
    cases b with
    | none => rfl
    | some u => obtain ⟨⟨hu, hl⟩, -⟩ := hb; exact absurd hl (ha u hu)
  | some s =>
    obtain ⟨⟨hs, hl⟩, hmax⟩ := ha
    cases b with
    | none => exact absurd hl (hb s hs)
    | some u =>
      obtain ⟨⟨hu, hlu⟩, hmaxu⟩ := hb
      rw [Dev.outranks_antisymm (hmax u hu hlu) (hmaxu s hs hl)]

theorem Dev.topSrc_eq_iff {d : Dev} {a : Option Nat} : d.topSrc = a ↔ d.IsTopBelow 64 a :=
  ⟨fun h => h ▸ d.topSrc_isTopBelow, fun h => Dev.isTopBelow_unique d.topSrc_isTopBelow h⟩

theorem Dev.topWord_of_topSrc_none {d : Dev} (h : d.topSrc = none) : d.topWord = 0 := by
  unfold Dev.topWord
  rw [h]

theorem Dev.topWord_of_topSrc_some {d : Dev} {s : Nat} (h : d.topSrc = some s) :
    d.topWord = wn (2 ^ 31 + d.srcPrio s * 256 + s) := by
  unfold Dev.topWord
  rw [h]

/-- A live source has one above it that outranks every live source. -/
theorem Dev.exists_top_of_live {d : Dev} {s : Nat} (hs : s < 64) (hl : d.srcLive s) :
    ∃ u, (u < 64 ∧ d.srcLive u) ∧ ∀ v < 64, d.srcLive v → d.outranks u v := by
  have htop := d.topSrc_isTopBelow
  cases h : d.topSrc with
  | none => rw [h] at htop; exact absurd hl (htop s hs)
  | some u => rw [h] at htop; exact ⟨u, htop⟩

/-- A read of EVC.TOP shows the present PEND, EN and PRIO, not a register of its own (R377, R390). -/
theorem Dev.view_evcTop (d : Dev) (h : HostPort) : d.view h Reg.EVC_TOP = some d.topWord := rfl

/-- Settles O4, from the invariant of the search over the source numbers and the uniqueness of its answer. -/
theorem topSource : Obligations.TopSource := by
  unfold Obligations.TopSource
  intro d on
  refine ⟨fun hnone => ?_, fun s hs hmax => ?_, fun s hs => ?_, d.view_evcTop⟩
  · exact Dev.topWord_of_topSrc_none (Dev.topSrc_eq_iff.mpr fun u hu hl => hnone u ⟨hu, hl⟩)
  · exact Dev.topWord_of_topSrc_some (Dev.topSrc_eq_iff.mpr ⟨hs, fun u hu hl => hmax u ⟨hu, hl⟩⟩)
  · obtain ⟨hlt, hlive⟩ := hs
    obtain ⟨u, hu, hmax⟩ := Dev.exists_top_of_live hlt hlive
    exact ⟨u, hu, fun v ⟨hv, hlv⟩ => hmax v hv hlv⟩

end Sys2Proof.Machine
end

section
/-!
Before DONE (R398): the port takes no frame until the KEYS step ends; from then on it answers, a word outside the blocks of
start-up reads its reset value, and a write there is refused with 08h. The sequencers and the occurrences that a frame
brings up to date move neither the start-up step nor the life-cycle log, and these alone decide which words are reached.
-/

namespace Sys2Proof.Machine

/-! ### Which words the host reaches -/

theorem Dev.reaches_congr {d e : Dev} (hboot : e.boot = d.boot) (hsec : e.sec = d.sec) (a : Nat) :
    e.reaches a = d.reaches a := by
  unfold Dev.reaches Dev.up Dev.inquiry Dev.lcState
  rw [hboot, hsec]

/-- Before DONE the host reaches no word outside SYS, LCS, SEC, HST and EVC, the records in RETURNED apart (R350, R398). -/
theorem Dev.not_reaches {d : Dev} {a : Nat} (hup : d.up = false) (ha : (0x2000 ≤ a ∧ a < 0x4000) ∨ 0x8000 ≤ a)
    (hrec : d.inquiry = true → a < 0x70000 ∨ 0x71100 ≤ a) : d.reaches a = false := by
  have hearly : earlyBlock a = false := by
    unfold earlyBlock
    rw [Bool.or_eq_false_iff, decide_eq_false_iff_not, decide_eq_false_iff_not]
    omega
  have hinq : (d.inquiry && decide (0x70000 ≤ a ∧ a < 0x71100)) = false := by
    cases hd : d.inquiry with
    | false => rfl
    | true =>
      rw [Bool.true_and, decide_eq_false_iff_not]
      have := hrec hd
      omega
  unfold Dev.reaches
  rw [hup, hearly, hinq]
  rfl

theorem Dev.takesFrames_of_started {d : Dev} (hst : d.boot.st ≠ .reset ∧ d.boot.st ≠ .wipe ∧ d.boot.st ≠ .keys)
    (hpwr : d.pwr.st = .run ∨ d.pwr.st = .hold) (hio : d.pwr.oor.getD 3 false = false) : d.takesFrames = true := by
  obtain ⟨hreset, hwipe, hkeys⟩ := hst
  unfold Dev.takesFrames
  rw [hio]
  rcases hpwr with h | h <;> simp [h, hreset, hwipe, hkeys]

theorem Dev.takesFrames_of_early {d : Dev} (h : d.boot.st = .wipe ∨ d.boot.st = .keys) : d.takesFrames = false := by
  unfold Dev.takesFrames
  rcases h with h | h <;> rw [h] <;> rfl

theorem Dev.boot_ne_reset_of_takesFrames {d : Dev} (h : d.takesFrames = true) : d.boot.st ≠ .reset := by
  intro hr
  unfold Dev.takesFrames at h
  simp [hr] at h

theorem HostPort.after_of_ne_reset {d : Dev} (h : HostPort) (hd : d.boot.st ≠ .reset) : h.after d = h := by
  unfold HostPort.after
  rw [if_neg hd]

/-! ### What a frame brings up to date -/

theorem Dev.onlyParts_refl (d : Dev) (ps : List Part) : d.onlyParts d ps := fun p _ => by cases p <;> rfl

theorem Dev.stepRefsAt_onlyParts (d : Dev) (n : Stx) (now : Nat) : d.onlyParts (d.stepRefsAt n now) [.stepd] := by
  intro p hp
  unfold Dev.stepRefsAt
  cases p
  case stepd => exact absurd (List.mem_singleton_self _) hp
  all_goals split <;> rfl

theorem Dev.microstep_onlyParts (d : Dev) (n : Stx) : d.onlyParts (d.microstep n) [.stepd] := by
  intro p hp
  refine Dev.same_trans ?_ (Dev.stepRefsAt_onlyParts _ n _ p hp)
  cases p
  case stepd => exact absurd (List.mem_singleton_self _) hp
  all_goals rfl

theorem Dev.microstepRun_onlyParts (d : Dev) (n : Stx) (k : Nat) : d.onlyParts (d.microstepRun n k) [.stepd] := by
  induction k generalizing d with
  | zero => exact d.onlyParts_refl _
  | succ k ih => exact fun p hp => Dev.same_trans (d.microstep_onlyParts n p hp) (ih (d.microstep n) p hp)

/-- Bringing the sequencers up to date changes the step drives and registers alone (R195). -/
theorem Dev.sequenceNow_onlyParts (d : Dev) : d.onlyParts d.sequenceNow [.stepd] := by
  unfold Dev.sequenceNow
  generalize stxes = ns
  induction ns generalizing d with
  | nil => exact d.onlyParts_refl _
  | cons n ns ih => exact fun p hp => Dev.same_trans (d.microstepRun_onlyParts n _ p hp) (ih (d.sequence n) p hp)

/-- The passing of time changes the clock alone. -/
theorem Dev.upTo_changesSilently (d : Dev) (t : Nat) : d.changesSilently (d.upTo t) [.time] [] := by
  refine ⟨fun p hp => ?_, fun _ _ => rfl⟩
  cases p
  case time => exact absurd (List.mem_singleton_self _) hp
  all_goals rfl

/-- Raising a flag of HST changes the flag and what an announcement does (R373). -/
theorem Dev.raiseHst_changes (d : Dev) (b : Nat) (data : List Word) : d.changes (d.raiseHst b data) [] [Reg.HST_FLAGS] := by
  unfold Dev.raiseHst
  split
  next src sev h =>
    refine Dev.raise_changes d Reg.HST_FLAGS b ?_ sev 0xFF data
    split at h <;> (cases h; decide)

theorem goodFrame_onlyParts (d : Dev) (h : HostPort) : d.onlyParts (goodFrame d h).1 noticeParts := by
  have hcount := Dev.changes_wr d Reg.HST_FRAMES (d.rd Reg.HST_FRAMES + 1)
  unfold goodFrame
  dsimp only
  split
  · exact (Dev.changes_trans hcount (Dev.raiseHst_changes _ 6 [])).1
  · exact hcount.1

@[simp] theorem goodFrame_tag (d : Dev) (h : HostPort) : (goodFrame d h).2.tag = h.tag := rfl

/-- The controller and the port as the action of a good frame finds them (R195, R361, R371). -/
def frameStart (d : Dev) (h : HostPort) (t : Nat) : Dev × HostPort := goodFrame ((d.upTo t).sequenceNow.wakeOn 2) h

@[simp] theorem frameStart_tag (d : Dev) (h : HostPort) (t : Nat) : (frameStart d h t).2.tag = h.tag := goodFrame_tag _ h

theorem frameStart_onlyParts (d : Dev) (h : HostPort) (t : Nat) :
    d.onlyParts (frameStart d h t).1 (.time :: .stepd :: noticeParts) := by
  intro p hp
  obtain ⟨htime, hp⟩ := List.ne_and_not_mem_of_not_mem_cons hp
  obtain ⟨hstep, hp⟩ := List.ne_and_not_mem_of_not_mem_cons hp
  have hnow := (d.upTo_changesSilently t).1 p (by simpa using htime)
  have hseq := (d.upTo t).sequenceNow_onlyParts p (by simpa using hstep)
  have hwake := ((d.upTo t).sequenceNow.wakeOn_changes 2).1 p hp
  exact Dev.same_trans (Dev.same_trans hnow hseq) (Dev.same_trans hwake (goodFrame_onlyParts _ h p hp))

/-! ### Rows of the port -/

theorem exec_readFrame (t : Nat) (hcrc : Word) (a len : Nat) (bad : List (Nat × Ecc)) (s : State) :
    exec (.readFrame t hcrc a len bad) s
      = s.runHost fun d h => hostFrame d h t (hcrc == crc32c (hostPhase 1 a len [] [])) (readFrame a len bad) := rfl

theorem exec_writeFrame (t : Nat) (hcrc : Word) (a : Nat) (data : List Byte) (s : State) :
    exec (.writeFrame t hcrc a data) s
      = s.runHost fun d h => writeRow d h t (hcrc == crc32c (hostPhase 2 a data.length data [])) a data none := rfl

theorem exec_writeGated (t : Nat) (hcrc : Word) (a : Nat) (data : List Byte) (ctr : BitVec 32) (mac : List Byte) (s : State) :
    exec (.writeGated t hcrc a data ctr mac) s
      = s.runHost fun d h => writeRow d h t (hcrc == crc32c (hostPhase 3 a data.length data (leBytes 4 ctr.toNat ++ mac)))
          a data (some (ctr.toNat, mac)) := rfl

theorem exec_statusFrame (t : Nat) (hcrc : Word) (op : BitVec 8) (a len : Nat) (s : State) :
    exec (.statusFrame t hcrc op a len) s
      = s.runHost fun d h => hostFrame d h t (hcrc == crc32c (hostPhase op.toNat a len [] [])) (statusFrame op.toNat a len) :=
  rfl

theorem exec_writeCompletion (t : Nat) (s : State) :
    exec (.writeCompletion t) s = s.runHost fun d h => writeCompletion (d.upTo t) h := rfl

/-! ### Frames -/

@[simp] theorem trailer_result (d : Dev) (h : HostPort) (res : Nat) (held : Bool) (data : List Byte) :
    (trailer d h res held data).result = res := rfl
@[simp] theorem trailer_data (d : Dev) (h : HostPort) (res : Nat) (held : Bool) (data : List Byte) :
    (trailer d h res held data).data = data := rfl
@[simp] theorem trailer_tag (d : Dev) (h : HostPort) (res : Nat) (held : Bool) (data : List Byte) :
    (trailer d h res held data).tag = h.tag := rfl

theorem hostFrame_good {d : Dev} {h : HostPort} {t : Nat} {act : Dev → HostPort → Dev × HostPort × Nat × List Byte}
    {e : Dev} {g : HostPort} {res : Nat} {data : List Byte} (hd : d.takesFrames = true)
    (hact : act (frameStart d h t).1 (frameStart d h t).2 = (e, g, res, data)) :
    hostFrame d h t true act = (e, { g with reply := some (trailer e g res (decide (d.pwr.st = .hold)) data) }) := by
  have hd' : (d.upTo t).takesFrames = true := hd
  unfold frameStart at hact
  unfold hostFrame
  dsimp only
  rw [hd', Bool.not_true, if_neg Bool.false_ne_true, if_pos rfl, hact]
  rfl

theorem hostFrame_of_not_takesFrames {d : Dev} (h : HostPort) (t : Nat) (c : Bool) (hd : d.takesFrames = false)
    (act : Dev → HostPort → Dev × HostPort × Nat × List Byte) : hostFrame d h t c act = (d.upTo t, h) := by
  have hd' : (d.upTo t).takesFrames = false := hd
  unfold hostFrame
  dsimp only
  rw [hd']
  rfl

/-- No WIDTH changes where no write was accepted: the tag stands. -/
theorem widthEdge_same_tag (d : Dev) (h : HostPort) : widthEdge h.tag d h = (d, h) := by
  unfold widthEdge
  split
  · rfl
  · split
    · rfl
    · rw [if_pos rfl]

theorem writeRow_of_not_takesFrames {d : Dev} (h : HostPort) (t : Nat) (c : Bool) (hd : d.takesFrames = false) (a : Nat)
    (data : List Byte) (gated : Option (Nat × List Byte)) : writeRow d h t c a data gated = (d.upTo t, h) := by
  unfold writeRow
  rw [hostFrame_of_not_takesFrames h t c hd]
  exact widthEdge_same_tag _ _

/-- The state after a row of the port, where the control die stays out of reset. -/
theorem exec_of_runHost {i : Instr} {s : State} {f : Dev → HostPort → Dev × HostPort} {d : Dev} {h : HostPort}
    (hi : exec i s = s.runHost f) (hf : f s.dev.begin s.host = (d, h)) (hd : d.boot.st ≠ .reset) :
    ∃ u, exec i s = .next u ∧ u.dev = d ∧ u.host = h := by
  refine ⟨s.after d h, ?_, rfl, HostPort.after_of_ne_reset h hd⟩
  rw [hi]
  unfold State.runHost
  rw [hf]

/-- A row of the port that only lets time pass has no effect. -/
theorem exec_unheard {i : Instr} {s : State} {f : Dev → HostPort → Dev × HostPort} {t : Nat}
    (hi : exec i s = s.runHost f) (hf : f s.dev.begin s.host = (s.dev.begin.upTo t, s.host)) (hst : s.dev.boot.st ≠ .reset) :
    ∃ u, exec i s = .next u ∧ u.host = s.host ∧ s.dev.begin.changesSilently u.dev [.time] [] := by
  obtain ⟨u, hu, hdev, hhost⟩ := exec_of_runHost hi hf hst
  exact ⟨u, hu, hhost, hdev ▸ s.dev.begin.upTo_changesSilently t⟩

/-- A good frame whose action leaves the controller and the port alone answers what the action says. -/
theorem exec_answers {i : Instr} {s : State} {t : Nat} {act : Dev → HostPort → Dev × HostPort × Nat × List Byte}
    {res : Nat} {data : List Byte} (hi : exec i s = s.runHost fun d h => hostFrame d h t true act)
    (hs : s.dev.takesFrames = true)
    (hact : ∀ e h, e.boot = s.dev.boot → e.sec = s.dev.sec → act e h = (e, h, res, data)) :
    ∃ u, exec i s = .next u ∧ ∃ r, u.host.reply = some r ∧ r.result = res ∧ r.data = data ∧ r.tag = s.host.tag := by
  have hparts := frameStart_onlyParts s.dev.begin s.host t
  have hboot : (frameStart s.dev.begin s.host t).1.boot = s.dev.boot := hparts .boot (by decide)
  have hsec : (frameStart s.dev.begin s.host t).1.sec = s.dev.sec := hparts .sec (by decide)
  have hreset : (frameStart s.dev.begin s.host t).1.boot.st ≠ .reset := by
    rw [hboot]
    exact Dev.boot_ne_reset_of_takesFrames hs
  have hframe := hostFrame_good (d := s.dev.begin) hs (hact _ (frameStart s.dev.begin s.host t).2 hboot hsec)
  obtain ⟨u, hu, -, hhost⟩ := exec_of_runHost hi hframe hreset
  have hreply := congrArg HostPort.reply hhost
  exact ⟨u, hu, _, hreply, trailer_result .., trailer_data .., (trailer_tag ..).trans (frameStart_tag ..)⟩

/-! ### Reads of words not reached -/

/-- What a word that the host does not reach reads: 0 in table memory, else its reset value (R398). -/
def unreachedWord (a : Nat) : Word := if 0x200000 ≤ a then 0 else resetOf a

theorem Dev.hostRead_of_not_reaches {d : Dev} {a : Nat} (ha : d.reaches a = false) (h : HostPort) :
    d.hostRead h [] a = (d, unreachedWord a) := by
  have hlatch : d.latchRead a = d := by unfold Dev.latchRead; rw [ha]; rfl
  have hpeek : d.peek h a = unreachedWord a := by
    unfold Dev.peek unreachedWord
    rw [ha]
    simp
  unfold Dev.hostRead
  rw [hlatch, hpeek]
  rfl

theorem Dev.hostReads_of_not_reaches {d : Dev} (h : HostPort) (a n : Nat) (ha : ∀ k < n, d.reaches (a + 4 * k) = false) :
    d.hostReads h [] a n = (d, (List.range n).map fun k => unreachedWord (a + 4 * k)) := by
  induction n generalizing a with
  | zero => rfl
  | succ n ih =>
    have hnext : ∀ k, a + 4 + 4 * k = a + 4 * (k + 1) := fun k => by omega
    have htail := ih (a + 4) fun k hk => by rw [hnext]; exact ha (k + 1) (by omega)
    unfold Dev.hostReads
    rw [Dev.hostRead_of_not_reaches (a := a) (ha 0 (Nat.succ_pos n)) h]
    dsimp only
    rw [htail, List.range_succ_eq_map, List.map_cons, List.map_map]
    simp only [hnext]
    rfl

theorem rangeCheck_words {a n : Nat} (hn : 1 ≤ n ∧ n ≤ 1024) (ha : a % 4 = 0) (hrow : inOneRow a (4 * n) = true) :
    rangeCheck a (4 * n) = 0 := by
  unfold rangeCheck
  rw [if_neg (by omega), hrow]
  rfl

theorem readFrame_of_not_reaches {d : Dev} (h : HostPort) {a n : Nat} (hrange : rangeCheck a (4 * n) = 0)
    (ha : ∀ k < n, d.reaches (a + 4 * k) = false) :
    readFrame a (4 * n) [] d h = (d, h, 0, (List.range n).flatMap fun k => leBytes 4 (unreachedWord (a + 4 * k)).toNat) := by
  unfold readFrame
  rw [hrange, Nat.mul_div_cancel_left n (by decide), Dev.hostReads_of_not_reaches h a n ha]
  dsimp only
  rw [List.flatMap_map]
  rfl

/-! ### Completion of a write that reaches nothing -/

theorem Dev.writeBusy_of_not_reaches {d : Dev} {a : Nat} (ha : d.reaches a = false) (n : Nat) : d.writeBusy a n = true := by
  unfold Dev.writeBusy
  rw [ha]
  rfl

theorem Dev.applyWrite_of_not_reaches {d : Dev} {a : Nat} (ha : d.reaches a = false) (ws : List Word) (gate : Bool) :
    d.applyWrite a ws gate = (d, 8) := by
  unfold Dev.applyWrite
  rw [if_pos (Dev.writeBusy_of_not_reaches ha _)]

theorem Dev.addsEntry_of_not_reaches {d : Dev} {a : Nat} (ha : d.reaches a = false) (ws : List Word) (gate : Bool) :
    d.addsEntry a ws gate = false := by
  unfold Dev.addsEntry
  rw [Dev.writeBusy_of_not_reaches ha]
  rfl

/-- The controller after it reports the write `w` as failed with `code` (R365). -/
def Dev.writeFailed (d : Dev) (w : HostWrite) (code : Nat) : Dev :=
  let e := d.wlog code w.addr w.tag
  (e.wrF Reg.HST_ERR_CNT 31 8 (satAdd 0xFFFFFF (e.rdF Reg.HST_ERR_CNT 31 8) 1)).raiseHst 3 [wn w.tag, wn code, wn w.addr]

theorem writeCompletion_of_not_reaches {d : Dev} {h : HostPort} {w : HostWrite} {rest : List HostWrite}
    (hq : h.queue = w :: rest) (hw : w.gated = none) (ha : d.reaches w.addr = false) :
    writeCompletion d h = (d.writeFailed w 8, h.complete w rest 8) := by
  have hadds : d.headAdds w = false := by
    unfold Dev.headAdds
    rw [hw]
    exact Dev.addsEntry_of_not_reaches ha _ _
  have heffect : d.headEffect w = (d, 8) := by
    unfold Dev.headEffect
    rw [hw]
    exact Dev.applyWrite_of_not_reaches ha _ _
  unfold writeCompletion
  rw [hq]
  dsimp only
  rw [hadds, heffect, Bool.and_false]
  rfl

/-- Registers of the failure log. -/
def wlogRegs : List Nat := (List.range 8).map Reg.HST_WLOG_A ++ (List.range 8).map Reg.HST_WLOG_B

theorem wlogRegs_mem {i : Nat} (h : i < 8) : Reg.HST_WLOG_A i ∈ wlogRegs ∧ Reg.HST_WLOG_B i ∈ wlogRegs :=
  ⟨List.mem_append_left _ (List.mem_map_of_mem (List.mem_range.mpr h)),
    List.mem_append_right _ (List.mem_map_of_mem (List.mem_range.mpr h))⟩

/-- Writing one entry of the failure log. -/
theorem Dev.wlogEntry_changes (d : Dev) {i : Nat} (h : i < 8) (v u : Word) :
    d.changes ((d.wr (Reg.HST_WLOG_A i) v).wr (Reg.HST_WLOG_B i) u) [] wlogRegs := by
  obtain ⟨hA, hB⟩ := wlogRegs_mem h
  exact Dev.changes_mono (Dev.changes_trans (d.changes_wr _ v) (Dev.changes_wr _ _ u)) (List.Subset.refl _)
    (List.append_subset.mpr ⟨List.cons_subset.mpr ⟨hA, List.nil_subset _⟩, List.cons_subset.mpr ⟨hB, List.nil_subset _⟩⟩)

theorem Dev.wlog_changes (d : Dev) (code addr tag : Nat) : d.changes (d.wlog code addr tag) [] wlogRegs := by
  have hmove := Dev.changes_foldl (fun (e : Dev) k =>
    (e.wr (Reg.HST_WLOG_A (7 - k)) (e.rd (Reg.HST_WLOG_A (7 - k - 1)))).wr (Reg.HST_WLOG_B (7 - k))
      (e.rd (Reg.HST_WLOG_B (7 - k - 1)))) (List.range 7) (fun e k _ => e.wlogEntry_changes (by omega) _ _) d
  exact Dev.changes_mono (Dev.changes_trans hmove (Dev.wlogEntry_changes _ (by decide) _ _)) (by simp) (by simp)

theorem Dev.writeFailed_changes (d : Dev) (w : HostWrite) (code : Nat) :
    d.changes (d.writeFailed w code) [] (wlogRegs ++ [Reg.HST_FLAGS, Reg.HST_ERR_CNT]) := by
  have hlog := d.wlog_changes code w.addr w.tag
  refine Dev.changes_mono (Dev.changes_trans hlog (Dev.changes_trans (Dev.changes_wr _ Reg.HST_ERR_CNT _)
    (Dev.raiseHst_changes _ 3 [wn w.tag, wn code, wn w.addr]))) (by simp) (by simp)

/-! ### Rows that are host writes -/

/-- The row is a host write of a block reached from DONE on. -/
def Hosted (i : Instr) : Prop := ∃ f, ∀ s, exec i s = s.run (fun d => d.hosted f)

/-- The row is a host write of the record cursor. -/
def HostedRec (i : Instr) : Prop := ∃ f, ∀ s, exec i s = s.run (fun d => d.hostedRec f)

/-- The row is a host write of SYS, LCS, SEC, HST or EVC. -/
def HostedEarly (i : Instr) : Prop := ∃ f, ∀ s, exec i s = s.run (fun d => d.hostedEarly f)

theorem completes_unchanged {i : Instr} {pre : Dev → Prop} {f : Dev → Dev} (hi : ∀ s, exec i s = s.run f)
    (hf : ∀ d, pre d → f d = d) : completes i pre (fun d d' => d' = d) :=
  fun s hs => ⟨_, hi s, rfl, rfl, hf _ hs⟩

theorem Hosted.unchanged {i : Instr} {pre : Dev → Prop} (hi : Hosted i) (hpre : ∀ d, pre d → d.hostUp = false) :
    completes i pre (fun d d' => d' = d) := by
  obtain ⟨f, hf⟩ := hi
  refine completes_unchanged hf fun d hd => ?_
  unfold Dev.hosted
  rw [hpre d hd]
  rfl

theorem HostedEarly.unchanged {i : Instr} (hi : HostedEarly i) :
    completes i (fun d => d.takesFrames = false) (fun d d' => d' = d) := by
  obtain ⟨f, hf⟩ := hi
  refine completes_unchanged hf fun d hd => ?_
  unfold Dev.hostedEarly
  rw [hd]
  rfl

/-- Where the port takes no frames or start-up is not over outside RETURNED, the record cursor is not reached. -/
theorem Dev.recCtrl_not_reached {d : Dev} (hd : d.hostUp = false) (hq : d.takesFrames = false ∨ d.inquiry = false) :
    (d.takesFrames && d.reaches Reg.REC_CTRL) = false := by
  cases ht : d.takesFrames with
  | false => rfl
  | true =>
    have hup : d.up = false := by simpa [Dev.hostUp, ht] using hd
    have hinq : d.inquiry = false := by simpa [ht] using hq
    exact Dev.not_reaches hup (by decide) (by simp [hinq])

theorem HostedRec.unchanged {i : Instr} {pre : Dev → Prop} (hi : HostedRec i)
    (hpre : ∀ d, pre d → d.hostUp = false ∧ (d.takesFrames = false ∨ d.inquiry = false)) :
    completes i pre (fun d d' => d' = d) := by
  obtain ⟨f, hf⟩ := hi
  refine completes_unchanged hf fun d hd => ?_
  obtain ⟨hup, hq⟩ := hpre d hd
  unfold Dev.hostedRec
  rw [Dev.recCtrl_not_reached hup hq]
  rfl

theorem cursorLo_hostedRec (v : Word) : HostedRec (.cursorLo v) := ⟨_, fun _ => rfl⟩
theorem seekOldest_hostedRec : HostedRec .seekOldest := ⟨_, fun _ => rfl⟩
theorem seekNewest_hostedRec : HostedRec .seekNewest := ⟨_, fun _ => rfl⟩

/-! ### What the rows answer before DONE -/

theorem statusFrame_answers (s : State) (t : Nat) (hs : s.dev.takesFrames = true) :
    ∃ u, exec (.statusFrame t (crc32c (hostPhase 4 0 0 [] [])) 4 0 0) s = .next u
      ∧ ∃ r, u.host.reply = some r ∧ r.result = 0 ∧ r.tag = s.host.tag := by
  have hi : exec (.statusFrame t (crc32c (hostPhase 4 0 0 [] [])) 4 0 0) s
      = s.runHost fun d h => hostFrame d h t true (statusFrame 4 0 0) := by
    rw [exec_statusFrame, show (4 : BitVec 8).toNat = 4 from rfl, beq_self_eq_true]
  obtain ⟨u, hu, r, hr, hres, -, htag⟩ := exec_answers hi hs fun _ _ _ _ => rfl
  exact ⟨u, hu, r, hr, hres, htag⟩

theorem readFrame_of_unreached (s : State) (t : Nat) {a n : Nat} (hs : s.dev.takesFrames = true)
    (hrange : rangeCheck a (4 * n) = 0) (ha : ∀ k < n, s.dev.reaches (a + 4 * k) = false) :
    ∃ u, exec (.readFrame t (crc32c (hostPhase 1 a (4 * n) [] [])) a (4 * n) []) s = .next u
      ∧ ∃ r, u.host.reply = some r ∧ r.result = 0
        ∧ r.data = (List.range n).flatMap fun k => leBytes 4 (unreachedWord (a + 4 * k)).toNat := by
  have hi : exec (.readFrame t (crc32c (hostPhase 1 a (4 * n) [] [])) a (4 * n) []) s
      = s.runHost fun d h => hostFrame d h t true (readFrame a (4 * n) []) := by
    rw [exec_readFrame, beq_self_eq_true]
  obtain ⟨u, hu, r, hr, hres, hdata, -⟩ := exec_answers hi hs fun e h hboot hsec =>
    readFrame_of_not_reaches h hrange fun k hk => (Dev.reaches_congr hboot hsec _).trans (ha k hk)
  exact ⟨u, hu, r, hr, hres, hdata⟩

theorem frame_of_not_takesFrames (s : State) (t : Nat) (hs : s.dev.takesFrames = false) (hst : s.dev.boot.st ≠ .reset)
    (hcrc : Word) (a len : Nat) (data : List Byte) (bad : List (Nat × Ecc)) (ctr : BitVec 32) (mac : List Byte) (op : BitVec 8) :
    ∀ i ∈ [Instr.readFrame t hcrc a len bad, .writeFrame t hcrc a data, .writeGated t hcrc a data ctr mac,
        .statusFrame t hcrc op a len],
      ∃ u, exec i s = .next u ∧ u.host = s.host ∧ s.dev.begin.changesSilently u.dev [.time] [] := by
  have hs' : s.dev.begin.takesFrames = false := hs
  simp only [List.forall_mem_cons, List.not_mem_nil, false_implies, implies_true, and_true]
  refine ⟨?_, ?_, ?_, ?_⟩
  · exact exec_unheard (exec_readFrame t hcrc a len bad s) (hostFrame_of_not_takesFrames s.host t _ hs' _) hst
  · exact exec_unheard (exec_writeFrame t hcrc a data s) (writeRow_of_not_takesFrames s.host t _ hs' a data _) hst
  · exact exec_unheard (exec_writeGated t hcrc a data ctr mac s) (writeRow_of_not_takesFrames s.host t _ hs' a data _) hst
  · exact exec_unheard (exec_statusFrame t hcrc op a len s) (hostFrame_of_not_takesFrames s.host t _ hs' _) hst

theorem writeCompletion_of_unreached (s : State) (t : Nat) {w : HostWrite} {rest : List HostWrite}
    (hst : s.dev.boot.st ≠ .reset) (ha : s.dev.reaches w.addr = false) (hq : s.host.queue = w :: rest) (hw : w.gated = none) :
    ∃ u, exec (.writeCompletion t) s = .next u ∧ u.host = s.host.complete w rest 8
      ∧ s.dev.begin.changes u.dev [.time] (wlogRegs ++ [Reg.HST_FLAGS, Reg.HST_ERR_CNT]) := by
  have hnow : s.dev.begin.changes (s.dev.begin.upTo t) [.time] [] :=
    Dev.changesSilently_loud (s.dev.begin.upTo_changesSilently t)
  have hfail := (s.dev.begin.upTo t).writeFailed_changes w 8
  have hboot : ((s.dev.begin.upTo t).writeFailed w 8).boot = s.dev.boot := hfail.1 .boot (by decide)
  obtain ⟨u, hu, hdev, hhost⟩ := exec_of_runHost (exec_writeCompletion t s) (writeCompletion_of_not_reaches hq hw ha)
    (by rw [hboot]; exact hst)
  exact ⟨u, hu, hhost, hdev ▸ Dev.changes_trans hnow hfail⟩

/-- Settles O5: the four frames and the completion by what the port does with a word it does not reach, the command rows by
the gate through which each of them is written. -/
theorem beforeDone : Obligations.BeforeDone := by
  unfold Obligations.BeforeDone
  intro started other
  have unreached : ∀ {d : Dev} {a : Nat}, d.up = false → other d a → d.reaches a = false :=
    fun hup ⟨ha, hrec⟩ => Dev.not_reaches hup ha hrec
  refine ⟨?status, ?early, ?read, ?write, ?later, ?first⟩
  case status =>
    exact fun t s hst hpwr hio => statusFrame_answers s t (Dev.takesFrames_of_started hst hpwr hio)
  case early =>
    intro t s hst
    have hreset : s.dev.boot.st ≠ .reset := by rcases hst with h | h <;> rw [h] <;> decide
    exact frame_of_not_takesFrames s t (Dev.takesFrames_of_early hst) hreset
  case read =>
    intro t a n s hs hup hlo hhi ha halign hrow
    exact readFrame_of_unreached s t hs (rangeCheck_words ⟨hlo, hhi⟩ halign hrow) fun k hk => unreached hup (ha k hk)
  case write =>
    intro t w rest s hst hup ha hq hw
    obtain ⟨u, hu, hhost, hch⟩ := writeCompletion_of_unreached s t hst.1 (unreached hup ha) hq hw
    refine ⟨u, hu, ?_, ?_, ?_, ?_, ?_, hch⟩ <;> rw [hhost] <;> rfl
  case later =>
    intro gate on high bankB v tgt attr tgt2 mask p a c ch n x w h i adr row hrow
    by_cases hrec : row = .cursorLo v ∨ row = .seekOldest ∨ row = .seekNewest
    · have hcursor : HostedRec row := by
        rcases hrec with rfl | rfl | rfl
        · exact cursorLo_hostedRec v
        · exact seekOldest_hostedRec
        · exact seekNewest_hostedRec
      exact hcursor.unchanged fun d ⟨hup, hq⟩ => ⟨hup, hq hrec⟩
    · have hhosted : Hosted row := by
        fin_cases hrow
        any_goals exact ⟨_, fun _ => rfl⟩
        all_goals simp at hrec
      exact hhosted.unchanged fun d hd => hd.1
  case first =>
    intro g k v ofs bytes row hrow
    have hearly : HostedEarly row := by fin_cases hrow <;> exact ⟨_, fun _ => rfl⟩
    exact hearly.unchanged

end Sys2Proof.Machine
end
